-- ==== Sys2Proof/Word.lean ====
section
/-! DEFINITION. The word types of Qupls2 (spec/00_scope.md R10, R11, R15). -/

namespace Sys2Proof

/-- A byte of memory (spec/20_memory.md R100). -/
abbrev Byte := BitVec 8

/-- The content of a general register, an address, or the instruction pointer
(spec/10_state.md R20, R30). -/
abbrev Word := BitVec 64

end Sys2Proof
end

