-- ==== Sys2Proof/Config.lean ====
section
/-! DEFINITION. What the spec leaves to the implementation or leaves open: constants without a body, of which nothing can be
proved, and the two numbers built from them. -/

namespace Sys2Proof.Config

/-- The free value of slot `slot` at draw number `draw`: every `UNSPEC_n` of the spec (spec/00_scope.md R12). Log 15. -/
opaque free (draw slot : Nat) : BitVec 64

/-- The rows of the CPUID table that `Params.cpuid` does not give, constant for a run (spec/93_implementation_defined.md U28).
Log 25. -/
opaque cpuidRow (idx : BitVec 64) : BitVec 64

/-- What selects `CAUSE_CHK` from its range. Log 24. -/
opaque causeChkChoice : Nat

/-- `CAUSE_CHK`, a code in 67..251 (spec/92_eei_decisions.md D28). Log 24. -/
def causeChk : BitVec 8 := BitVec.ofNat 8 (67 + causeChkChoice % 185)

/-! The results of floating-point arithmetic: functions of format, rounding mode and operands, and nothing more
(spec/46_floating_point.md R559, D40). Log 26. -/

/-- `fp_add_F(rm, a, b)`. -/
opaque fpAdd (w : Nat) (rm : BitVec 3) (a b : BitVec w) : BitVec w
/-- `fp_fma_F(rm, a, b, c)`. -/
opaque fpFma (w : Nat) (rm : BitVec 3) (a b c : BitVec w) : BitVec w
/-- `fp_sqrt_F(rm, a)`. -/
opaque fpSqrt (w : Nat) (rm : BitVec 3) (a : BitVec w) : BitVec w
/-- `fp_cos_F(rm, a)`. -/
opaque fpCos (w : Nat) (rm : BitVec 3) (a : BitVec w) : BitVec w

/-! The notions of the capability instructions that the spec uses without defining (spec/49_capability_system_modifiers.md
R781). Log 22. -/

/-- Whether a capability of an object type is sealed, beside the sentries (R803). -/
opaque sealedOtype (otype : BitVec 4) : Bool
/-- Whether a capability of an object type is a sentry. -/
opaque sentryOtype (otype : BitVec 4) : Bool
/-- The object type that a capability takes when it is sealed as a sentry, where it is that of a sentry. -/
opaque sentryChoice (c : BitVec 64) : BitVec 4
/-- Whether a capability is legally derivable. -/
opaque capDerivable (c : BitVec 64) : Bool
/-- The cause code of a capability exception: `CAUSE_CHK`, the one unassigned code that is raised (spec/
93_implementation_defined.md U39). Log 22. -/
def capCause : BitVec 8 := causeChk
/-- What selects `ccmpOverflowBit` from its range. -/
opaque ccmpOverflowChoice : Nat
/-- The bit of a CCmp result that is its overflow bit: any but those of EQ and LE, bits 0 and 3, which the result holds as well
(spec/49_capability_system_modifiers.md R814). Log 22. -/
def ccmpOverflowBit : Nat := if ccmpOverflowChoice % 62 < 2 then ccmpOverflowChoice % 62 + 1 else ccmpOverflowChoice % 62 + 2

/-- Whether the QIC sets a pending bit when a message arrives; otherwise it does when the interrupt is delivered
(spec/60_exceptions.md R947). Log 12. -/
opaque pendingOnReceipt : Bool

end Sys2Proof.Config
end

