-- ==== Sys2Proof/Syntax.lean ====
section
/-! DEFINITION. The syntax of Qupls2: the operand forms of spec/30_encoding.md section 2 and one constructor
of `Instr` for every row of spec/opcode_table.json. Fields drawn as "~" have no place here (R260 (c)). A row that is only
a name, or a reserved row, carries no operands. -/

namespace Sys2Proof

/-- Integer precision: the lane width 8, 16, 32 or 64 (spec/30_encoding.md R224, R225). -/
inductive Prec where
  | byte | wyde | tetra | octa
deriving DecidableEq, Repr

/-- Floating-point format: 16, 32 or 64 bits (spec/46_floating_point.md R552). -/
inductive FFmt where
  | half | single | double
deriving DecidableEq, Repr

/-- The immediate of an RI instruction, one case for each length (spec/30_encoding.md R225). -/
inductive Imm where
  | i23 (v : BitVec 23)
  | i47 (v : BitVec 47)
  | i71 (v : BitVec 71)
deriving DecidableEq, Repr

/-- The displacement (or limit) of a load, store or indirect jump, one case for each length
(spec/30_encoding.md R228, spec/48_branch_flow.md R746, R749). -/
inductive Disp where
  | d16 (v : BitVec 16)
  | d40 (v : BitVec 40)
  | d64 (v : BitVec 64)
deriving DecidableEq, Repr

/-- Operands of the register form (spec/30_encoding.md R223). -/
structure R3 where
  prec : Prec
  op4 : BitVec 4
  nc : Bool
  rc : BitVec 6
  nb : Bool
  rb : BitVec 6
  na : Bool
  ra : BitVec 6
  nt : Bool
  rt : BitVec 6
deriving DecidableEq, Repr

/-- Operands of the one-operand form (spec/40_arithmetic.md R313). -/
structure R1 where
  prec : Prec
  op4 : BitVec 4
  na : Bool
  ra : BitVec 6
  nt : Bool
  rt : BitVec 6
deriving DecidableEq, Repr

/-- Operands of the register-immediate form, 48, 72 or 96 bits (spec/30_encoding.md R225). -/
structure RI where
  imm : Imm
  prec : Prec
  na : Bool
  ra : BitVec 6
  nt : Bool
  rt : BitVec 6
deriving DecidableEq, Repr

/-- Operands of the 24-bit register-immediate form (spec/30_encoding.md R225, R226). -/
structure RI24 where
  imm : BitVec 5
  ra : BitVec 5
  rt : BitVec 5
deriving DecidableEq, Repr

/-- Operands of AUIIP in 24 bits (spec/40_arithmetic.md R309). -/
structure Auiip24 where
  imm : BitVec 5
  rt : BitVec 5
deriving DecidableEq, Repr

/-- Operands of AUIIP in 72 or 96 bits (spec/40_arithmetic.md R309). -/
structure Auiip where
  imm : Imm
  nt : Bool
  rt : BitVec 6
deriving DecidableEq, Repr

/-- Operands of SX and ZX with an immediate bit number (spec/42_data_movement.md R393, R394). -/
structure ExtImm where
  imm : BitVec 6
  nt : Bool
  rt : BitVec 6
deriving DecidableEq, Repr

/-- Operands of SX with a bit number from a register (spec/42_data_movement.md R393). -/
structure ExtReg where
  na : Bool
  ra : BitVec 6
  nt : Bool
  rt : BitVec 6
deriving DecidableEq, Repr

/-- Operands of MOVE (spec/42_data_movement.md R388). -/
structure MoveF where
  a : Bool
  na : Bool
  ra : BitVec 6
  nt : Bool
  rt : BitVec 6
deriving DecidableEq, Repr

/-- Operands of the CSR form (spec/40_arithmetic.md R317). -/
structure Csr where
  regno : BitVec 14
  na : Bool
  ra : BitVec 6
  nt : Bool
  rt : BitVec 6
deriving DecidableEq, Repr

/-- Operands of the CSRI form (spec/40_arithmetic.md R317). -/
structure CsrImm where
  regno : BitVec 14
  uimm : BitVec 7
  nt : Bool
  rt : BitVec 6
deriving DecidableEq, Repr

/-- Operands of CHK and CHKU (spec/40_arithmetic.md R312). -/
structure Chk where
  op4 : BitVec 4
  nc : Bool
  rc : BitVec 6
  nb : Bool
  rb : BitVec 6
  na : Bool
  ra : BitVec 6
  offs : BitVec 6
deriving DecidableEq, Repr

/-- Operands of CPUID (spec/40_arithmetic.md R316). -/
structure Cpuid where
  uimm : BitVec 6
  nb : Bool
  rb : BitVec 6
  na : Bool
  ra : BitVec 6
  nt : Bool
  rt : BitVec 6
deriving DecidableEq, Repr

/-- Operands of BMM (spec/41_multiply_divide.md R352). -/
structure Bmm where
  op3 : BitVec 3
  nb : Bool
  rb : BitVec 6
  na : Bool
  ra : BitVec 6
  nt : Bool
  rt : BitVec 6
deriving DecidableEq, Repr

/-- Operands of BYTENDX, WYDENDX and TETRANDX (spec/40_arithmetic.md R310). -/
structure Ndx where
  prec : Prec
  bi : Bool
  op2 : BitVec 2
  mask : BitVec 8
  nb : Bool
  rb : BitVec 6
  na : Bool
  ra : BitVec 6
  nt : Bool
  rt : BitVec 6
deriving DecidableEq, Repr

/-- Operands of SLLP (spec/45_shift_bitfield.md R501). -/
structure ShiftH where
  prec : Prec
  h : Bool
  nc : Bool
  rc : BitVec 6
  nb : Bool
  rb : BitVec 6
  na : Bool
  ra : BitVec 6
  nt : Bool
  rt : BitVec 6
deriving DecidableEq, Repr

/-- Operands of SLLPI (spec/45_shift_bitfield.md R501). -/
structure ShiftHI where
  prec : Prec
  h : Bool
  imm : BitVec 7
  nb : Bool
  rb : BitVec 6
  na : Bool
  ra : BitVec 6
  nt : Bool
  rt : BitVec 6
deriving DecidableEq, Repr

/-- Operands of the register form of the shift group (spec/45_shift_bitfield.md R501). -/
structure Shift where
  prec : Prec
  nc : Bool
  rc : BitVec 6
  nb : Bool
  rb : BitVec 6
  na : Bool
  ra : BitVec 6
  nt : Bool
  rt : BitVec 6
deriving DecidableEq, Repr

/-- Operands of the immediate form of the shift group (spec/45_shift_bitfield.md R501). -/
structure ShiftI where
  prec : Prec
  me : BitVec 7
  mb : BitVec 7
  nb : Bool
  rb : BitVec 6
  na : Bool
  ra : BitVec 6
  nt : Bool
  rt : BitVec 6
deriving DecidableEq, Repr

/-- Operands of FMA and FMS, whose row fixes Nc (spec/46_floating_point.md R556, R568). -/
structure Flt3 where
  fmt : FFmt
  rm : BitVec 3
  rc : BitVec 6
  nb : Bool
  rb : BitVec 6
  na : Bool
  ra : BitVec 6
  nt : Bool
  rt : BitVec 6
deriving DecidableEq, Repr

/-- Operands of FADD and FSUB, whose row fixes Nb (spec/46_floating_point.md R563, R564). -/
structure FltAdd where
  fmt : FFmt
  rm : BitVec 3
  rb : BitVec 6
  na : Bool
  ra : BitVec 6
  nt : Bool
  rt : BitVec 6
deriving DecidableEq, Repr

/-- Operands of FCMP, FSLT and FSNE, which use no rounding mode (spec/46_floating_point.md R565, R570, R571). -/
structure FltCmp where
  fmt : FFmt
  nb : Bool
  rb : BitVec 6
  na : Bool
  ra : BitVec 6
  nt : Bool
  rt : BitVec 6
deriving DecidableEq, Repr

/-- Operands of FABS and FNABS, whose row fixes Nt (spec/46_floating_point.md R561, R562). -/
structure FltAbs where
  fmt : FFmt
  na : Bool
  ra : BitVec 6
  rt : BitVec 6
deriving DecidableEq, Repr

/-- Operands of FSQRT and FTRUNC (spec/46_floating_point.md R572, R573). -/
structure Flt1 where
  fmt : FFmt
  rm : BitVec 3
  na : Bool
  ra : BitVec 6
  nt : Bool
  rt : BitVec 6
deriving DecidableEq, Repr

/-- Operands of FCOS (spec/46_floating_point.md R567). -/
structure FltCos where
  fmt : FFmt
  rm : BitVec 3
  prc3 : BitVec 3
  na : Bool
  ra : BitVec 6
  nt : Bool
  rt : BitVec 6
deriving DecidableEq, Repr

/-- Operands of the scaled indexed form of loads, stores and addresses (spec/47_load_store.md R630). -/
structure LS where
  disp : Disp
  sc : BitVec 3
  rb : BitVec 6
  ra : BitVec 6
  rt : BitVec 6
deriving DecidableEq, Repr

/-- Operands of the 24-bit form of loads and stores (spec/47_load_store.md R630). -/
structure LS24 where
  disp : BitVec 5
  ra : BitVec 5
  rt : BitVec 5
deriving DecidableEq, Repr

/-- Operands of the 24-bit register form (spec/40_arithmetic.md R302). -/
structure R24 where
  rb : BitVec 5
  ra : BitVec 5
  rt : BitVec 5
deriving DecidableEq, Repr

/-- Operands of a conditional branch with a displacement or address (spec/48_branch_flow.md R701). -/
structure Br where
  prc : BitVec 2
  tgt : BitVec 21
  rb : BitVec 6
  ra : BitVec 6
deriving DecidableEq, Repr

/-- Operands of a conditional branch to a register (spec/48_branch_flow.md R702). -/
structure BrReg where
  prc : BitVec 2
  tgt : BitVec 15
  rc : BitVec 6
  rb : BitVec 6
  ra : BitVec 6
deriving DecidableEq, Repr

/-- Operands of FBcc with a displacement or address (spec/48_branch_flow.md R733). -/
structure FBr where
  prc : BitVec 2
  tgt : BitVec 21
  rb : BitVec 6
  ra : BitVec 6
  fn : BitVec 4
deriving DecidableEq, Repr

/-- Operands of FBcc to a register (spec/48_branch_flow.md R733). -/
structure FBrReg where
  prc : BitVec 2
  tgt : BitVec 15
  rc : BitVec 6
  rb : BitVec 6
  ra : BitVec 6
  fn : BitVec 4
deriving DecidableEq, Repr

/-- Operands of BSR and direct JSR (spec/48_branch_flow.md R740). -/
structure Bsr where
  const : BitVec 37
  lk : BitVec 2
deriving DecidableEq, Repr

/-- Operands of memory indirect JMP (spec/48_branch_flow.md R749, R750). -/
structure JmpI where
  limit : Disp
  ar : BitVec 2
  sc : BitVec 3
  rb : BitVec 6
  ra : BitVec 6
deriving DecidableEq, Repr

/-- Operands of memory indirect JSR (spec/48_branch_flow.md R749, R751). -/
structure JsrI where
  limit : Disp
  ar : BitVec 2
  sc : BitVec 3
  rb : BitVec 6
  ra : BitVec 6
  rt : BitVec 6
deriving DecidableEq, Repr

/-- Operands of scaled indexed JMP (spec/48_branch_flow.md R746). -/
structure JmpS where
  disp : Disp
  sc : BitVec 3
  rb : BitVec 6
  ra : BitVec 6
deriving DecidableEq, Repr

/-- Operands of RET in 24 bits (spec/48_branch_flow.md R760). -/
structure Ret24 where
  imm : BitVec 5
  ra : BitVec 5
  offs : BitVec 4
deriving DecidableEq, Repr

/-- Operands of RET in 48 or 96 bits (spec/48_branch_flow.md R760). -/
structure RetF where
  imm : Imm
  na : Bool
  ra : BitVec 6
  offs : BitVec 4
deriving DecidableEq, Repr

/-- Operands of CAndPerm (spec/49_capability_system_modifiers.md R810). -/
structure CapR where
  nb : Bool
  rb : BitVec 6
  na : Bool
  ca : BitVec 6
  nt : Bool
  ct : BitVec 6
deriving DecidableEq, Repr

/-- Operands of CAndPermi (spec/49_capability_system_modifiers.md R811). -/
structure CapI where
  imm : BitVec 18
  na : Bool
  ca : BitVec 6
  nt : Bool
  ct : BitVec 6
deriving DecidableEq, Repr

/-- Operands of CBuildCap and CCmp (spec/49_capability_system_modifiers.md R812, R814). -/
structure Cap3 where
  cb : BitVec 6
  ca : BitVec 6
  ct : BitVec 6
deriving DecidableEq, Repr

/-- Operands of CClearTag (spec/49_capability_system_modifiers.md R813). -/
structure Cap2 where
  ca : BitVec 6
  ct : BitVec 6
deriving DecidableEq, Repr

/-- Operands of a set-on-immediate row, which the opcode map names at any length: the pattern of
spec/44_comparison.md R453 in the long forms, the 24-bit payload otherwise (R455). -/
inductive SetImm where
  | short (payload : BitVec 15)
  | long (f : RI)
deriving DecidableEq, Repr

/-- An RI instruction in 24 bits or in 48, 72 or 96 (spec/30_encoding.md R225): two rows of one mnemonic. -/
inductive RIForm where
  | short (f : RI24)
  | long (f : RI)
deriving DecidableEq, Repr

/-- AUIIP in 24 bits or in 72 or 96 (spec/40_arithmetic.md R309): two rows of one mnemonic. -/
inductive AuiipForm where
  | short (f : Auiip24)
  | long (f : Auiip)
deriving DecidableEq, Repr

/-- RET in 24 bits or in 48 or 96 (spec/48_branch_flow.md R760): two rows of one mnemonic. -/
inductive RetForm where
  | short (f : Ret24)
  | long (f : RetF)
deriving DecidableEq, Repr

/-- ATOM with five levels in 24 bits or eleven in 48 (spec/49_capability_system_modifiers.md R844): two rows of one
mnemonic. -/
inductive AtomForm where
  | short (mask : BitVec 15)
  | long (mask : BitVec 33)
deriving DecidableEq, Repr

/-- One constructor for every row of spec/opcode_table.json; the docstring names the row's mnemonic and rule.
Two rows of one mnemonic (the 24-bit and the long form of one instruction) share a constructor, whose operand says which.
The constructors with operands stand first: the compiler of Lean admits no more than 244 of them. -/
inductive Instr where
  /-- ZX, 24 bits, R394. -/
  | zx (f : ExtImm)
  /-- SX__immediate_width, 24 bits, R393. -/
  | sxImm (f : ExtImm)
  /-- SX__register_width, 24 bits, R393. -/
  | sxReg (f : ExtReg)
  /-- MOVE, 24 bits, R388. -/
  | move (f : MoveF)
  /-- ADDI, 24/48 bits, R304. -/
  | addi (f : RIForm)
  /-- SUBFI, 24/48 bits, R329. -/
  | subfi (f : RIForm)
  /-- MULI, 24/48 bits, R358. -/
  | muli (f : RIForm)
  /-- ANDI, 24/48 bits, R422. -/
  | andi (f : RIForm)
  /-- ORI, 24/48 bits, R426. -/
  | ori (f : RIForm)
  /-- EORI, 24/48 bits, R424. -/
  | eori (f : RIForm)
  /-- CMPI, 24/48 bits, R446. -/
  | cmpi (f : RIForm)
  /-- DIVI, 24/48 bits, R354. -/
  | divi (f : RIForm)
  /-- MULUI, 24/48 bits, R361. -/
  | mului (f : RIForm)
  /-- CMPUI, 24/48 bits, R447. -/
  | cmpui (f : RIForm)
  /-- DIVUI, 24/48 bits, R356. -/
  | divui (f : RIForm)
  /-- ADD2UI, 24/48 bits, R305. -/
  | add2ui (f : RIForm)
  /-- ADD4UI, 24/48 bits, R306. -/
  | add4ui (f : RIForm)
  /-- ADD8UI, 24/48 bits, R307. -/
  | add8ui (f : RIForm)
  /-- ADD16UI, 24/48 bits, R308. -/
  | add16ui (f : RIForm)
  /-- AUIIP, 24/72 bits, R309. -/
  | auiip (f : AuiipForm)
  /-- SEQI, 48 bits, R453. -/
  | seqi (f : RI)
  /-- ZSEQI, 48 bits, R454. -/
  | zseqi (f : RI)
  /-- SNEI, 48 bits, R455; the table marks the row refused. -/
  | snei (f : SetImm)
  /-- SLTI, 48 bits, R455; the table marks the row refused. -/
  | slti (f : SetImm)
  /-- SLEI, 48 bits, R455; the table marks the row refused. -/
  | slei (f : SetImm)
  /-- SGTI, 48 bits, R455; the table marks the row refused. -/
  | sgti (f : SetImm)
  /-- SGEI, 48 bits, R455; the table marks the row refused. -/
  | sgei (f : SetImm)
  /-- SLTUI, 48 bits, R455; the table marks the row refused. -/
  | sltui (f : SetImm)
  /-- SLEUI, 48 bits, R455; the table marks the row refused. -/
  | sleui (f : SetImm)
  /-- SGTUI, 48 bits, R455; the table marks the row refused. -/
  | sgtui (f : SetImm)
  /-- SGEUI, 48 bits, R455; the table marks the row refused. -/
  | sgeui (f : SetImm)
  /-- ZSNEI, 48 bits, R455; the table marks the row refused. -/
  | zsnei (f : SetImm)
  /-- ZSLTI, 48 bits, R455; the table marks the row refused. -/
  | zslti (f : SetImm)
  /-- ZSLEI, 48 bits, R455; the table marks the row refused. -/
  | zslei (f : SetImm)
  /-- ZSGTI, 48 bits, R455; the table marks the row refused. -/
  | zsgti (f : SetImm)
  /-- ZSGEI, 48 bits, R455; the table marks the row refused. -/
  | zsgei (f : SetImm)
  /-- ZSLTUI, 48 bits, R455; the table marks the row refused. -/
  | zsltui (f : SetImm)
  /-- ZSLEUI, 48 bits, R455; the table marks the row refused. -/
  | zsleui (f : SetImm)
  /-- ZSGTUI, 48 bits, R455; the table marks the row refused. -/
  | zsgtui (f : SetImm)
  /-- ZSGEUI, 48 bits, R455; the table marks the row refused. -/
  | zsgeui (f : SetImm)
  /-- CSRRD, 48 bits, R317. -/
  | csrrd (f : Csr)
  /-- CSRRW, 48 bits, R317. -/
  | csrrw (f : Csr)
  /-- CSRRS, 48 bits, R317. -/
  | csrrs (f : Csr)
  /-- CSRRC, 48 bits, R317. -/
  | csrrc (f : Csr)
  /-- CSRRW__immediate, 48 bits, R317. -/
  | csrrwImm (f : CsrImm)
  /-- CSRRS__immediate, 48 bits, R317. -/
  | csrrsImm (f : CsrImm)
  /-- CSRRC__immediate, 48 bits, R317. -/
  | csrrcImm (f : CsrImm)
  /-- CHK, 48 bits, R312. -/
  | chk (f : Chk)
  /-- CHKU, 48 bits, R312. -/
  | chku (f : Chk)
  /-- AND, 48 bits, R421. -/
  | and (f : R3)
  /-- OR, 48 bits, R425. -/
  | or (f : R3)
  /-- EOR, 48 bits, R423. -/
  | eor (f : R3)
  /-- CMP, 48 bits, R441. -/
  | cmp (f : R3)
  /-- ADD, 48 bits, R303. -/
  | add (f : R3)
  /-- CMPU, 48 bits, R445. -/
  | cmpu (f : R3)
  /-- CPUID, 48 bits, R316. -/
  | cpuid (f : Cpuid)
  /-- CMOV, 48 bits, R381. -/
  | cmov (f : R3)
  /-- ABS, 48 bits, R301. -/
  | abs (f : R3)
  /-- MAJ, 48 bits, R322. -/
  | maj (f : R3)
  /-- MUL, 48 bits, R357. -/
  | mul (f : R3)
  /-- DIV, 48 bits, R353. -/
  | div (f : R3)
  /-- MULU, 48 bits, R360. -/
  | mulu (f : R3)
  /-- DIVU, 48 bits, R355. -/
  | divu (f : R3)
  /-- MULSU, 48 bits, R359. -/
  | mulsu (f : R3)
  /-- REM, 48 bits, R362. -/
  | rem (f : R3)
  /-- REMU, 48 bits, R363. -/
  | remu (f : R3)
  /-- MIN3, 48 bits, R387. -/
  | min3 (f : R3)
  /-- MID3, 48 bits, R385. -/
  | mid3 (f : R3)
  /-- MAX3, 48 bits, R383. -/
  | max3 (f : R3)
  /-- MINU3, 48 bits, R389. -/
  | minu3 (f : R3)
  /-- MIDU3, 48 bits, R386. -/
  | midu3 (f : R3)
  /-- MAXU3, 48 bits, R384. -/
  | maxu3 (f : R3)
  /-- CNTLZ, 48 bits, R315. -/
  | cntlz (f : R1)
  /-- CNTLO, 48 bits, R314. -/
  | cntlo (f : R1)
  /-- CNTPOP, 48 bits, R318. -/
  | cntpop (f : R1)
  /-- SQRT, 48 bits, R323. -/
  | sqrt (f : R1)
  /-- CNTTZ, 48 bits, R319. -/
  | cnttz (f : R1)
  /-- REVBIT, 48 bits, R392. -/
  | revbit (f : R1)
  /-- REVBITP, 48 bits, R392. -/
  | revbitp (f : R1)
  /-- REVN, 48 bits, R392. -/
  | revn (f : R1)
  /-- REVB, 48 bits, R392. -/
  | revb (f : R1)
  /-- REVW, 48 bits, R392. -/
  | revw (f : R1)
  /-- REVT, 48 bits, R392. -/
  | revt (f : R1)
  /-- REVO, 48 bits, R392. -/
  | revo (f : R1)
  /-- PTRDIF, 48 bits, R321. -/
  | ptrdif (f : R3)
  /-- AVG__truncating, 48 bits, R321. -/
  | avgTrunc (f : R3)
  /-- AVG__round_up, 48 bits, R321. -/
  | avgRound (f : R3)
  /-- MUX, 48 bits, R390. -/
  | mux (f : R3)
  /-- BMM, 48 bits, R352. -/
  | bmm (f : Bmm)
  /-- BMAP, 48 bits, R380. -/
  | bmap (f : R3)
  /-- BYTENDX, 48 bits, R310. -/
  | bytendx (f : Ndx)
  /-- WYDENDX, 48 bits, R311. -/
  | wydendx (f : Ndx)
  /-- TETRANDX, 48 bits, R311. -/
  | tetrandx (f : Ndx)
  /-- CMOVEQ, 48 bits, R449. -/
  | cmoveq (f : R3)
  /-- CMOVNE, 48 bits, R450. -/
  | cmovne (f : R3)
  /-- CMOVLT, 48 bits, R451. -/
  | cmovlt (f : R3)
  /-- CMOVLE, 48 bits, R452. -/
  | cmovle (f : R3)
  /-- SEQ, 48 bits, R455; the table marks the row refused. -/
  | seq (f : R3)
  /-- SNE, 48 bits, R455; the table marks the row refused. -/
  | sne (f : R3)
  /-- SLT, 48 bits, R455; the table marks the row refused. -/
  | slt (f : R3)
  /-- SLE, 48 bits, R455; the table marks the row refused. -/
  | sle (f : R3)
  /-- SLTU, 48 bits, R455; the table marks the row refused. -/
  | sltu (f : R3)
  /-- SLEU, 48 bits, R455; the table marks the row refused. -/
  | sleu (f : R3)
  /-- SLTU__code_100, 48 bits, R455; the table marks the row refused. -/
  | sltuCode100 (f : R3)
  /-- SLEU__code_101, 48 bits, R455; the table marks the row refused. -/
  | sleuCode101 (f : R3)
  /-- ZSEQ, 48 bits, R455; the table marks the row refused. -/
  | zseq (f : R3)
  /-- ZSNE, 48 bits, R455; the table marks the row refused. -/
  | zsne (f : R3)
  /-- ZSLT, 48 bits, R455; the table marks the row refused. -/
  | zslt (f : R3)
  /-- ZSLE, 48 bits, R455; the table marks the row refused. -/
  | zsle (f : R3)
  /-- ZSLTU, 48 bits, R455; the table marks the row refused. -/
  | zsltu (f : R3)
  /-- ZSLEU, 48 bits, R455; the table marks the row refused. -/
  | zsleu (f : R3)
  /-- ZSEQ__code_120, 48 bits, R455; the table marks the row refused. -/
  | zseqCode120 (f : R3)
  /-- ZSNE__code_121, 48 bits, R455; the table marks the row refused. -/
  | zsneCode121 (f : R3)
  /-- ZSLT__code_122, 48 bits, R455; the table marks the row refused. -/
  | zsltCode122 (f : R3)
  /-- ZSLE__code_123, 48 bits, R455; the table marks the row refused. -/
  | zsleCode123 (f : R3)
  /-- ZSLTU__code_124, 48 bits, R455; the table marks the row refused. -/
  | zsltuCode124 (f : R3)
  /-- ZSLEU__code_125, 48 bits, R455; the table marks the row refused. -/
  | zsleuCode125 (f : R3)
  /-- SLLP, 48 bits, R506. -/
  | sllp (f : ShiftH)
  /-- SRLP, 48 bits, R509. -/
  | srlp (f : Shift)
  /-- SRAP, 48 bits, R512. -/
  | srap (f : Shift)
  /-- SRAPRZ, 48 bits, R514. -/
  | sraprz (f : Shift)
  /-- SRAPRU, 48 bits, R515. -/
  | srapru (f : Shift)
  /-- DEP, 48 bits, R516. -/
  | dep (f : Shift)
  /-- DEPXOR, 48 bits, R517. -/
  | depxor (f : Shift)
  /-- SLLPI, 48 bits, R507. -/
  | sllpi (f : ShiftHI)
  /-- SRLPI, 48 bits, R510. -/
  | srlpi (f : ShiftI)
  /-- SRAPI, 48 bits, R513. -/
  | srapi (f : ShiftI)
  /-- SRAPRZI, 48 bits, R514. -/
  | sraprzi (f : ShiftI)
  /-- SRAPRUI, 48 bits, R515. -/
  | sraprui (f : ShiftI)
  /-- DEPI, 48 bits, R518. -/
  | depi (f : ShiftI)
  /-- DEPXORI, 48 bits, R520. -/
  | depxori (f : ShiftI)
  /-- FMA, 48 bits, R568. -/
  | fma (f : Flt3)
  /-- FMS, 48 bits, R569. -/
  | fms (f : Flt3)
  /-- FADD, 48 bits, R563. -/
  | fadd (f : FltAdd)
  /-- FSUB, 48 bits, R564. -/
  | fsub (f : FltAdd)
  /-- FSNE, 48 bits, R571. -/
  | fsne (f : FltCmp)
  /-- FSLT, 48 bits, R570. -/
  | fslt (f : FltCmp)
  /-- FCMP, 48 bits, R565. -/
  | fcmp (f : FltCmp)
  /-- FABS, 48 bits, R561. -/
  | fabs (f : FltAbs)
  /-- FNABS, 48 bits, R562. -/
  | fnabs (f : FltAbs)
  /-- FSQRT, 48 bits, R572. -/
  | fsqrt (f : Flt1)
  /-- FTRUNC, 48 bits, R573. -/
  | ftrunc (f : Flt1)
  /-- FCOS, 48 bits, R567. -/
  | fcos (f : FltCos)
  /-- LDB, 48 bits, R636. -/
  | ldb (f : LS)
  /-- LDW, 48 bits, R638. -/
  | ldw (f : LS)
  /-- LDT, 48 bits, R640. -/
  | ldt (f : LS)
  /-- LDO, 48 bits, R642. -/
  | ldo (f : LS)
  /-- LDO__24-bit, 24 bits, R643. -/
  | ldo24 (f : LS24)
  /-- LDBU, 48 bits, R637. -/
  | ldbu (f : LS)
  /-- LDWU, 48 bits, R639. -/
  | ldwu (f : LS)
  /-- LDTU, 48 bits, R641. -/
  | ldtu (f : LS)
  /-- FLDH, 48 bits, R644. -/
  | fldh (f : LS)
  /-- FLDS, 48 bits, R644. -/
  | flds (f : LS)
  /-- FLDD, 48 bits, R644. -/
  | fldd (f : LS)
  /-- LDCAPD, 48 bits, R804. -/
  | ldcapd (f : LS)
  /-- CACHE, 48 bits, R634. -/
  | cache (f : LS)
  /-- STB, 48 bits, R651. -/
  | stb (f : LS)
  /-- STW, 48 bits, R652. -/
  | stw (f : LS)
  /-- STT, 48 bits, R653. -/
  | stt (f : LS)
  /-- STO, 48 bits, R654. -/
  | sto (f : LS)
  /-- STO__24-bit, 24 bits, R655. -/
  | sto24 (f : LS24)
  /-- STIB, 48 bits, R656. -/
  | stib (f : LS)
  /-- STIW, 48 bits, R656. -/
  | stiw (f : LS)
  /-- STIT, 48 bits, R656. -/
  | stit (f : LS)
  /-- STIO, 48 bits, R656. -/
  | stio (f : LS)
  /-- FSTH, 48 bits, R657. -/
  | fsth (f : LS)
  /-- FSTS, 48 bits, R657. -/
  | fsts (f : LS)
  /-- FSTD, 48 bits, R657. -/
  | fstd (f : LS)
  /-- STCAPD, 48 bits, R806. -/
  | stcapd (f : LS)
  /-- STPTR, 48 bits, R660. -/
  | stptr (f : LS)
  /-- STPTR__24-bit, 24 bits, R660. -/
  | stptr24 (f : LS24)
  /-- LOADA, 48 bits, R320. -/
  | loada (f : LS)
  /-- BEQ, 48 bits, R716. -/
  | beq (f : Br)
  /-- BEQ__register_target, 48 bits, R716. -/
  | beqReg (f : BrReg)
  /-- BNE, 48 bits, R727. -/
  | bne (f : Br)
  /-- BNE__register_target, 48 bits, R727. -/
  | bneReg (f : BrReg)
  /-- BLTU, 48 bits, R725. -/
  | bltu (f : Br)
  /-- BLTU__register_target, 48 bits, R725. -/
  | bltuReg (f : BrReg)
  /-- BLEU, 48 bits, R723. -/
  | bleu (f : Br)
  /-- BLEU__register_target, 48 bits, R723. -/
  | bleuReg (f : BrReg)
  /-- BGEU, 48 bits, R719. -/
  | bgeu (f : Br)
  /-- BGEU__register_target, 48 bits, R719. -/
  | bgeuReg (f : BrReg)
  /-- BGTU, 48 bits, R721. -/
  | bgtu (f : Br)
  /-- BGTU__register_target, 48 bits, R721. -/
  | bgtuReg (f : BrReg)
  /-- BBC, 48 bits, R714. -/
  | bbc (f : Br)
  /-- BBC__register_target, 48 bits, R714. -/
  | bbcReg (f : BrReg)
  /-- BBS, 48 bits, R715. -/
  | bbs (f : Br)
  /-- BBS__register_target, 48 bits, R715. -/
  | bbsReg (f : BrReg)
  /-- BBC__immediate_bit_number, 48 bits, R714. -/
  | bbcImm (f : Br)
  /-- BBC__immediate_bit_number___register_target, 48 bits, R714. -/
  | bbcImmReg (f : BrReg)
  /-- BBS__immediate_bit_number, 48 bits, R715. -/
  | bbsImm (f : Br)
  /-- BBS__immediate_bit_number___register_target, 48 bits, R715. -/
  | bbsImmReg (f : BrReg)
  /-- BNANDB, 48 bits, R732; the table marks the row refused. -/
  | bnandb (f : Br)
  /-- BNANDB__register_target, 48 bits, R732; the table marks the row refused. -/
  | bnandbReg (f : BrReg)
  /-- BANDB, 48 bits, R713. -/
  | bandb (f : Br)
  /-- BANDB__register_target, 48 bits, R713. -/
  | bandbReg (f : BrReg)
  /-- BNORB, 48 bits, R732; the table marks the row refused. -/
  | bnorb (f : Br)
  /-- BNORB__register_target, 48 bits, R732; the table marks the row refused. -/
  | bnorbReg (f : BrReg)
  /-- BORB, 48 bits, R731. -/
  | borb (f : Br)
  /-- BORB__register_target, 48 bits, R731. -/
  | borbReg (f : BrReg)
  /-- BENOR, 48 bits, R732; the table marks the row refused. -/
  | benor (f : Br)
  /-- BENOR__register_target, 48 bits, R732; the table marks the row refused. -/
  | benorReg (f : BrReg)
  /-- BEOR, 48 bits, R732; the table marks the row refused. -/
  | beor (f : Br)
  /-- BEOR__register_target, 48 bits, R732; the table marks the row refused. -/
  | beorReg (f : BrReg)
  /-- BLT, 48 bits, R724. -/
  | blt (f : Br)
  /-- BLT__register_target, 48 bits, R724. -/
  | bltReg (f : BrReg)
  /-- BLE, 48 bits, R722. -/
  | ble (f : Br)
  /-- BLE__register_target, 48 bits, R722. -/
  | bleReg (f : BrReg)
  /-- BGE, 48 bits, R718. -/
  | bge (f : Br)
  /-- BGE__register_target, 48 bits, R718. -/
  | bgeReg (f : BrReg)
  /-- BGT, 48 bits, R720. -/
  | bgt (f : Br)
  /-- BGT__register_target, 48 bits, R720. -/
  | bgtReg (f : BrReg)
  /-- BNAND, 48 bits, R726. -/
  | bnand (f : Br)
  /-- BNAND__register_target, 48 bits, R726. -/
  | bnandReg (f : BrReg)
  /-- BAND, 48 bits, R712. -/
  | band (f : Br)
  /-- BAND__register_target, 48 bits, R712. -/
  | bandReg (f : BrReg)
  /-- BNOR, 48 bits, R729. -/
  | bnor (f : Br)
  /-- BNOR__register_target, 48 bits, R729. -/
  | bnorReg (f : BrReg)
  /-- BOR, 48 bits, R730. -/
  | bor (f : Br)
  /-- BOR__register_target, 48 bits, R730. -/
  | borReg (f : BrReg)
  /-- FBcc, 48 bits, R733. -/
  | fbcc (f : FBr)
  /-- FBcc__register_target, 48 bits, R733. -/
  | fbccReg (f : FBrReg)
  /-- IBNE, 48 bits, R741. -/
  | ibne (f : Br)
  /-- IBNE__register_target, 48 bits, R741. -/
  | ibneReg (f : BrReg)
  /-- DBNE, 48 bits, R739. -/
  | dbne (f : Br)
  /-- DBNE__register_target, 48 bits, R739. -/
  | dbneReg (f : BrReg)
  /-- BRA, 48 bits, R742. -/
  | bra (const : BitVec 37)
  /-- BSR, 48 bits, R743. -/
  | bsr (f : Bsr)
  /-- JMP__direct, 48 bits, R744. -/
  | jmpDirect (const : BitVec 37)
  /-- JSR__direct, 48 bits, R745. -/
  | jsrDirect (f : Bsr)
  /-- JMP__memory_indirect, 48 bits, R750. -/
  | jmpIndirect (f : JmpI)
  /-- JSR__memory_indirect, 48 bits, R751. -/
  | jsrIndirect (f : JsrI)
  /-- JMP__scaled_indexed, 48 bits, R746. -/
  | jmpScaled (f : JmpS)
  /-- JSR__scaled_indexed, 48 bits, R747. -/
  | jsrScaled (f : LS)
  /-- RET, 24/48 bits, R760. -/
  | ret (f : RetForm)
  /-- RTE, 24 bits, R764. -/
  | rte (offs : BitVec 4)
  /-- RTE__two-up, 24 bits, R765. -/
  | rte2 (offs : BitVec 4)
  /-- CAndPerm, 48 bits, R810. -/
  | cAndPerm (f : CapR)
  /-- CAndPermi, 48 bits, R811. -/
  | cAndPermi (f : CapI)
  /-- CBuildCap, 48 bits, R812. -/
  | cBuildCap (f : Cap3)
  /-- CClearTag, 48 bits, R813. -/
  | cClearTag (f : Cap2)
  /-- CCmp, 48 bits, R814. -/
  | cCmp (f : Cap3)
  /-- ATOM, 24/48 bits, R844. -/
  | atom (f : AtomForm)
  /-- AUIIP____FLT.32___48-bit_word__root_opcode_58, 48 bits, R553; the table marks the row refused. -/
  | opcode58 (payload : BitVec 39)
  /-- BRK, 24 bits, R840. -/
  | brk
  /-- ADD__24-bit, 24 bits, R302; the table marks the row refused. Its operands are read from the word being executed (log 34). -/
  | add24
  /-- CSR_Op3_4, 48 bits, R317; a reserved encoding. -/
  | csrOp4
  /-- ABS___R1__map, 48 bits, R861; the table marks the row refused. -/
  | absR1
  /-- NOT, 48 bits, R861; the table marks the row refused. -/
  | not
  /-- NNA_TRIG, 48 bits, R861; the table marks the row refused. -/
  | nnatrig
  /-- NNA_STAT, 48 bits, R861; the table marks the row refused. -/
  | nnastat
  /-- NNA_MFACT, 48 bits, R861; the table marks the row refused. -/
  | nnamfact
  /-- MKBOOL, 48 bits, R861; the table marks the row refused. -/
  | mkbool
  /-- REX, 48 bits, R861; the table marks the row refused. -/
  | rex
  /-- SM3P0, 48 bits, R861; the table marks the row refused. -/
  | sm3p0
  /-- SM3P1, 48 bits, R861; the table marks the row refused. -/
  | sm3p1
  /-- AES64DS, 48 bits, R861; the table marks the row refused. -/
  | aes64ds
  /-- AES64DSM, 48 bits, R861; the table marks the row refused. -/
  | aes64dsm
  /-- AES64ES, 48 bits, R861; the table marks the row refused. -/
  | aes64es
  /-- AES64ESM, 48 bits, R861; the table marks the row refused. -/
  | aes64esm
  /-- AES64IM, 48 bits, R861; the table marks the row refused. -/
  | aes64im
  /-- SHA256SIG0, 48 bits, R861; the table marks the row refused. -/
  | sha256sig0
  /-- SHA256SIG1, 48 bits, R861; the table marks the row refused. -/
  | sha256sig1
  /-- SHA256SUM0, 48 bits, R861; the table marks the row refused. -/
  | sha256sum0
  /-- SHA256SUM1, 48 bits, R861; the table marks the row refused. -/
  | sha256sum1
  /-- SHA512SIG0, 48 bits, R861; the table marks the row refused. -/
  | sha512sig0
  /-- SHA512SIG1, 48 bits, R861; the table marks the row refused. -/
  | sha512sig1
  /-- SHA512SUM0, 48 bits, R861; the table marks the row refused. -/
  | sha512sum0
  /-- SHA512SUM1, 48 bits, R861; the table marks the row refused. -/
  | sha512sum1
  /-- NAND, 48 bits, R862; the table marks the row refused. -/
  | nand
  /-- NOR, 48 bits, R862; the table marks the row refused. -/
  | nor
  /-- ENOR, 48 bits, R862; the table marks the row refused. -/
  | enor
  /-- CMOVNZ, 48 bits, R862; the table marks the row refused. -/
  | cmovnz
  /-- DIVSU, 48 bits, R370; the table marks the row refused. -/
  | divsu
  /-- MULW, 48 bits, R370; the table marks the row refused. -/
  | mulw
  /-- MULUW, 48 bits, R370; the table marks the row refused. -/
  | muluw
  /-- MULSUW, 48 bits, R370; the table marks the row refused. -/
  | mulsuw
  /-- MODSU, 48 bits, R370; the table marks the row refused. -/
  | modsu
  /-- DIVMOD, 48 bits, R370; the table marks the row refused. -/
  | divmod
  /-- DIVMODU, 48 bits, R370; the table marks the row refused. -/
  | divmodu
  /-- DIF, 48 bits, R862; the table marks the row refused. -/
  | dif
  /-- NNA_MTWT, 48 bits, R862; the table marks the row refused. -/
  | nnamtwt
  /-- NNA_MTIN, 48 bits, R862; the table marks the row refused. -/
  | nnamtin
  /-- NNA_MTBIAS, 48 bits, R862; the table marks the row refused. -/
  | nnamtbias
  /-- NNA_MTFB, 48 bits, R862; the table marks the row refused. -/
  | nnamtfb
  /-- NNA_MTMC, 48 bits, R862; the table marks the row refused. -/
  | nnamtmc
  /-- NNA_MTBC, 48 bits, R862; the table marks the row refused. -/
  | nnamtbc
  /-- V2BITS, 48 bits, R862; the table marks the row refused. -/
  | v2bits
  /-- BITS2V, 48 bits, R862; the table marks the row refused. -/
  | bits2v
  /-- VEX, 48 bits, R862; the table marks the row refused. -/
  | vex
  /-- VEINS, 48 bits, R862; the table marks the row refused. -/
  | veins
  /-- VGNDX, 48 bits, R862; the table marks the row refused. -/
  | vgndx
  /-- VSHLV, 48 bits, R862; the table marks the row refused. -/
  | vshlv
  /-- VSHRV, 48 bits, R862; the table marks the row refused. -/
  | vshrv
  /-- VSETMASK, 48 bits, R862; the table marks the row refused. -/
  | vsetmask
  /-- VSHLVI, 48 bits, R862; the table marks the row refused. -/
  | vshlvi
  /-- VSHRVI, 48 bits, R862; the table marks the row refused. -/
  | vshrvi
  /-- AES64K1I, 48 bits, R862; the table marks the row refused. -/
  | aes64k1i
  /-- AES64KS2, 48 bits, R862; the table marks the row refused. -/
  | aes64ks2
  /-- SM4ED, 48 bits, R862; the table marks the row refused. -/
  | sm4ed
  /-- SM4KS, 48 bits, R862; the table marks the row refused. -/
  | sm4ks
  /-- CLMUL, 48 bits, R862; the table marks the row refused. -/
  | clmul
  /-- MVVR, 48 bits, R862; the table marks the row refused. -/
  | mvvr
  /-- reserved_Func4_7, 48 bits, R502; a reserved encoding. -/
  | reservedFunc4x7
  /-- reserved_Func4_15, 48 bits, R502; a reserved encoding. -/
  | reservedFunc4x15
  /-- FCONST, 48 bits, R566; the table marks the row refused. -/
  | fconst
  /-- FNOP, 48 bits, R586; the table marks the row refused. -/
  | fnop
  /-- FMIN, 48 bits, R586; the table marks the row refused. -/
  | fmin
  /-- FMAX, 48 bits, R586; the table marks the row refused. -/
  | fmax
  /-- FSUB__code_5, 48 bits, R586; the table marks the row refused. -/
  | fsubCode5
  /-- FMUL, 48 bits, R586; the table marks the row refused. -/
  | fmul
  /-- FDIV, 48 bits, R586; the table marks the row refused. -/
  | fdiv
  /-- FSEQ, 48 bits, R586; the table marks the row refused. -/
  | fseq
  /-- FSLE, 48 bits, R586; the table marks the row refused. -/
  | fsle
  /-- FNXT, 48 bits, R586; the table marks the row refused. -/
  | fnxt
  /-- FREM, 48 bits, R586; the table marks the row refused. -/
  | frem
  /-- FSGNJ, 48 bits, R586; the table marks the row refused. -/
  | fsgnj
  /-- FSGNJN, 48 bits, R586; the table marks the row refused. -/
  | fsgnjn
  /-- FSGNJX, 48 bits, R586; the table marks the row refused. -/
  | fsgnjx
  /-- FSCALEB, 48 bits, R586; the table marks the row refused. -/
  | fscaleb
  /-- FNEG, 48 bits, R586; the table marks the row refused. -/
  | fneg
  /-- FTOI, 48 bits, R586; the table marks the row refused. -/
  | ftoi
  /-- ITOF, 48 bits, R586; the table marks the row refused. -/
  | itof
  /-- FSIGN, 48 bits, R586; the table marks the row refused. -/
  | fsign
  /-- FSIG, 48 bits, R586; the table marks the row refused. -/
  | fsig
  /-- FCVTS2D, 48 bits, R586; the table marks the row refused. -/
  | fcvts2d
  /-- FCVTS2Q, 48 bits, R586; the table marks the row refused. -/
  | fcvts2q
  /-- FCVTD2Q, 48 bits, R586; the table marks the row refused. -/
  | fcvtd2q
  /-- FCVTH2S, 48 bits, R586; the table marks the row refused. -/
  | fcvth2s
  /-- FCVTH2D, 48 bits, R586; the table marks the row refused. -/
  | fcvth2d
  /-- ISNAN, 48 bits, R586; the table marks the row refused. -/
  | isnan
  /-- FINITE, 48 bits, R586; the table marks the row refused. -/
  | finite
  /-- FCVTQ2H, 48 bits, R586; the table marks the row refused. -/
  | fcvtq2h
  /-- FCVTQ2S, 48 bits, R586; the table marks the row refused. -/
  | fcvtq2s
  /-- FCVTQ2D, 48 bits, R586; the table marks the row refused. -/
  | fcvtq2d
  /-- FCVTH2Q, 48 bits, R586; the table marks the row refused. -/
  | fcvth2q
  /-- FRSQRT, 48 bits, R586; the table marks the row refused. -/
  | frsqrt
  /-- FRES, 48 bits, R586; the table marks the row refused. -/
  | fres
  /-- FCVTD2S, 48 bits, R586; the table marks the row refused. -/
  | fcvtd2s
  /-- FCLASS, 48 bits, R586; the table marks the row refused. -/
  | fclass
  /-- FSIN, 48 bits, R586; the table marks the row refused. -/
  | fsin
  /-- FTAN, 48 bits, R586; the table marks the row refused. -/
  | ftan
  /-- FATAN, 48 bits, R586; the table marks the row refused. -/
  | fatan
  /-- FSIGMOID, 48 bits, R586; the table marks the row refused. -/
  | fsigmoid
  /-- reserved__root_opcode_65__Prc2___3, 48 bits, R633; a reserved encoding. -/
  | reservedLd65x3
  /-- DFLDD, 48 bits, R645; the table marks the row refused. -/
  | dfldd
  /-- DFLDQ, 48 bits, R645; the table marks the row refused. -/
  | dfldq
  /-- PLDW, 48 bits, R645; the table marks the row refused. -/
  | pldw
  /-- PLDT, 48 bits, R645; the table marks the row refused. -/
  | pldt
  /-- PLDO, 48 bits, R645; the table marks the row refused. -/
  | pldo
  /-- LDCAPQ, 48 bits, R805. -/
  | ldcapq
  /-- DFSTD, 48 bits, R658; the table marks the row refused. -/
  | dfstd
  /-- PSTW, 48 bits, R658; the table marks the row refused. -/
  | pstw
  /-- PSTT, 48 bits, R658; the table marks the row refused. -/
  | pstt
  /-- PSTO, 48 bits, R658; the table marks the row refused. -/
  | psto
  /-- STCAPQ, 48 bits, R807. -/
  | stcapq
  /-- STPTRT, 48 bits, R661; the table marks the row refused. -/
  | stptrt
  /-- reserved__root_opcode_40_48__Fn4___14, 48 bits, R710; a reserved encoding. -/
  | reservedBcc40x14
  /-- reserved__root_opcode_40_48__Fn4___14___register_target, 48 bits, R710; a reserved encoding. -/
  | reservedBcc48x14
  /-- IRQ___BADDO__Fn4___15, 48 bits, R732; the table marks the row refused. -/
  | irq40
  /-- IRQ___BADDO__Fn4___15___register_target, 48 bits, R732; the table marks the row refused. -/
  | irq48
  /-- IRQ___BADDO__root_opcode_41_49__Fn4___15, 48 bits, R732; the table marks the row refused. -/
  | irq41
  /-- IRQ___BADDO__root_opcode_41_49__Fn4___15___register_targ, 48 bits, R732; the table marks the row refused. -/
  | irq49
  /-- reserved__root_opcode_41_49__Fn4___6, 48 bits, R710; a reserved encoding. -/
  | reservedBcc41x6
  /-- reserved__root_opcode_41_49__Fn4___6___register_target, 48 bits, R710; a reserved encoding. -/
  | reservedBcc49x6
  /-- reserved__root_opcode_41_49__Fn4___7, 48 bits, R710; a reserved encoding. -/
  | reservedBcc41x7
  /-- reserved__root_opcode_41_49__Fn4___7___register_target, 48 bits, R710; a reserved encoding. -/
  | reservedBcc49x7
  /-- reserved__root_opcode_41_49__Fn4___8, 48 bits, R710; a reserved encoding. -/
  | reservedBcc41x8
  /-- reserved__root_opcode_41_49__Fn4___8___register_target, 48 bits, R710; a reserved encoding. -/
  | reservedBcc49x8
  /-- reserved__root_opcode_41_49__Fn4___9, 48 bits, R710; a reserved encoding. -/
  | reservedBcc41x9
  /-- reserved__root_opcode_41_49__Fn4___9___register_target, 48 bits, R710; a reserved encoding. -/
  | reservedBcc49x9
  /-- reserved__root_opcode_41_49__Fn4___14, 48 bits, R710; a reserved encoding. -/
  | reservedBcc41x14
  /-- reserved__root_opcode_41_49__Fn4___14___register_target, 48 bits, R710; a reserved encoding. -/
  | reservedBcc49x14
  /-- DFBcc, 48 bits, R734; the table marks the row refused. -/
  | dfbcc
  /-- DFBcc__register_target, 48 bits, R734; the table marks the row refused. -/
  | dfbccReg
  /-- PBcc, 48 bits, R734; the table marks the row refused. -/
  | pbcc
  /-- PBcc__register_target, 48 bits, R734; the table marks the row refused. -/
  | pbccReg
  /-- CBcc__CBEQ__CBLE__CBLT__CBNE, 48 bits, R735; the table marks the row refused. -/
  | cbcc
  /-- CBcc__CBEQ__CBLE__CBLT__CBNE___register_target, 48 bits, R735; the table marks the row refused. -/
  | cbccReg
  /-- CJMP___CJSR__root_opcode_34, 48 bits, R752; the table marks the row refused. -/
  | cjmp34
  /-- CJMP___CJSR__root_opcode_37, 48 bits, R752; the table marks the row refused. -/
  | cjmp37
  /-- CJMP___CJSR__root_opcode_39, 48 bits, R752; the table marks the row refused. -/
  | cjmp39
  /-- NOP, 24 bits, R755. -/
  | nop
  /-- CRetd, 48 bits, R815; the table marks the row refused. -/
  | cRetd
  /-- CInvoke, 48 bits, R815; the table marks the row refused. -/
  | cInvoke
  /-- CCopyType, 48 bits, R815; the table marks the row refused. -/
  | cCopyType
  /-- CIncOffs, 48 bits, R815; the table marks the row refused. -/
  | cIncOffs
  /-- CSeal, 48 bits, R815; the table marks the row refused. -/
  | cSeal
  /-- CSetAddr, 48 bits, R815; the table marks the row refused. -/
  | cSetAddr
  /-- CSetBounds, 48 bits, R815; the table marks the row refused. -/
  | cSetBounds
  /-- CSetFlags, 48 bits, R815; the table marks the row refused. -/
  | cSetFlags
  /-- CSetHigh, 48 bits, R815; the table marks the row refused. -/
  | cSetHigh
  /-- CSetOffs, 48 bits, R815; the table marks the row refused. -/
  | cSetOffs
  /-- CSpeicalRW, 48 bits, R815; the table marks the row refused. -/
  | cSpeicalRW
  /-- CUnseal, 48 bits, R815; the table marks the row refused. -/
  | cUnseal
  /-- CGetFlags, 48 bits, R815; the table marks the row refused. -/
  | cGetFlags
  /-- CGetHigh, 48 bits, R815; the table marks the row refused. -/
  | cGetHigh
  /-- CGetLen, 48 bits, R815; the table marks the row refused. -/
  | cGetLen
  /-- CGetOffs, 48 bits, R815; the table marks the row refused. -/
  | cGetOffs
  /-- CGetPerms, 48 bits, R815; the table marks the row refused. -/
  | cGetPerms
  /-- CGetTag, 48 bits, R815; the table marks the row refused. -/
  | cGetTag
  /-- CGetTop, 48 bits, R815; the table marks the row refused. -/
  | cGetTop
  /-- CGetType, 48 bits, R815; the table marks the row refused. -/
  | cGetType
  /-- CLoadTags, 48 bits, R815; the table marks the row refused. -/
  | cLoadTags
  /-- CAlignMsk, 48 bits, R815; the table marks the row refused. -/
  | cAlignMsk
  /-- CRoundLen, 48 bits, R815; the table marks the row refused. -/
  | cRoundLen
  /-- CSealEntry, 48 bits, R815; the table marks the row refused. -/
  | cSealEntry
  /-- CGetBase, 48 bits, R815; the table marks the row refused. -/
  | cGetBase
  /-- QEXT, 48 bits, R848; the table marks the row refused. -/
  | qext
  /-- PRED, 48 bits, R846; the table marks the row refused. -/
  | pred
  /-- PFXA___PFXB___PFXC, 48 bits, R852; the table marks the row refused. -/
  | pfx
  /-- R3.128, 48 bits, R878; the table marks the row refused. -/
  | r3x128
  /-- FLT.128, 48 bits, R878; the table marks the row refused. -/
  | flt128
  /-- DFLT, 48 bits, R586; the table marks the row refused. -/
  | dflt
  /-- PST, 48 bits, R586; the table marks the row refused. -/
  | pst
  /-- CHKSC, 48 bits, R864; the table marks the row refused. -/
  | chksc
  /-- STCTX, 48 bits, R871; the table marks the row refused. The word being executed tells its 24-bit word, which R655
  reserves. -/
  | stctx
  /-- ENTER, 48 bits, R874; the table marks the row refused. -/
  | enter
  /-- LEAVE, 48 bits, R874; the table marks the row refused. -/
  | leave
  /-- PUSH, 48 bits, R875; the table marks the row refused. -/
  | push
  /-- POP, 48 bits, R875; the table marks the row refused. -/
  | pop
  /-- BLEND, 48 bits, R876; the table marks the row refused. -/
  | blend
  /-- BFIND, 48 bits, R876; the table marks the row refused. -/
  | bfind
  /-- BCMP, 48 bits, R876; the table marks the row refused. -/
  | bcmp
  /-- BLOCK, 48 bits, R876; the table marks the row refused. -/
  | block
  /-- AMO, 48 bits, R870; the table marks the row refused. -/
  | amo
  /-- CAS, 48 bits, R870; the table marks the row refused. -/
  | cas
  /-- STOP, 48 bits, R877; the table marks the row refused. -/
  | stopOp
  /-- FENCE, 48 bits, R872; the table marks the row refused. -/
  | fence
  /-- PFI, 48 bits, R873; the table marks the row refused. -/
  | pfi
  /-- reserved_root_opcode_12, 48 bits, R878; a reserved encoding. -/
  | reservedRoot12
  /-- reserved_root_opcode_20, 48 bits, R878; a reserved encoding. -/
  | reservedRoot20
  /-- reserved_root_opcode_56, 48 bits, R878; a reserved encoding. -/
  | reservedRoot56
  /-- reserved_root_opcode_91, 48 bits, R878; a reserved encoding. -/
  | reservedRoot91
  /-- reserved_root_opcode_110, 48 bits, R878; a reserved encoding. -/
  | reservedRoot110
  /-- reserved_root_opcode_116, 48 bits, R878; a reserved encoding. -/
  | reservedRoot116
  /-- reserved_root_opcode_117, 48 bits, R878; a reserved encoding. -/
  | reservedRoot117
  /-- reserved_root_opcode_118, 48 bits, R878; a reserved encoding. -/
  | reservedRoot118
  /-- reserved_root_opcode_119, 48 bits, R878; a reserved encoding. -/
  | reservedRoot119
  /-- reserved_root_opcode_123, 48 bits, R878; a reserved encoding. -/
  | reservedRoot123
  /-- reserved_root_opcode_125, 48 bits, R878; a reserved encoding. -/
  | reservedRoot125
  /-- reserved_root_opcode_126, 48 bits, R878; a reserved encoding. -/
  | reservedRoot126
  /-- reserved__root_opcode_16__48-bit, 48 bits, R878; a reserved encoding. -/
  | reservedRoot1648
  /-- reserved__root_opcode_16__72-bit, 72 bits, R878; a reserved encoding. -/
  | reservedRoot1672
  /-- reserved__root_opcode_16__96-bit, 96 bits, R878; a reserved encoding. -/
  | reservedRoot1696
deriving DecidableEq, Repr

end Sys2Proof
end

