-- ==== Sys2Proof/Decode.lean ====
section
/-! DEFINITION. The decoder, total on any 96 bits fetched at the instruction pointer (bits above the instruction's
own length are not read), and after it the encoder, both from spec/30_encoding.md and the format of each family.
A word that is no instruction is rejected by name: `unimplemented` where the spec raises cause 4 (R260 (a)),
`refused` where it refuses a form that has no row of its own. -/

namespace Sys2Proof

/-- Why a word is an unimplemented instruction (spec/30_encoding.md R222 step 5, R260 (a)). -/
inductive Reserved where
  /-- The root opcode is not drawn with this length code. -/
  | length
  /-- A blank function code of the group. -/
  | function
  /-- A blank precision of the load and store table (spec/47_load_store.md R633). -/
  | precision
  /-- Fixed bits of the format hold another value. -/
  | bits
deriving DecidableEq, Repr

/-- Why a word is refused although no row of the table stands for it. -/
inductive Unread where
  /-- The 24-bit store immediate, drawn without a size (spec/47_load_store.md R655). -/
  | sti24
  /-- IBcc or DBcc with a condition other than NE (spec/48_branch_flow.md R739, R741). -/
  | countingCondition
deriving DecidableEq, Repr

/-- What the decoder answers. -/
inductive Decoded where
  | instr (i : Instr)
  | unimplemented (why : Reserved)
  | refused (why : Unread)
deriving DecidableEq, Repr

/-! ## Bit fields -/

/-- The field of `k` bits of `w` whose lowest bit is `lo` (spec/00_scope.md R10). -/
def fld {n : Nat} (w : BitVec n) (lo k : Nat) : BitVec k := w.extractLsb' lo k

/-- A one-bit field. -/
def flag {n : Nat} (w : BitVec n) (lo : Nat) : Bool := fld w lo 1 == 1#1

/-- A field placed with its lowest bit at `lo`. -/
def place {k : Nat} (lo : Nat) (v : BitVec k) : BitVec 96 := v.setWidth 96 <<< lo

/-- The one bit of a flag. -/
def bit1 (b : Bool) : BitVec 1 := BitVec.ofBool b

/-! ## Sub-fields with a meaning -/

/-- The two bits of a precision (spec/30_encoding.md R224, R225). -/
def Prec.bits : Prec → BitVec 2
  | .byte => 0#2 | .wyde => 1#2 | .tetra => 2#2 | .octa => 3#2

/-- The precision of two bits. -/
def Prec.ofBits (b : BitVec 2) : Prec :=
  match b.toNat with
  | 0 => .byte | 1 => .wyde | 2 => .tetra | _ => .octa

/-- The length code of an RI instruction (spec/30_encoding.md R221, R225). -/
def Imm.ln : Imm → BitVec 2
  | .i23 _ => 1#2 | .i47 _ => 2#2 | .i71 _ => 3#2

/-- The immediate in its place, bits len*8-1..25. -/
def Imm.placed : Imm → BitVec 96
  | .i23 v => place 25 v | .i47 v => place 25 v | .i71 v => place 25 v

/-- The immediate of an RI instruction. -/
def Imm.ofWord (w : BitVec 96) : Imm :=
  match (fld w 0 2).toNat with
  | 2 => .i47 (fld w 25 47) | 3 => .i71 (fld w 25 71) | _ => .i23 (fld w 25 23)

/-- The length code of a load, store or indirect jump (spec/30_encoding.md R228). -/
def Disp.ln : Disp → BitVec 2
  | .d16 _ => 1#2 | .d40 _ => 2#2 | .d64 _ => 3#2

/-- The displacement in its place, bits len*8-1..32. -/
def Disp.placed : Disp → BitVec 96
  | .d16 v => place 32 v | .d40 v => place 32 v | .d64 v => place 32 v

/-- The displacement of a load, store or indirect jump. -/
def Disp.ofWord (w : BitVec 96) : Disp :=
  match (fld w 0 2).toNat with
  | 2 => .d40 (fld w 32 40) | 3 => .d64 (fld w 32 64) | _ => .d16 (fld w 32 16)

/-- The root opcode of a float format (spec/46_floating_point.md R552). -/
def FFmt.root : FFmt → BitVec 7
  | .half => 57#7 | .single => 58#7 | .double => 59#7

/-- The float format of a word with root opcode 57, 58 or 59: the opcode's two low bits tell them apart. -/
def FFmt.ofWord (w : BitVec 96) : FFmt :=
  match (fld w 2 2).toNat with
  | 1 => .half | 2 => .single | _ => .double

/-! ## Operand forms -/

/-- The operands of the register form (spec/30_encoding.md R223), read from a word. -/
def R3.ofWord (w : BitVec 96) : R3 :=
  { prec := .ofBits (fld w 2 2), op4 := fld w 37 4, nc := flag w 36, rc := fld w 30 6, nb := flag w 29, rb := fld w 23 6, na := flag w 22, ra := fld w 16 6, nt := flag w 15, rt := fld w 9 6 }

/-- The operands of the register form (spec/30_encoding.md R223), each in its place. -/
def R3.enc (f : R3) : BitVec 96 :=
  place 2 f.prec.bits ||| place 37 f.op4 ||| place 36 (bit1 f.nc) ||| place 30 f.rc ||| place 29 (bit1 f.nb) ||| place 23 f.rb ||| place 22 (bit1 f.na) ||| place 16 f.ra ||| place 15 (bit1 f.nt) ||| place 9 f.rt

/-- The operands of the one-operand form (spec/40_arithmetic.md R313), read from a word. -/
def R1.ofWord (w : BitVec 96) : R1 :=
  { prec := .ofBits (fld w 2 2), op4 := fld w 37 4, na := flag w 22, ra := fld w 16 6, nt := flag w 15, rt := fld w 9 6 }

/-- The operands of the one-operand form (spec/40_arithmetic.md R313), each in its place. -/
def R1.enc (f : R1) : BitVec 96 :=
  place 2 f.prec.bits ||| place 37 f.op4 ||| place 22 (bit1 f.na) ||| place 16 f.ra ||| place 15 (bit1 f.nt) ||| place 9 f.rt

/-- The operands of the register-immediate form, 48, 72 or 96 bits (spec/30_encoding.md R225), read from a word. -/
def RI.ofWord (w : BitVec 96) : RI :=
  { imm := .ofWord w, prec := .ofBits (fld w 23 2), na := flag w 22, ra := fld w 16 6, nt := flag w 15, rt := fld w 9 6 }

/-- The operands of the register-immediate form, 48, 72 or 96 bits (spec/30_encoding.md R225), each in its place. -/
def RI.enc (f : RI) : BitVec 96 :=
  f.imm.placed ||| place 0 f.imm.ln ||| place 23 f.prec.bits ||| place 22 (bit1 f.na) ||| place 16 f.ra ||| place 15 (bit1 f.nt) ||| place 9 f.rt

/-- The operands of the 24-bit register-immediate form (spec/30_encoding.md R225, R226), read from a word. -/
def RI24.ofWord (w : BitVec 96) : RI24 :=
  { imm := fld w 19 5, ra := fld w 14 5, rt := fld w 9 5 }

/-- The operands of the 24-bit register-immediate form (spec/30_encoding.md R225, R226), each in its place. -/
def RI24.enc (f : RI24) : BitVec 96 :=
  place 19 f.imm ||| place 14 f.ra ||| place 9 f.rt

/-- The operands of AUIIP in 24 bits (spec/40_arithmetic.md R309), read from a word. -/
def Auiip24.ofWord (w : BitVec 96) : Auiip24 :=
  { imm := fld w 19 5, rt := fld w 9 5 }

/-- The operands of AUIIP in 24 bits (spec/40_arithmetic.md R309), each in its place. -/
def Auiip24.enc (f : Auiip24) : BitVec 96 :=
  place 19 f.imm ||| place 9 f.rt

/-- The operands of AUIIP in 72 or 96 bits (spec/40_arithmetic.md R309), read from a word. -/
def Auiip.ofWord (w : BitVec 96) : Auiip :=
  { imm := .ofWord w, nt := flag w 15, rt := fld w 9 6 }

/-- The operands of AUIIP in 72 or 96 bits (spec/40_arithmetic.md R309), each in its place. -/
def Auiip.enc (f : Auiip) : BitVec 96 :=
  f.imm.placed ||| place 0 f.imm.ln ||| place 15 (bit1 f.nt) ||| place 9 f.rt

/-- The operands of SX and ZX with an immediate bit number (spec/42_data_movement.md R393, R394), read from a word. -/
def ExtImm.ofWord (w : BitVec 96) : ExtImm :=
  { imm := fld w 16 6, nt := flag w 15, rt := fld w 9 6 }

/-- The operands of SX and ZX with an immediate bit number (spec/42_data_movement.md R393, R394), each in its place. -/
def ExtImm.enc (f : ExtImm) : BitVec 96 :=
  place 16 f.imm ||| place 15 (bit1 f.nt) ||| place 9 f.rt

/-- The operands of SX with a bit number from a register (spec/42_data_movement.md R393), read from a word. -/
def ExtReg.ofWord (w : BitVec 96) : ExtReg :=
  { na := flag w 22, ra := fld w 16 6, nt := flag w 15, rt := fld w 9 6 }

/-- The operands of SX with a bit number from a register (spec/42_data_movement.md R393), each in its place. -/
def ExtReg.enc (f : ExtReg) : BitVec 96 :=
  place 22 (bit1 f.na) ||| place 16 f.ra ||| place 15 (bit1 f.nt) ||| place 9 f.rt

/-- The operands of MOVE (spec/42_data_movement.md R388), read from a word. -/
def MoveF.ofWord (w : BitVec 96) : MoveF :=
  { a := flag w 23, na := flag w 22, ra := fld w 16 6, nt := flag w 15, rt := fld w 9 6 }

/-- The operands of MOVE (spec/42_data_movement.md R388), each in its place. -/
def MoveF.enc (f : MoveF) : BitVec 96 :=
  place 23 (bit1 f.a) ||| place 22 (bit1 f.na) ||| place 16 f.ra ||| place 15 (bit1 f.nt) ||| place 9 f.rt

/-- The operands of the CSR form (spec/40_arithmetic.md R317), read from a word. -/
def Csr.ofWord (w : BitVec 96) : Csr :=
  { regno := fld w 23 14, na := flag w 22, ra := fld w 16 6, nt := flag w 15, rt := fld w 9 6 }

/-- The operands of the CSR form (spec/40_arithmetic.md R317), each in its place. -/
def Csr.enc (f : Csr) : BitVec 96 :=
  place 23 f.regno ||| place 22 (bit1 f.na) ||| place 16 f.ra ||| place 15 (bit1 f.nt) ||| place 9 f.rt

/-- The operands of the CSRI form (spec/40_arithmetic.md R317), read from a word. -/
def CsrImm.ofWord (w : BitVec 96) : CsrImm :=
  { regno := fld w 23 14, uimm := fld w 16 7, nt := flag w 15, rt := fld w 9 6 }

/-- The operands of the CSRI form (spec/40_arithmetic.md R317), each in its place. -/
def CsrImm.enc (f : CsrImm) : BitVec 96 :=
  place 23 f.regno ||| place 16 f.uimm ||| place 15 (bit1 f.nt) ||| place 9 f.rt

/-- The operands of CHK and CHKU (spec/40_arithmetic.md R312), read from a word. -/
def Chk.ofWord (w : BitVec 96) : Chk :=
  { op4 := fld w 44 4, nc := flag w 36, rc := fld w 30 6, nb := flag w 29, rb := fld w 23 6, na := flag w 22, ra := fld w 16 6, offs := fld w 9 6 }

/-- The operands of CHK and CHKU (spec/40_arithmetic.md R312), each in its place. -/
def Chk.enc (f : Chk) : BitVec 96 :=
  place 44 f.op4 ||| place 36 (bit1 f.nc) ||| place 30 f.rc ||| place 29 (bit1 f.nb) ||| place 23 f.rb ||| place 22 (bit1 f.na) ||| place 16 f.ra ||| place 9 f.offs

/-- The operands of CPUID (spec/40_arithmetic.md R316), read from a word. -/
def Cpuid.ofWord (w : BitVec 96) : Cpuid :=
  { uimm := fld w 30 6, nb := flag w 29, rb := fld w 23 6, na := flag w 22, ra := fld w 16 6, nt := flag w 15, rt := fld w 9 6 }

/-- The operands of CPUID (spec/40_arithmetic.md R316), each in its place. -/
def Cpuid.enc (f : Cpuid) : BitVec 96 :=
  place 30 f.uimm ||| place 29 (bit1 f.nb) ||| place 23 f.rb ||| place 22 (bit1 f.na) ||| place 16 f.ra ||| place 15 (bit1 f.nt) ||| place 9 f.rt

/-- The operands of BMM (spec/41_multiply_divide.md R352), read from a word. -/
def Bmm.ofWord (w : BitVec 96) : Bmm :=
  { op3 := fld w 38 3, nb := flag w 29, rb := fld w 23 6, na := flag w 22, ra := fld w 16 6, nt := flag w 15, rt := fld w 9 6 }

/-- The operands of BMM (spec/41_multiply_divide.md R352), each in its place. -/
def Bmm.enc (f : Bmm) : BitVec 96 :=
  place 38 f.op3 ||| place 29 (bit1 f.nb) ||| place 23 f.rb ||| place 22 (bit1 f.na) ||| place 16 f.ra ||| place 15 (bit1 f.nt) ||| place 9 f.rt

/-- The operands of BYTENDX, WYDENDX and TETRANDX (spec/40_arithmetic.md R310), read from a word. -/
def Ndx.ofWord (w : BitVec 96) : Ndx :=
  { prec := .ofBits (fld w 2 2), bi := flag w 40, op2 := fld w 38 2, mask := fld w 30 8, nb := flag w 29, rb := fld w 23 6, na := flag w 22, ra := fld w 16 6, nt := flag w 15, rt := fld w 9 6 }

/-- The operands of BYTENDX, WYDENDX and TETRANDX (spec/40_arithmetic.md R310), each in its place. -/
def Ndx.enc (f : Ndx) : BitVec 96 :=
  place 2 f.prec.bits ||| place 40 (bit1 f.bi) ||| place 38 f.op2 ||| place 30 f.mask ||| place 29 (bit1 f.nb) ||| place 23 f.rb ||| place 22 (bit1 f.na) ||| place 16 f.ra ||| place 15 (bit1 f.nt) ||| place 9 f.rt

/-- The operands of SLLP (spec/45_shift_bitfield.md R501), read from a word. -/
def ShiftH.ofWord (w : BitVec 96) : ShiftH :=
  { prec := .ofBits (fld w 2 2), h := flag w 43, nc := flag w 36, rc := fld w 30 6, nb := flag w 29, rb := fld w 23 6, na := flag w 22, ra := fld w 16 6, nt := flag w 15, rt := fld w 9 6 }

/-- The operands of SLLP (spec/45_shift_bitfield.md R501), each in its place. -/
def ShiftH.enc (f : ShiftH) : BitVec 96 :=
  place 2 f.prec.bits ||| place 43 (bit1 f.h) ||| place 36 (bit1 f.nc) ||| place 30 f.rc ||| place 29 (bit1 f.nb) ||| place 23 f.rb ||| place 22 (bit1 f.na) ||| place 16 f.ra ||| place 15 (bit1 f.nt) ||| place 9 f.rt

/-- The operands of SLLPI (spec/45_shift_bitfield.md R501), read from a word. -/
def ShiftHI.ofWord (w : BitVec 96) : ShiftHI :=
  { prec := .ofBits (fld w 2 2), h := flag w 43, imm := fld w 30 7, nb := flag w 29, rb := fld w 23 6, na := flag w 22, ra := fld w 16 6, nt := flag w 15, rt := fld w 9 6 }

/-- The operands of SLLPI (spec/45_shift_bitfield.md R501), each in its place. -/
def ShiftHI.enc (f : ShiftHI) : BitVec 96 :=
  place 2 f.prec.bits ||| place 43 (bit1 f.h) ||| place 30 f.imm ||| place 29 (bit1 f.nb) ||| place 23 f.rb ||| place 22 (bit1 f.na) ||| place 16 f.ra ||| place 15 (bit1 f.nt) ||| place 9 f.rt

/-- The operands of the register form of the shift group (spec/45_shift_bitfield.md R501), read from a word. -/
def Shift.ofWord (w : BitVec 96) : Shift :=
  { prec := .ofBits (fld w 2 2), nc := flag w 36, rc := fld w 30 6, nb := flag w 29, rb := fld w 23 6, na := flag w 22, ra := fld w 16 6, nt := flag w 15, rt := fld w 9 6 }

/-- The operands of the register form of the shift group (spec/45_shift_bitfield.md R501), each in its place. -/
def Shift.enc (f : Shift) : BitVec 96 :=
  place 2 f.prec.bits ||| place 36 (bit1 f.nc) ||| place 30 f.rc ||| place 29 (bit1 f.nb) ||| place 23 f.rb ||| place 22 (bit1 f.na) ||| place 16 f.ra ||| place 15 (bit1 f.nt) ||| place 9 f.rt

/-- The operands of the immediate form of the shift group (spec/45_shift_bitfield.md R501), read from a word. -/
def ShiftI.ofWord (w : BitVec 96) : ShiftI :=
  { prec := .ofBits (fld w 2 2), me := fld w 37 7, mb := fld w 30 7, nb := flag w 29, rb := fld w 23 6, na := flag w 22, ra := fld w 16 6, nt := flag w 15, rt := fld w 9 6 }

/-- The operands of the immediate form of the shift group (spec/45_shift_bitfield.md R501), each in its place. -/
def ShiftI.enc (f : ShiftI) : BitVec 96 :=
  place 2 f.prec.bits ||| place 37 f.me ||| place 30 f.mb ||| place 29 (bit1 f.nb) ||| place 23 f.rb ||| place 22 (bit1 f.na) ||| place 16 f.ra ||| place 15 (bit1 f.nt) ||| place 9 f.rt

/-- The operands of FMA and FMS, whose row fixes Nc (spec/46_floating_point.md R556, R568), read from a word. -/
def Flt3.ofWord (w : BitVec 96) : Flt3 :=
  { fmt := .ofWord w, rm := fld w 37 3, rc := fld w 30 6, nb := flag w 29, rb := fld w 23 6, na := flag w 22, ra := fld w 16 6, nt := flag w 15, rt := fld w 9 6 }

/-- The operands of FMA and FMS, whose row fixes Nc (spec/46_floating_point.md R556, R568), each in its place. -/
def Flt3.enc (f : Flt3) : BitVec 96 :=
  place 2 f.fmt.root ||| place 37 f.rm ||| place 30 f.rc ||| place 29 (bit1 f.nb) ||| place 23 f.rb ||| place 22 (bit1 f.na) ||| place 16 f.ra ||| place 15 (bit1 f.nt) ||| place 9 f.rt

/-- The operands of FADD and FSUB, whose row fixes Nb (spec/46_floating_point.md R563, R564), read from a word. -/
def FltAdd.ofWord (w : BitVec 96) : FltAdd :=
  { fmt := .ofWord w, rm := fld w 37 3, rb := fld w 23 6, na := flag w 22, ra := fld w 16 6, nt := flag w 15, rt := fld w 9 6 }

/-- The operands of FADD and FSUB, whose row fixes Nb (spec/46_floating_point.md R563, R564), each in its place. -/
def FltAdd.enc (f : FltAdd) : BitVec 96 :=
  place 2 f.fmt.root ||| place 37 f.rm ||| place 23 f.rb ||| place 22 (bit1 f.na) ||| place 16 f.ra ||| place 15 (bit1 f.nt) ||| place 9 f.rt

/-- The operands of FCMP, FSLT and FSNE, which use no rounding mode (spec/46_floating_point.md R565, R570, R571), read from a word. -/
def FltCmp.ofWord (w : BitVec 96) : FltCmp :=
  { fmt := .ofWord w, nb := flag w 29, rb := fld w 23 6, na := flag w 22, ra := fld w 16 6, nt := flag w 15, rt := fld w 9 6 }

/-- The operands of FCMP, FSLT and FSNE, which use no rounding mode (spec/46_floating_point.md R565, R570, R571), each in its place. -/
def FltCmp.enc (f : FltCmp) : BitVec 96 :=
  place 2 f.fmt.root ||| place 29 (bit1 f.nb) ||| place 23 f.rb ||| place 22 (bit1 f.na) ||| place 16 f.ra ||| place 15 (bit1 f.nt) ||| place 9 f.rt

/-- The operands of FABS and FNABS, whose row fixes Nt (spec/46_floating_point.md R561, R562), read from a word. -/
def FltAbs.ofWord (w : BitVec 96) : FltAbs :=
  { fmt := .ofWord w, na := flag w 22, ra := fld w 16 6, rt := fld w 9 6 }

/-- The operands of FABS and FNABS, whose row fixes Nt (spec/46_floating_point.md R561, R562), each in its place. -/
def FltAbs.enc (f : FltAbs) : BitVec 96 :=
  place 2 f.fmt.root ||| place 22 (bit1 f.na) ||| place 16 f.ra ||| place 9 f.rt

/-- The operands of FSQRT and FTRUNC (spec/46_floating_point.md R572, R573), read from a word. -/
def Flt1.ofWord (w : BitVec 96) : Flt1 :=
  { fmt := .ofWord w, rm := fld w 37 3, na := flag w 22, ra := fld w 16 6, nt := flag w 15, rt := fld w 9 6 }

/-- The operands of FSQRT and FTRUNC (spec/46_floating_point.md R572, R573), each in its place. -/
def Flt1.enc (f : Flt1) : BitVec 96 :=
  place 2 f.fmt.root ||| place 37 f.rm ||| place 22 (bit1 f.na) ||| place 16 f.ra ||| place 15 (bit1 f.nt) ||| place 9 f.rt

/-- The operands of FCOS (spec/46_floating_point.md R567), read from a word. -/
def FltCos.ofWord (w : BitVec 96) : FltCos :=
  { fmt := .ofWord w, rm := fld w 37 3, prc3 := fld w 30 3, na := flag w 22, ra := fld w 16 6, nt := flag w 15, rt := fld w 9 6 }

/-- The operands of FCOS (spec/46_floating_point.md R567), each in its place. -/
def FltCos.enc (f : FltCos) : BitVec 96 :=
  place 2 f.fmt.root ||| place 37 f.rm ||| place 30 f.prc3 ||| place 22 (bit1 f.na) ||| place 16 f.ra ||| place 15 (bit1 f.nt) ||| place 9 f.rt

/-- The operands of the scaled indexed form of loads, stores and addresses (spec/47_load_store.md R630), read from a word. -/
def LS.ofWord (w : BitVec 96) : LS :=
  { disp := .ofWord w, sc := fld w 27 3, rb := fld w 21 6, ra := fld w 15 6, rt := fld w 9 6 }

/-- The operands of the scaled indexed form of loads, stores and addresses (spec/47_load_store.md R630), each in its place. -/
def LS.enc (f : LS) : BitVec 96 :=
  f.disp.placed ||| place 0 f.disp.ln ||| place 27 f.sc ||| place 21 f.rb ||| place 15 f.ra ||| place 9 f.rt

/-- The operands of the 24-bit form of loads and stores (spec/47_load_store.md R630), read from a word. -/
def LS24.ofWord (w : BitVec 96) : LS24 :=
  { disp := fld w 19 5, ra := fld w 14 5, rt := fld w 9 5 }

/-- The operands of the 24-bit form of loads and stores (spec/47_load_store.md R630), each in its place. -/
def LS24.enc (f : LS24) : BitVec 96 :=
  place 19 f.disp ||| place 14 f.ra ||| place 9 f.rt

/-- The operands of the 24-bit register form (spec/40_arithmetic.md R302), read from a word. -/
def R24.ofWord (w : BitVec 96) : R24 :=
  { rb := fld w 19 5, ra := fld w 14 5, rt := fld w 9 5 }

/-- The operands of a conditional branch with a displacement or address (spec/48_branch_flow.md R701), read from a word. -/
def Br.ofWord (w : BitVec 96) : Br :=
  { prc := fld w 46 2, tgt := fld w 25 21, rb := fld w 19 6, ra := fld w 13 6 }

/-- The operands of a conditional branch with a displacement or address (spec/48_branch_flow.md R701), each in its place. -/
def Br.enc (f : Br) : BitVec 96 :=
  place 46 f.prc ||| place 25 f.tgt ||| place 19 f.rb ||| place 13 f.ra

/-- The operands of a conditional branch to a register (spec/48_branch_flow.md R702), read from a word. -/
def BrReg.ofWord (w : BitVec 96) : BrReg :=
  { prc := fld w 46 2, tgt := fld w 31 15, rc := fld w 25 6, rb := fld w 19 6, ra := fld w 13 6 }

/-- The operands of a conditional branch to a register (spec/48_branch_flow.md R702), each in its place. -/
def BrReg.enc (f : BrReg) : BitVec 96 :=
  place 46 f.prc ||| place 31 f.tgt ||| place 25 f.rc ||| place 19 f.rb ||| place 13 f.ra

/-- The operands of FBcc with a displacement or address (spec/48_branch_flow.md R733), read from a word. -/
def FBr.ofWord (w : BitVec 96) : FBr :=
  { prc := fld w 46 2, tgt := fld w 25 21, rb := fld w 19 6, ra := fld w 13 6, fn := fld w 9 4 }

/-- The operands of FBcc with a displacement or address (spec/48_branch_flow.md R733), each in its place. -/
def FBr.enc (f : FBr) : BitVec 96 :=
  place 46 f.prc ||| place 25 f.tgt ||| place 19 f.rb ||| place 13 f.ra ||| place 9 f.fn

/-- The operands of FBcc to a register (spec/48_branch_flow.md R733), read from a word. -/
def FBrReg.ofWord (w : BitVec 96) : FBrReg :=
  { prc := fld w 46 2, tgt := fld w 31 15, rc := fld w 25 6, rb := fld w 19 6, ra := fld w 13 6, fn := fld w 9 4 }

/-- The operands of FBcc to a register (spec/48_branch_flow.md R733), each in its place. -/
def FBrReg.enc (f : FBrReg) : BitVec 96 :=
  place 46 f.prc ||| place 31 f.tgt ||| place 25 f.rc ||| place 19 f.rb ||| place 13 f.ra ||| place 9 f.fn

/-- The operands of BSR and direct JSR (spec/48_branch_flow.md R740), read from a word. -/
def Bsr.ofWord (w : BitVec 96) : Bsr :=
  { const := fld w 11 37, lk := fld w 9 2 }

/-- The operands of BSR and direct JSR (spec/48_branch_flow.md R740), each in its place. -/
def Bsr.enc (f : Bsr) : BitVec 96 :=
  place 11 f.const ||| place 9 f.lk

/-- The operands of memory indirect JMP (spec/48_branch_flow.md R749, R750), read from a word. -/
def JmpI.ofWord (w : BitVec 96) : JmpI :=
  { limit := .ofWord w, ar := fld w 30 2, sc := fld w 27 3, rb := fld w 21 6, ra := fld w 15 6 }

/-- The operands of memory indirect JMP (spec/48_branch_flow.md R749, R750), each in its place. -/
def JmpI.enc (f : JmpI) : BitVec 96 :=
  f.limit.placed ||| place 0 f.limit.ln ||| place 30 f.ar ||| place 27 f.sc ||| place 21 f.rb ||| place 15 f.ra

/-- The operands of memory indirect JSR (spec/48_branch_flow.md R749, R751), read from a word. -/
def JsrI.ofWord (w : BitVec 96) : JsrI :=
  { limit := .ofWord w, ar := fld w 30 2, sc := fld w 27 3, rb := fld w 21 6, ra := fld w 15 6, rt := fld w 9 6 }

/-- The operands of memory indirect JSR (spec/48_branch_flow.md R749, R751), each in its place. -/
def JsrI.enc (f : JsrI) : BitVec 96 :=
  f.limit.placed ||| place 0 f.limit.ln ||| place 30 f.ar ||| place 27 f.sc ||| place 21 f.rb ||| place 15 f.ra ||| place 9 f.rt

/-- The operands of scaled indexed JMP (spec/48_branch_flow.md R746), read from a word. -/
def JmpS.ofWord (w : BitVec 96) : JmpS :=
  { disp := .ofWord w, sc := fld w 27 3, rb := fld w 21 6, ra := fld w 15 6 }

/-- The operands of scaled indexed JMP (spec/48_branch_flow.md R746), each in its place. -/
def JmpS.enc (f : JmpS) : BitVec 96 :=
  f.disp.placed ||| place 0 f.disp.ln ||| place 27 f.sc ||| place 21 f.rb ||| place 15 f.ra

/-- The operands of RET in 24 bits (spec/48_branch_flow.md R760), read from a word. -/
def Ret24.ofWord (w : BitVec 96) : Ret24 :=
  { imm := fld w 19 5, ra := fld w 14 5, offs := fld w 9 4 }

/-- The operands of RET in 24 bits (spec/48_branch_flow.md R760), each in its place. -/
def Ret24.enc (f : Ret24) : BitVec 96 :=
  place 19 f.imm ||| place 14 f.ra ||| place 9 f.offs

/-- The operands of RET in 48 or 96 bits (spec/48_branch_flow.md R760), read from a word. -/
def RetF.ofWord (w : BitVec 96) : RetF :=
  { imm := .ofWord w, na := flag w 22, ra := fld w 16 6, offs := fld w 9 4 }

/-- The operands of RET in 48 or 96 bits (spec/48_branch_flow.md R760), each in its place. -/
def RetF.enc (f : RetF) : BitVec 96 :=
  f.imm.placed ||| place 0 f.imm.ln ||| place 22 (bit1 f.na) ||| place 16 f.ra ||| place 9 f.offs

/-- The operands of CAndPerm (spec/49_capability_system_modifiers.md R810), read from a word. -/
def CapR.ofWord (w : BitVec 96) : CapR :=
  { nb := flag w 29, rb := fld w 23 6, na := flag w 22, ca := fld w 16 6, nt := flag w 15, ct := fld w 9 6 }

/-- The operands of CAndPerm (spec/49_capability_system_modifiers.md R810), each in its place. -/
def CapR.enc (f : CapR) : BitVec 96 :=
  place 29 (bit1 f.nb) ||| place 23 f.rb ||| place 22 (bit1 f.na) ||| place 16 f.ca ||| place 15 (bit1 f.nt) ||| place 9 f.ct

/-- The operands of CAndPermi (spec/49_capability_system_modifiers.md R811), read from a word. -/
def CapI.ofWord (w : BitVec 96) : CapI :=
  { imm := fld w 23 18, na := flag w 22, ca := fld w 16 6, nt := flag w 15, ct := fld w 9 6 }

/-- The operands of CAndPermi (spec/49_capability_system_modifiers.md R811), each in its place. -/
def CapI.enc (f : CapI) : BitVec 96 :=
  place 23 f.imm ||| place 22 (bit1 f.na) ||| place 16 f.ca ||| place 15 (bit1 f.nt) ||| place 9 f.ct

/-- The operands of CBuildCap and CCmp (spec/49_capability_system_modifiers.md R812, R814), read from a word. -/
def Cap3.ofWord (w : BitVec 96) : Cap3 :=
  { cb := fld w 23 6, ca := fld w 16 6, ct := fld w 9 6 }

/-- The operands of CBuildCap and CCmp (spec/49_capability_system_modifiers.md R812, R814), each in its place. -/
def Cap3.enc (f : Cap3) : BitVec 96 :=
  place 23 f.cb ||| place 16 f.ca ||| place 9 f.ct

/-- The operands of CClearTag (spec/49_capability_system_modifiers.md R813), read from a word. -/
def Cap2.ofWord (w : BitVec 96) : Cap2 :=
  { ca := fld w 16 6, ct := fld w 9 6 }

/-- The operands of CClearTag (spec/49_capability_system_modifiers.md R813), each in its place. -/
def Cap2.enc (f : Cap2) : BitVec 96 :=
  place 16 f.ca ||| place 9 f.ct

/-! ## Groups of spec/30_encoding.md section 4, by their function fields -/

/-- The REV rows by Op4 (spec/42_data_movement.md R392). -/
def decodeRevAt (code : Nat) (w : BitVec 96) : Decoded :=
  match code with
  | 0 => .instr (.revbit (.ofWord w))
  | 1 => .instr (.revbitp (.ofWord w))
  | 2 => .instr (.revn (.ofWord w))
  | 3 => .instr (.revb (.ofWord w))
  | 4 => .instr (.revw (.ofWord w))
  | 5 => .instr (.revt (.ofWord w))
  | 6 => .instr (.revo (.ofWord w))
  | _ => .unimplemented .function

/-- `decodeRevAt` at the code the word holds. -/
def decodeRev (w : BitVec 96) : Decoded := decodeRevAt (fld w 37 4).toNat w

/-- The R1 map by Func6, bits 35..30 (spec/30_encoding.md R242). -/
def decodeR1At (code : Nat) (w : BitVec 96) : Decoded :=
  match code with
  | 0 => .instr (.cntlz (.ofWord w))
  | 1 => .instr (.cntlo (.ofWord w))
  | 2 => .instr (.cntpop (.ofWord w))
  | 3 => .instr .absR1
  | 4 => .instr (.sqrt (.ofWord w))
  | 5 => decodeRev w
  | 6 => .instr (.cnttz (.ofWord w))
  | 7 => .instr .not
  | 8 => .instr .nnatrig
  | 9 => .instr .nnastat
  | 10 => .instr .nnamfact
  | 12 => .instr .mkbool
  | 13 => .instr .rex
  | 14 => .instr .sm3p0
  | 15 => .instr .sm3p1
  | 18 => .instr .aes64ds
  | 19 => .instr .aes64dsm
  | 20 => .instr .aes64es
  | 21 => .instr .aes64esm
  | 22 => .instr .aes64im
  | 24 => .instr .sha256sig0
  | 25 => .instr .sha256sig1
  | 26 => .instr .sha256sum0
  | 27 => .instr .sha256sum1
  | 28 => .instr .sha512sig0
  | 29 => .instr .sha512sig1
  | 30 => .instr .sha512sum0
  | 31 => .instr .sha512sum1
  | _ => .unimplemented .function

/-- `decodeR1At` at the code the word holds. -/
def decodeR1 (w : BitVec 96) : Decoded := decodeR1At (fld w 30 6).toNat w

/-- Function 18 by Op4 (spec/42_data_movement.md R382). -/
def decodeMinMaxAt (code : Nat) (w : BitVec 96) : Decoded :=
  match code with
  | 0 => .instr (.min3 (.ofWord w))
  | 1 => .instr (.mid3 (.ofWord w))
  | 2 => .instr (.max3 (.ofWord w))
  | _ => .unimplemented .function

/-- `decodeMinMaxAt` at the code the word holds. -/
def decodeMinMax (w : BitVec 96) : Decoded := decodeMinMaxAt (fld w 37 4).toNat w

/-- Function 23 by Op4 (spec/42_data_movement.md R382). -/
def decodeMinMaxUAt (code : Nat) (w : BitVec 96) : Decoded :=
  match code with
  | 0 => .instr (.minu3 (.ofWord w))
  | 1 => .instr (.midu3 (.ofWord w))
  | 2 => .instr (.maxu3 (.ofWord w))
  | _ => .unimplemented .function

/-- `decodeMinMaxUAt` at the code the word holds. -/
def decodeMinMaxU (w : BitVec 96) : Decoded := decodeMinMaxUAt (fld w 37 4).toNat w

/-- Function 32 by Op4 (spec/40_arithmetic.md R321). -/
def decodePtrdifAt (code : Nat) (w : BitVec 96) : Decoded :=
  match code with
  | 0 | 8 => .instr (.ptrdif (.ofWord w))
  | 1 | 9 => .instr (.avgTrunc (.ofWord w))
  | 2 | 10 => .instr (.avgRound (.ofWord w))
  | _ => .unimplemented .function

/-- `decodePtrdifAt` at the code the word holds. -/
def decodePtrdif (w : BitVec 96) : Decoded := decodePtrdifAt (fld w 37 4).toNat w

/-- The R3 map by Func7, bits 47..41 (spec/30_encoding.md R241, spec/49_capability_system_modifiers.md R862). The codes
formatted for root opcode 107 alone (CPUID, BMM) are blank under 104 to 106 (log 38). -/
def decodeR3At (code : Nat) (w : BitVec 96) : Decoded :=
  match code with
  | 0 => .instr (.and (.ofWord w))
  | 1 => .instr (.or (.ofWord w))
  | 2 => .instr (.eor (.ofWord w))
  | 3 => .instr (.cmp (.ofWord w))
  | 4 => .instr (.add (.ofWord w))
  | 6 => .instr (.cmpu (.ofWord w))
  | 7 => if fld w 2 2 = 3#2 then .instr (.cpuid (.ofWord w)) else .unimplemented .function
  | 8 => .instr .nand
  | 9 => .instr .nor
  | 10 => .instr .enor
  | 11 => .instr .cmovnz
  | 12 => .instr (.cmov (.ofWord w))
  | 13 => if fld w 37 4 = 3#4 then .instr (.abs (.ofWord w)) else .unimplemented .function
  | 14 => .instr (.maj (.ofWord w))
  | 16 => .instr (.mul (.ofWord w))
  | 17 => .instr (.div (.ofWord w))
  | 18 => decodeMinMax w
  | 19 => .instr (.mulu (.ofWord w))
  | 20 => .instr (.divu (.ofWord w))
  | 21 => .instr (.mulsu (.ofWord w))
  | 22 => .instr .divsu
  | 23 => decodeMinMaxU w
  | 24 => .instr .mulw
  | 25 => .instr (.rem (.ofWord w))
  | 26 => decodeR1 w
  | 27 => .instr .muluw
  | 28 => .instr (.remu (.ofWord w))
  | 29 => .instr .mulsuw
  | 30 => .instr .modsu
  | 32 => decodePtrdif w
  | 33 => .instr (.mux (.ofWord w))
  | 34 => if fld w 2 2 = 3#2 then .instr (.bmm (.ofWord w)) else .unimplemented .function
  | 35 => .instr (.bmap (.ofWord w))
  | 36 => .instr .dif
  | 37 => .instr (.bytendx (.ofWord w))
  | 38 => .instr (.wydendx (.ofWord w))
  | 39 => .instr (.tetrandx (.ofWord w))
  | 40 => .instr .nnamtwt
  | 41 => .instr .nnamtin
  | 42 => .instr .nnamtbias
  | 43 => .instr .nnamtfb
  | 44 => .instr .nnamtmc
  | 45 => .instr .nnamtbc
  | 48 => .instr .v2bits
  | 49 => .instr .bits2v
  | 50 => .instr .vex
  | 51 => .instr .veins
  | 52 => .instr .vgndx
  | 54 => .instr .vshlv
  | 55 => .instr .vshrv
  | 58 => .instr .vsetmask
  | 62 => .instr .vshlvi
  | 63 => .instr .vshrvi
  | 64 => .instr .aes64k1i
  | 65 => .instr .aes64ks2
  | 66 => .instr .sm4ed
  | 67 => .instr .sm4ks
  | 70 => .instr .clmul
  | 80 => .instr (.seq (.ofWord w))
  | 81 => .instr (.sne (.ofWord w))
  | 82 => .instr (.slt (.ofWord w))
  | 83 => .instr (.sle (.ofWord w))
  | 84 => .instr (.sltu (.ofWord w))
  | 85 => .instr (.sleu (.ofWord w))
  | 87 => .instr .divmod
  | 95 => .instr .divmodu
  | 96 => .instr (.cmoveq (.ofWord w))
  | 97 => .instr (.cmovne (.ofWord w))
  | 98 => .instr (.cmovlt (.ofWord w))
  | 99 => .instr (.cmovle (.ofWord w))
  | 100 => .instr (.sltuCode100 (.ofWord w))
  | 101 => .instr (.sleuCode101 (.ofWord w))
  | 112 => .instr (.zseq (.ofWord w))
  | 113 => .instr (.zsne (.ofWord w))
  | 114 => .instr (.zslt (.ofWord w))
  | 115 => .instr (.zsle (.ofWord w))
  | 116 => .instr (.zsltu (.ofWord w))
  | 117 => .instr (.zsleu (.ofWord w))
  | 120 => .instr (.zseqCode120 (.ofWord w))
  | 121 => .instr (.zsneCode121 (.ofWord w))
  | 122 => .instr (.zsltCode122 (.ofWord w))
  | 123 => .instr (.zsleCode123 (.ofWord w))
  | 124 => .instr (.zsltuCode124 (.ofWord w))
  | 125 => .instr (.zsleuCode125 (.ofWord w))
  | 127 => .instr .mvvr
  | _ => .unimplemented .function

/-- `decodeR3At` at the code the word holds. -/
def decodeR3 (w : BitVec 96) : Decoded := decodeR3At (fld w 41 7).toNat w

/-- The shift map by Func4, bits 47..44 (spec/45_shift_bitfield.md R502, with the codes of the descriptions). -/
def decodeShiftAt (code : Nat) (w : BitVec 96) : Decoded :=
  match code with
  | 0 => .instr (.sllp (.ofWord w))
  | 1 => .instr (.srlp (.ofWord w))
  | 2 => .instr (.srap (.ofWord w))
  | 3 => .instr (.sraprz (.ofWord w))
  | 4 => .instr (.srapru (.ofWord w))
  | 5 => .instr (.dep (.ofWord w))
  | 6 => .instr (.depxor (.ofWord w))
  | 7 => .instr .reservedFunc4x7
  | 8 => .instr (.sllpi (.ofWord w))
  | 9 => .instr (.srlpi (.ofWord w))
  | 10 => .instr (.srapi (.ofWord w))
  | 11 => .instr (.sraprzi (.ofWord w))
  | 12 => .instr (.sraprui (.ofWord w))
  | 13 => .instr (.depi (.ofWord w))
  | 14 => .instr (.depxori (.ofWord w))
  | _ => .instr .reservedFunc4x15

/-- `decodeShiftAt` at the code the word holds. -/
def decodeShift (w : BitVec 96) : Decoded := decodeShiftAt (fld w 44 4).toNat w

/-- The FLT map by Func7 (spec/30_encoding.md R244, spec/46_floating_point.md R586, R590). -/
def decodeFltAt (code : Nat) (w : BitVec 96) : Decoded :=
  match code with
  | 0 => .instr .fnop
  | 1 => if flag w 36 then .instr (.fms (.ofWord w)) else .instr (.fma (.ofWord w))
  | 2 => .instr .fmin
  | 3 => .instr .fmax
  | 4 => if flag w 29 then .instr (.fsub (.ofWord w)) else .instr (.fadd (.ofWord w))
  | 5 => .instr .fsubCode5
  | 6 => .instr .fmul
  | 7 => .instr .fdiv
  | 8 => .instr .fseq
  | 9 => .instr (.fsne (.ofWord w))
  | 10 => .instr (.fslt (.ofWord w))
  | 11 => .instr .fsle
  | 13 => .instr (.fcmp (.ofWord w))
  | 14 => .instr .fnxt
  | 15 => .instr .frem
  | 16 => .instr .fsgnj
  | 17 => .instr .fsgnjn
  | 18 => .instr .fsgnjx
  | 20 => .instr .fscaleb
  | 32 => if flag w 15 then .instr (.fnabs (.ofWord w)) else .instr (.fabs (.ofWord w))
  | 33 => .instr .fneg
  | 34 => .instr .ftoi
  | 35 => .instr .itof
  | 36 => .instr .fconst
  | 38 => .instr .fsign
  | 39 => .instr .fsig
  | 40 => .instr (.fsqrt (.ofWord w))
  | 41 => .instr .fcvts2d
  | 42 => .instr .fcvts2q
  | 43 => .instr .fcvtd2q
  | 44 => .instr .fcvth2s
  | 45 => .instr .fcvth2d
  | 46 => .instr .isnan
  | 47 => .instr .finite
  | 48 => .instr .fcvtq2h
  | 49 => .instr .fcvtq2s
  | 50 => .instr .fcvtq2d
  | 52 => .instr .fcvth2q
  | 53 => .instr (.ftrunc (.ofWord w))
  | 54 => .instr .frsqrt
  | 55 => .instr .fres
  | 57 => .instr .fcvtd2s
  | 62 => .instr .fclass
  | 64 => .instr .fsin
  | 65 => .instr (.fcos (.ofWord w))
  | 66 => .instr .ftan
  | 74 => .instr .fatan
  | 80 => .instr .fsigmoid
  | _ => .unimplemented .function

/-- `decodeFltAt` at the code the word holds. -/
def decodeFlt (w : BitVec 96) : Decoded := decodeFltAt (fld w 41 7).toNat w

/-- The CAP map by Func7 (spec/49_capability_system_modifiers.md R815). -/
def decodeCapAt (code : Nat) (w : BitVec 96) : Decoded :=
  match code with
  | 8 => .instr .cRetd
  | 12 => .instr .cInvoke
  | 32 => .instr (.cAndPerm (.ofWord w))
  | 33 => .instr (.cBuildCap (.ofWord w))
  | 34 => .instr .cCopyType
  | 35 => .instr .cIncOffs
  | 36 => .instr .cSeal
  | 37 => .instr .cSetAddr
  | 38 => .instr .cSetBounds
  | 39 => .instr .cSetFlags
  | 40 => .instr .cSetHigh
  | 41 => .instr .cSetOffs
  | 42 => .instr .cSpeicalRW
  | 43 => .instr .cUnseal
  | 44 => .instr (.cCmp (.ofWord w))
  | 48 => .instr (.cAndPermi (.ofWord w))
  | 64 => .instr (.cClearTag (.ofWord w))
  | 65 => .instr .cGetFlags
  | 66 => .instr .cGetHigh
  | 67 => .instr .cGetLen
  | 68 => .instr .cGetOffs
  | 69 => .instr .cGetPerms
  | 70 => .instr .cGetTag
  | 71 => .instr .cGetTop
  | 72 => .instr .cGetType
  | 73 => .instr .cLoadTags
  | 74 => .instr .cAlignMsk
  | 75 => .instr .cRoundLen
  | 76 => .instr .cSealEntry
  | 77 => .instr .cGetBase
  | _ => .unimplemented .function

/-- `decodeCapAt` at the code the word holds. -/
def decodeCap (w : BitVec 96) : Decoded := decodeCapAt (fld w 41 7).toNat w

/-- The CSR operations by Op3, bits 47..45 (spec/40_arithmetic.md R317). -/
def decodeCsrAt (code : Nat) (w : BitVec 96) : Decoded :=
  match code with
  | 0 => .instr (.csrrd (.ofWord w))
  | 1 => .instr (.csrrw (.ofWord w))
  | 2 => .instr (.csrrs (.ofWord w))
  | 3 => .instr (.csrrc (.ofWord w))
  | 4 => .instr .csrOp4
  | 5 => .instr (.csrrwImm (.ofWord w))
  | 6 => .instr (.csrrsImm (.ofWord w))
  | _ => .instr (.csrrcImm (.ofWord w))

/-- `decodeCsrAt` at the code the word holds. -/
def decodeCsr (w : BitVec 96) : Decoded := decodeCsrAt (fld w 45 3).toNat w

/-- SX and ZX by bits 23..22 (spec/42_data_movement.md R393, R394). -/
def decodeExtAt (code : Nat) (w : BitVec 96) : Decoded :=
  match code with
  | 0 => .instr (.zx (.ofWord w))
  | 1 => .instr (.sxImm (.ofWord w))
  | _ => .instr (.sxReg (.ofWord w))

/-- `decodeExtAt` at the code the word holds. -/
def decodeExt (w : BitVec 96) : Decoded := decodeExtAt (fld w 22 2).toNat w

/-- The branch conditions of root opcode 40 by Fn4, bits 12..9 (spec/48_branch_flow.md R710). -/
def decodeBcc40At (code : Nat) (w : BitVec 96) : Decoded :=
  match code with
  | 0 => .instr (.beq (.ofWord w))
  | 1 => .instr (.bne (.ofWord w))
  | 2 => .instr (.bltu (.ofWord w))
  | 3 => .instr (.bleu (.ofWord w))
  | 4 => .instr (.bgeu (.ofWord w))
  | 5 => .instr (.bgtu (.ofWord w))
  | 6 => .instr (.bbc (.ofWord w))
  | 7 => .instr (.bbs (.ofWord w))
  | 8 => .instr (.bbcImm (.ofWord w))
  | 9 => .instr (.bbsImm (.ofWord w))
  | 10 => .instr (.bnandb (.ofWord w))
  | 11 => .instr (.bandb (.ofWord w))
  | 12 => .instr (.bnorb (.ofWord w))
  | 13 => .instr (.borb (.ofWord w))
  | 14 => .instr .reservedBcc40x14
  | _ => .instr .irq40

/-- `decodeBcc40At` at the code the word holds. -/
def decodeBcc40 (w : BitVec 96) : Decoded := decodeBcc40At (fld w 9 4).toNat w

/-- The branch conditions of root opcode 41 by Fn4, bits 12..9 (spec/48_branch_flow.md R710). -/
def decodeBcc41At (code : Nat) (w : BitVec 96) : Decoded :=
  match code with
  | 0 => .instr (.benor (.ofWord w))
  | 1 => .instr (.beor (.ofWord w))
  | 2 => .instr (.blt (.ofWord w))
  | 3 => .instr (.ble (.ofWord w))
  | 4 => .instr (.bge (.ofWord w))
  | 5 => .instr (.bgt (.ofWord w))
  | 6 => .instr .reservedBcc41x6
  | 7 => .instr .reservedBcc41x7
  | 8 => .instr .reservedBcc41x8
  | 9 => .instr .reservedBcc41x9
  | 10 => .instr (.bnand (.ofWord w))
  | 11 => .instr (.band (.ofWord w))
  | 12 => .instr (.bnor (.ofWord w))
  | 13 => .instr (.bor (.ofWord w))
  | 14 => .instr .reservedBcc41x14
  | _ => .instr .irq41

/-- `decodeBcc41At` at the code the word holds. -/
def decodeBcc41 (w : BitVec 96) : Decoded := decodeBcc41At (fld w 9 4).toNat w

/-- The branch conditions of root opcode 48 by Fn4, bits 12..9 (spec/48_branch_flow.md R710). -/
def decodeBcc48At (code : Nat) (w : BitVec 96) : Decoded :=
  match code with
  | 0 => .instr (.beqReg (.ofWord w))
  | 1 => .instr (.bneReg (.ofWord w))
  | 2 => .instr (.bltuReg (.ofWord w))
  | 3 => .instr (.bleuReg (.ofWord w))
  | 4 => .instr (.bgeuReg (.ofWord w))
  | 5 => .instr (.bgtuReg (.ofWord w))
  | 6 => .instr (.bbcReg (.ofWord w))
  | 7 => .instr (.bbsReg (.ofWord w))
  | 8 => .instr (.bbcImmReg (.ofWord w))
  | 9 => .instr (.bbsImmReg (.ofWord w))
  | 10 => .instr (.bnandbReg (.ofWord w))
  | 11 => .instr (.bandbReg (.ofWord w))
  | 12 => .instr (.bnorbReg (.ofWord w))
  | 13 => .instr (.borbReg (.ofWord w))
  | 14 => .instr .reservedBcc48x14
  | _ => .instr .irq48

/-- `decodeBcc48At` at the code the word holds. -/
def decodeBcc48 (w : BitVec 96) : Decoded := decodeBcc48At (fld w 9 4).toNat w

/-- The branch conditions of root opcode 49 by Fn4, bits 12..9 (spec/48_branch_flow.md R710). -/
def decodeBcc49At (code : Nat) (w : BitVec 96) : Decoded :=
  match code with
  | 0 => .instr (.benorReg (.ofWord w))
  | 1 => .instr (.beorReg (.ofWord w))
  | 2 => .instr (.bltReg (.ofWord w))
  | 3 => .instr (.bleReg (.ofWord w))
  | 4 => .instr (.bgeReg (.ofWord w))
  | 5 => .instr (.bgtReg (.ofWord w))
  | 6 => .instr .reservedBcc49x6
  | 7 => .instr .reservedBcc49x7
  | 8 => .instr .reservedBcc49x8
  | 9 => .instr .reservedBcc49x9
  | 10 => .instr (.bnandReg (.ofWord w))
  | 11 => .instr (.bandReg (.ofWord w))
  | 12 => .instr (.bnorReg (.ofWord w))
  | 13 => .instr (.borReg (.ofWord w))
  | 14 => .instr .reservedBcc49x14
  | _ => .instr .irq49

/-- `decodeBcc49At` at the code the word holds. -/
def decodeBcc49 (w : BitVec 96) : Decoded := decodeBcc49At (fld w 9 4).toNat w

/-- Root opcode 64 by Prc2, bits 31..30 (spec/47_load_store.md R633). -/
def decodeLs64At (code : Nat) (w : BitVec 96) : Decoded :=
  match code with
  | 0 => .instr (.ldb (.ofWord w))
  | 1 => .instr (.ldw (.ofWord w))
  | 2 => .instr (.ldt (.ofWord w))
  | _ => .instr (.ldo (.ofWord w))

/-- `decodeLs64At` at the code the word holds. -/
def decodeLs64 (w : BitVec 96) : Decoded := decodeLs64At (fld w 30 2).toNat w

/-- Root opcode 65 by Prc2, bits 31..30 (spec/47_load_store.md R633). -/
def decodeLs65At (code : Nat) (w : BitVec 96) : Decoded :=
  match code with
  | 0 => .instr (.ldbu (.ofWord w))
  | 1 => .instr (.ldwu (.ofWord w))
  | 2 => .instr (.ldtu (.ofWord w))
  | _ => .instr .reservedLd65x3

/-- `decodeLs65At` at the code the word holds. -/
def decodeLs65 (w : BitVec 96) : Decoded := decodeLs65At (fld w 30 2).toNat w

/-- Root opcode 66 by Prc2, bits 31..30 (spec/47_load_store.md R633). -/
def decodeLs66At (code : Nat) (w : BitVec 96) : Decoded :=
  match code with
  | 1 => .instr (.fldh (.ofWord w))
  | 2 => .instr (.flds (.ofWord w))
  | 3 => .instr (.fldd (.ofWord w))
  | _ => .unimplemented .precision

/-- `decodeLs66At` at the code the word holds. -/
def decodeLs66 (w : BitVec 96) : Decoded := decodeLs66At (fld w 30 2).toNat w

/-- Root opcode 67 by Prc2, bits 31..30 (spec/47_load_store.md R633). -/
def decodeLs67At (code : Nat) (_w : BitVec 96) : Decoded :=
  match code with
  | 0 => .instr .dfldd
  | 1 => .instr .dfldq
  | _ => .unimplemented .precision

/-- `decodeLs67At` at the code the word holds. -/
def decodeLs67 (w : BitVec 96) : Decoded := decodeLs67At (fld w 30 2).toNat w

/-- Root opcode 68 by Prc2, bits 31..30 (spec/47_load_store.md R633). -/
def decodeLs68At (code : Nat) (_w : BitVec 96) : Decoded :=
  match code with
  | 1 => .instr .pldw
  | 2 => .instr .pldt
  | 3 => .instr .pldo
  | _ => .unimplemented .precision

/-- `decodeLs68At` at the code the word holds. -/
def decodeLs68 (w : BitVec 96) : Decoded := decodeLs68At (fld w 30 2).toNat w

/-- Root opcode 69 by Prc2, bits 31..30 (spec/47_load_store.md R633). -/
def decodeLs69At (code : Nat) (w : BitVec 96) : Decoded :=
  match code with
  | 0 => .instr (.ldcapd (.ofWord w))
  | 1 => .instr .ldcapq
  | _ => .unimplemented .precision

/-- `decodeLs69At` at the code the word holds. -/
def decodeLs69 (w : BitVec 96) : Decoded := decodeLs69At (fld w 30 2).toNat w

/-- Root opcode 70 by Prc2, bits 31..30 (spec/47_load_store.md R633). -/
def decodeLs70At (code : Nat) (w : BitVec 96) : Decoded :=
  match code with
  | 3 => .instr (.cache (.ofWord w))
  | _ => .unimplemented .precision

/-- `decodeLs70At` at the code the word holds. -/
def decodeLs70 (w : BitVec 96) : Decoded := decodeLs70At (fld w 30 2).toNat w

/-- Root opcode 72 by Prc2, bits 31..30 (spec/47_load_store.md R633). -/
def decodeLs72At (code : Nat) (w : BitVec 96) : Decoded :=
  match code with
  | 0 => .instr (.stb (.ofWord w))
  | 1 => .instr (.stw (.ofWord w))
  | 2 => .instr (.stt (.ofWord w))
  | _ => .instr (.sto (.ofWord w))

/-- `decodeLs72At` at the code the word holds. -/
def decodeLs72 (w : BitVec 96) : Decoded := decodeLs72At (fld w 30 2).toNat w

/-- Root opcode 73 by Prc2, bits 31..30 (spec/47_load_store.md R633). -/
def decodeLs73At (code : Nat) (w : BitVec 96) : Decoded :=
  match code with
  | 0 => .instr (.stib (.ofWord w))
  | 1 => .instr (.stiw (.ofWord w))
  | 2 => .instr (.stit (.ofWord w))
  | _ => .instr (.stio (.ofWord w))

/-- `decodeLs73At` at the code the word holds. -/
def decodeLs73 (w : BitVec 96) : Decoded := decodeLs73At (fld w 30 2).toNat w

/-- Root opcode 74 by Prc2, bits 31..30 (spec/47_load_store.md R633). -/
def decodeLs74At (code : Nat) (w : BitVec 96) : Decoded :=
  match code with
  | 1 => .instr (.fsth (.ofWord w))
  | 2 => .instr (.fsts (.ofWord w))
  | 3 => .instr (.fstd (.ofWord w))
  | _ => .unimplemented .precision

/-- `decodeLs74At` at the code the word holds. -/
def decodeLs74 (w : BitVec 96) : Decoded := decodeLs74At (fld w 30 2).toNat w

/-- Root opcode 75 by Prc2, bits 31..30 (spec/47_load_store.md R633). -/
def decodeLs75At (code : Nat) (_w : BitVec 96) : Decoded :=
  match code with
  | 3 => .instr .dfstd
  | _ => .unimplemented .precision

/-- `decodeLs75At` at the code the word holds. -/
def decodeLs75 (w : BitVec 96) : Decoded := decodeLs75At (fld w 30 2).toNat w

/-- Root opcode 76 by Prc2, bits 31..30 (spec/47_load_store.md R633). -/
def decodeLs76At (code : Nat) (_w : BitVec 96) : Decoded :=
  match code with
  | 1 => .instr .pstw
  | 2 => .instr .pstt
  | 3 => .instr .psto
  | _ => .unimplemented .precision

/-- `decodeLs76At` at the code the word holds. -/
def decodeLs76 (w : BitVec 96) : Decoded := decodeLs76At (fld w 30 2).toNat w

/-- Root opcode 77 by Prc2, bits 31..30 (spec/47_load_store.md R633). -/
def decodeLs77At (code : Nat) (w : BitVec 96) : Decoded :=
  match code with
  | 0 => .instr (.stcapd (.ofWord w))
  | 1 => .instr .stcapq
  | _ => .unimplemented .precision

/-- `decodeLs77At` at the code the word holds. -/
def decodeLs77 (w : BitVec 96) : Decoded := decodeLs77At (fld w 30 2).toNat w

/-- Root opcode 78 by Prc2, bits 31..30 (spec/47_load_store.md R633). -/
def decodeLs78At (code : Nat) (w : BitVec 96) : Decoded :=
  match code with
  | 0 => .instr .stptrt
  | 1 => .instr (.stptr (.ofWord w))
  | _ => .unimplemented .precision

/-- `decodeLs78At` at the code the word holds. -/
def decodeLs78 (w : BitVec 96) : Decoded := decodeLs78At (fld w 30 2).toNat w

/-- Root opcode 35 in 24 bits: RET with bit 13 clear, RTE with bits 23..13 fixed (spec/48_branch_flow.md R760, R764, R765). -/
def decodeRet24 (w : BitVec 96) : Decoded :=
  if fld w 13 1 = 0#1 then .instr (.ret (.short (.ofWord w)))
  else if fld w 13 11 = 65#11 then .instr (.rte (fld w 9 4))
  else if fld w 13 11 = 129#11 then .instr (.rte2 (fld w 9 4))
  else .unimplemented .bits

/-- Root opcode 35 in 48 or 96 bits, bits 14..13 zero (spec/48_branch_flow.md R760). -/
def decodeRet (w : BitVec 96) : Decoded :=
  if fld w 13 2 = 0#2 then .instr (.ret (.long (.ofWord w))) else .unimplemented .bits

/-! ## The root opcode map (spec/30_encoding.md R240), each group under the lengths it is drawn with -/

/-- A word drawn in 24 bits only. -/
def only24 (w : BitVec 96) (d : Decoded) : Decoded :=
  if fld w 0 2 = 0#2 then d else .unimplemented .length

/-- A word drawn in 48 bits only. -/
def only48 (w : BitVec 96) (d : Decoded) : Decoded :=
  if fld w 0 2 = 1#2 then d else .unimplemented .length

/-- A word drawn in 48, 72 and 96 bits, and perhaps in another way in 24. -/
def byLength (w : BitVec 96) (short long : Decoded) : Decoded :=
  if fld w 0 2 = 0#2 then short else long

/-- A set-on-immediate word of any length. -/
def SetImm.ofWord (w : BitVec 96) : SetImm :=
  if fld w 0 2 = 0#2 then .short (fld w 9 15) else .long (.ofWord w)

/-- Root opcode 16: one 24-bit row, reserved rows in the other lengths (spec/49_capability_system_modifiers.md R878). -/
def decode16 (w : BitVec 96) : Decoded :=
  match (fld w 0 2).toNat with
  | 0 => .instr .add24
  | 1 => .instr .reservedRoot1648
  | 2 => .instr .reservedRoot1672
  | _ => .instr .reservedRoot1696

/-- Root opcode 35 by length; 72 bits are not drawn (spec/48_branch_flow.md R760). -/
def decode35 (w : BitVec 96) : Decoded :=
  match (fld w 0 2).toNat with
  | 0 => decodeRet24 w
  | 2 => .unimplemented .length
  | _ => decodeRet w

/-- Root opcode 58: AUIIP in 24, 72 and 96 bits, the contested word in 48 (spec/46_floating_point.md R553). -/
def decode58 (w : BitVec 96) : Decoded :=
  match (fld w 0 2).toNat with
  | 0 => .instr (.auiip (.short (.ofWord w)))
  | 1 => .instr (.opcode58 (fld w 9 39))
  | _ => .instr (.auiip (.long (.ofWord w)))

/-- ATOM by length (spec/49_capability_system_modifiers.md R844). -/
def decode122 (w : BitVec 96) : Decoded :=
  match (fld w 0 2).toNat with
  | 0 => .instr (.atom (.short (fld w 9 15)))
  | 1 => if fld w 9 1 = 0#1 then .instr (.atom (.long (fld w 10 33))) else .unimplemented .bits
  | _ => .unimplemented .length

/-- The decoder: by root opcode, bits 8..2, then by length and the group's own fields
(spec/30_encoding.md R222, R250). -/
def decodeRoot (root : Nat) (w : BitVec 96) : Decoded :=
  match root with
  | 0 => only24 w (.instr .brk)
  | 1 => only48 w (decodeCap w)
  | 2 => .instr .r3x128
  | 3 => only24 w (decodeExt w)
  | 4 => byLength w (.instr (.addi (.short (.ofWord w)))) (.instr (.addi (.long (.ofWord w))))
  | 5 => byLength w (.instr (.subfi (.short (.ofWord w)))) (.instr (.subfi (.long (.ofWord w))))
  | 6 => byLength w (.instr (.muli (.short (.ofWord w)))) (.instr (.muli (.long (.ofWord w))))
  | 7 => only48 w (decodeCsr w)
  | 8 => byLength w (.instr (.andi (.short (.ofWord w)))) (.instr (.andi (.long (.ofWord w))))
  | 9 => byLength w (.instr (.ori (.short (.ofWord w)))) (.instr (.ori (.long (.ofWord w))))
  | 10 => byLength w (.instr (.eori (.short (.ofWord w)))) (.instr (.eori (.long (.ofWord w))))
  | 11 => byLength w (.instr (.cmpi (.short (.ofWord w)))) (.instr (.cmpi (.long (.ofWord w))))
  | 12 => .instr .reservedRoot12
  | 13 => byLength w (.instr (.divi (.short (.ofWord w)))) (.instr (.divi (.long (.ofWord w))))
  | 14 => byLength w (.instr (.mului (.short (.ofWord w)))) (.instr (.mului (.long (.ofWord w))))
  | 15 => only24 w (.instr (.move (.ofWord w)))
  | 16 => decode16 w
  | 17 => .instr .dflt
  | 18 => .instr .pst
  | 19 => byLength w (.instr (.cmpui (.short (.ofWord w)))) (.instr (.cmpui (.long (.ofWord w))))
  | 20 => .instr .reservedRoot20
  | 21 => byLength w (.instr (.divui (.short (.ofWord w)))) (.instr (.divui (.long (.ofWord w))))
  | 22 => byLength w (.unimplemented .length) (.instr (.seqi (.ofWord w)))
  | 23 => .instr (.snei (.ofWord w))
  | 24 => .instr (.slti (.ofWord w))
  | 25 => .instr (.slei (.ofWord w))
  | 26 => .instr (.sgti (.ofWord w))
  | 27 => .instr (.sgei (.ofWord w))
  | 28 => .instr (.sltui (.ofWord w))
  | 29 => .instr (.sleui (.ofWord w))
  | 30 => .instr (.sgtui (.ofWord w))
  | 31 => .instr (.sgeui (.ofWord w))
  | 32 => only48 w (if fld w 9 2 = 0#2 then .instr (.bra (fld w 11 37)) else .instr (.bsr (.ofWord w)))
  | 33 => only48 w (if fld w 9 2 = 0#2 then .instr (.jmpDirect (fld w 11 37)) else .instr (.jsrDirect (.ofWord w)))
  | 34 => .instr .cjmp34
  | 35 => decode35 w
  | 36 => byLength w (.unimplemented .length) (if fld w 9 6 = 0#6 then .instr (.jmpIndirect (.ofWord w)) else .instr (.jsrIndirect (.ofWord w)))
  | 37 => .instr .cjmp37
  | 38 => byLength w (.unimplemented .length) (if fld w 9 6 = 0#6 then .instr (.jmpScaled (.ofWord w)) else .instr (.jsrScaled (.ofWord w)))
  | 39 => .instr .cjmp39
  | 40 => only48 w (decodeBcc40 w)
  | 41 => only48 w (decodeBcc41 w)
  | 42 => only48 w (.instr (.fbcc (.ofWord w)))
  | 43 => only48 w (.instr .dfbcc)
  | 44 => only48 w (.instr .pbcc)
  | 45 => only48 w (.instr .cbcc)
  | 46 => only48 w (if fld w 9 4 = 1#4 then .instr (.ibne (.ofWord w)) else .refused .countingCondition)
  | 47 => only48 w (if fld w 9 4 = 1#4 then .instr (.dbne (.ofWord w)) else .refused .countingCondition)
  | 48 => only48 w (decodeBcc48 w)
  | 49 => only48 w (decodeBcc49 w)
  | 50 => only48 w (.instr (.fbccReg (.ofWord w)))
  | 51 => only48 w (.instr .dfbccReg)
  | 52 => only48 w (.instr .pbccReg)
  | 53 => only48 w (.instr .cbccReg)
  | 54 => only48 w (if fld w 9 4 = 1#4 then .instr (.ibneReg (.ofWord w)) else .refused .countingCondition)
  | 55 => only48 w (if fld w 9 4 = 1#4 then .instr (.dbneReg (.ofWord w)) else .refused .countingCondition)
  | 56 => .instr .reservedRoot56
  | 57 => only48 w (decodeFlt w)
  | 58 => decode58 w
  | 59 => only48 w (decodeFlt w)
  | 60 => byLength w (.instr (.add2ui (.short (.ofWord w)))) (.instr (.add2ui (.long (.ofWord w))))
  | 61 => byLength w (.instr (.add4ui (.short (.ofWord w)))) (.instr (.add4ui (.long (.ofWord w))))
  | 62 => byLength w (.instr (.add8ui (.short (.ofWord w)))) (.instr (.add8ui (.long (.ofWord w))))
  | 63 => byLength w (.instr (.add16ui (.short (.ofWord w)))) (.instr (.add16ui (.long (.ofWord w))))
  | 64 => byLength w (.instr (.ldo24 (.ofWord w))) (decodeLs64 w)
  | 65 => byLength w (.unimplemented .length) (decodeLs65 w)
  | 66 => byLength w (.unimplemented .length) (decodeLs66 w)
  | 67 => byLength w (.unimplemented .length) (decodeLs67 w)
  | 68 => byLength w (.unimplemented .length) (decodeLs68 w)
  | 69 => only48 w (decodeLs69 w)
  | 70 => byLength w (.unimplemented .length) (decodeLs70 w)
  | 71 => .instr .chksc
  | 72 => byLength w (.instr (.sto24 (.ofWord w))) (decodeLs72 w)
  | 73 => byLength w (.refused .sti24) (decodeLs73 w)
  | 74 => byLength w (.unimplemented .length) (decodeLs74 w)
  | 75 => byLength w (.unimplemented .length) (decodeLs75 w)
  | 76 => byLength w (.unimplemented .length) (decodeLs76 w)
  | 77 => only48 w (decodeLs77 w)
  | 78 => byLength w (.instr (.stptr24 (.ofWord w))) (decodeLs78 w)
  | 79 => .instr .stctx
  | 80 => only48 w (decodeShift w)
  | 81 => only48 w (decodeShift w)
  | 82 => only48 w (decodeShift w)
  | 83 => only48 w (decodeShift w)
  | 84 => .instr .enter
  | 85 => .instr .leave
  | 86 => .instr .push
  | 87 => .instr .pop
  | 88 => byLength w (.unimplemented .length) (.instr (.loada (.ofWord w)))
  | 89 => .instr .blend
  | 90 => .instr .flt128
  | 91 => .instr .reservedRoot91
  | 92 => .instr .amo
  | 93 => .instr .cas
  | 94 => byLength w (.unimplemented .length) (.instr (.zseqi (.ofWord w)))
  | 95 => .instr (.zsnei (.ofWord w))
  | 96 => .instr (.zslti (.ofWord w))
  | 97 => .instr (.zslei (.ofWord w))
  | 98 => .instr (.zsgti (.ofWord w))
  | 99 => .instr (.zsgei (.ofWord w))
  | 100 => .instr (.zsltui (.ofWord w))
  | 101 => .instr (.zsleui (.ofWord w))
  | 102 => .instr (.zsgtui (.ofWord w))
  | 103 => .instr (.zsgeui (.ofWord w))
  | 104 => only48 w (decodeR3 w)
  | 105 => only48 w (decodeR3 w)
  | 106 => only48 w (decodeR3 w)
  | 107 => only48 w (decodeR3 w)
  | 108 => .instr .bfind
  | 109 => .instr .bcmp
  | 110 => .instr .reservedRoot110
  | 111 => .instr .block
  | 112 => only48 w (if flag w 15 then .instr (.chk (.ofWord w)) else .instr (.chku (.ofWord w)))
  | 113 => .instr .stopOp
  | 114 => .instr .fence
  | 115 => .instr .pfi
  | 116 => .instr .reservedRoot116
  | 117 => .instr .reservedRoot117
  | 118 => .instr .reservedRoot118
  | 119 => .instr .reservedRoot119
  | 120 => .instr .qext
  | 121 => .instr .pred
  | 122 => decode122 w
  | 123 => .instr .reservedRoot123
  | 124 => .instr .pfx
  | 125 => .instr .reservedRoot125
  | 126 => .instr .reservedRoot126
  | _ => only24 w (.instr .nop)

/-- The decoder. -/
def decode (w : BitVec 96) : Decoded := decodeRoot (fld w 2 7).toNat w

/-- The first twelve bytes of a list as one word, the first byte in the lowest bits; a missing byte reads 0
(spec/20_memory.md R101). -/
def wordOfBytes : Nat → List Byte → BitVec 96
  | 0, _ => 0#96
  | _ + 1, [] => 0#96
  | n + 1, b :: bs => (wordOfBytes n bs <<< 8) ||| b.setWidth 96

/-- The low `n` bytes of a word, lowest first. -/
def bytesOfWord (w : BitVec 96) : Nat → List Byte
  | 0 => []
  | n + 1 => w.setWidth 8 :: bytesOfWord (w >>> 8) n

/-- The decoder on the bytes found at the instruction pointer. -/
def decodeBytes (bs : List Byte) : Decoded := decode (wordOfBytes 12 bs)

/-- The instruction read from a row's word of `nbits` bits, every bit above them zero: the bytes are laid out little-endian
and given to the decoder. -/
def decodeTableWord (nbits w : Nat) : Option Instr :=
  match decodeBytes (bytesOfWord (BitVec.ofNat 96 (w % 2 ^ nbits)) 12) with
  | .instr i => some i
  | _ => none

/-! ## The encoder -/

/-- A set-on-immediate word under its root opcode. -/
def SetImm.enc (f : SetImm) (root : BitVec 7) : BitVec 96 :=
  match f with
  | .short p => place 9 p ||| place 2 root ||| place 0 0#2
  | .long g => g.enc ||| place 2 root

/-- The word of an instruction, from the same tables: every field in its place, the don't-care fields zero. A row without
operands is written as the table's match word. -/
def encode (i : Instr) : BitVec 96 :=
  match i with
  | .zx f => f.enc ||| place 22 0#2 ||| place 2 3#7 ||| place 0 0#2
  | .sxImm f => f.enc ||| place 22 1#2 ||| place 2 3#7 ||| place 0 0#2
  | .sxReg f => f.enc ||| place 23 1#1 ||| place 2 3#7 ||| place 0 0#2
  | .move f => f.enc ||| place 2 15#7 ||| place 0 0#2
  | .addi (.short f) => f.enc ||| place 2 4#7 ||| place 0 0#2
  | .addi (.long f) => f.enc ||| place 2 4#7
  | .subfi (.short f) => f.enc ||| place 2 5#7 ||| place 0 0#2
  | .subfi (.long f) => f.enc ||| place 2 5#7
  | .muli (.short f) => f.enc ||| place 2 6#7 ||| place 0 0#2
  | .muli (.long f) => f.enc ||| place 2 6#7
  | .andi (.short f) => f.enc ||| place 2 8#7 ||| place 0 0#2
  | .andi (.long f) => f.enc ||| place 2 8#7
  | .ori (.short f) => f.enc ||| place 2 9#7 ||| place 0 0#2
  | .ori (.long f) => f.enc ||| place 2 9#7
  | .eori (.short f) => f.enc ||| place 2 10#7 ||| place 0 0#2
  | .eori (.long f) => f.enc ||| place 2 10#7
  | .cmpi (.short f) => f.enc ||| place 2 11#7 ||| place 0 0#2
  | .cmpi (.long f) => f.enc ||| place 2 11#7
  | .divi (.short f) => f.enc ||| place 2 13#7 ||| place 0 0#2
  | .divi (.long f) => f.enc ||| place 2 13#7
  | .mului (.short f) => f.enc ||| place 2 14#7 ||| place 0 0#2
  | .mului (.long f) => f.enc ||| place 2 14#7
  | .cmpui (.short f) => f.enc ||| place 2 19#7 ||| place 0 0#2
  | .cmpui (.long f) => f.enc ||| place 2 19#7
  | .divui (.short f) => f.enc ||| place 2 21#7 ||| place 0 0#2
  | .divui (.long f) => f.enc ||| place 2 21#7
  | .add2ui (.short f) => f.enc ||| place 2 60#7 ||| place 0 0#2
  | .add2ui (.long f) => f.enc ||| place 2 60#7
  | .add4ui (.short f) => f.enc ||| place 2 61#7 ||| place 0 0#2
  | .add4ui (.long f) => f.enc ||| place 2 61#7
  | .add8ui (.short f) => f.enc ||| place 2 62#7 ||| place 0 0#2
  | .add8ui (.long f) => f.enc ||| place 2 62#7
  | .add16ui (.short f) => f.enc ||| place 2 63#7 ||| place 0 0#2
  | .add16ui (.long f) => f.enc ||| place 2 63#7
  | .auiip (.short f) => f.enc ||| place 2 58#7 ||| place 0 0#2
  | .auiip (.long f) => f.enc ||| place 2 58#7
  | .opcode58 payload => place 9 payload ||| place 2 58#7 ||| place 0 1#2
  | .seqi f => f.enc ||| place 2 22#7
  | .zseqi f => f.enc ||| place 2 94#7
  | .snei f => f.enc 23#7
  | .slti f => f.enc 24#7
  | .slei f => f.enc 25#7
  | .sgti f => f.enc 26#7
  | .sgei f => f.enc 27#7
  | .sltui f => f.enc 28#7
  | .sleui f => f.enc 29#7
  | .sgtui f => f.enc 30#7
  | .sgeui f => f.enc 31#7
  | .zsnei f => f.enc 95#7
  | .zslti f => f.enc 96#7
  | .zslei f => f.enc 97#7
  | .zsgti f => f.enc 98#7
  | .zsgei f => f.enc 99#7
  | .zsltui f => f.enc 100#7
  | .zsleui f => f.enc 101#7
  | .zsgtui f => f.enc 102#7
  | .zsgeui f => f.enc 103#7
  | .csrrd f => f.enc ||| place 45 0#3 ||| place 2 7#7 ||| place 0 1#2
  | .csrrw f => f.enc ||| place 45 1#3 ||| place 2 7#7 ||| place 0 1#2
  | .csrrs f => f.enc ||| place 45 2#3 ||| place 2 7#7 ||| place 0 1#2
  | .csrrc f => f.enc ||| place 45 3#3 ||| place 2 7#7 ||| place 0 1#2
  | .csrrwImm f => f.enc ||| place 45 5#3 ||| place 2 7#7 ||| place 0 1#2
  | .csrrsImm f => f.enc ||| place 45 6#3 ||| place 2 7#7 ||| place 0 1#2
  | .csrrcImm f => f.enc ||| place 45 7#3 ||| place 2 7#7 ||| place 0 1#2
  | .chk f => f.enc ||| place 15 1#1 ||| place 2 112#7 ||| place 0 1#2
  | .chku f => f.enc ||| place 15 0#1 ||| place 2 112#7 ||| place 0 1#2
  | .and f => f.enc ||| place 41 0#7 ||| place 4 26#5 ||| place 0 1#2
  | .or f => f.enc ||| place 41 1#7 ||| place 4 26#5 ||| place 0 1#2
  | .eor f => f.enc ||| place 41 2#7 ||| place 4 26#5 ||| place 0 1#2
  | .cmp f => f.enc ||| place 41 3#7 ||| place 4 26#5 ||| place 0 1#2
  | .add f => f.enc ||| place 41 4#7 ||| place 4 26#5 ||| place 0 1#2
  | .cmpu f => f.enc ||| place 41 6#7 ||| place 4 26#5 ||| place 0 1#2
  | .cpuid f => f.enc ||| place 41 7#7 ||| place 2 107#7 ||| place 0 1#2
  | .cmov f => f.enc ||| place 41 12#7 ||| place 4 26#5 ||| place 0 1#2
  | .abs f => f.enc ||| place 41 13#7 ||| place 4 26#5 ||| place 0 1#2
  | .maj f => f.enc ||| place 41 14#7 ||| place 4 26#5 ||| place 0 1#2
  | .mul f => f.enc ||| place 41 16#7 ||| place 4 26#5 ||| place 0 1#2
  | .div f => f.enc ||| place 41 17#7 ||| place 4 26#5 ||| place 0 1#2
  | .mulu f => f.enc ||| place 41 19#7 ||| place 4 26#5 ||| place 0 1#2
  | .divu f => f.enc ||| place 41 20#7 ||| place 4 26#5 ||| place 0 1#2
  | .mulsu f => f.enc ||| place 41 21#7 ||| place 4 26#5 ||| place 0 1#2
  | .rem f => f.enc ||| place 41 25#7 ||| place 4 26#5 ||| place 0 1#2
  | .remu f => f.enc ||| place 41 28#7 ||| place 4 26#5 ||| place 0 1#2
  | .min3 f => f.enc ||| place 41 18#7 ||| place 4 26#5 ||| place 0 1#2
  | .mid3 f => f.enc ||| place 41 18#7 ||| place 4 26#5 ||| place 0 1#2
  | .max3 f => f.enc ||| place 41 18#7 ||| place 4 26#5 ||| place 0 1#2
  | .minu3 f => f.enc ||| place 41 23#7 ||| place 4 26#5 ||| place 0 1#2
  | .midu3 f => f.enc ||| place 41 23#7 ||| place 4 26#5 ||| place 0 1#2
  | .maxu3 f => f.enc ||| place 41 23#7 ||| place 4 26#5 ||| place 0 1#2
  | .cntlz f => f.enc ||| place 41 26#7 ||| place 30 0#6 ||| place 4 26#5 ||| place 0 1#2
  | .cntlo f => f.enc ||| place 41 26#7 ||| place 30 1#6 ||| place 4 26#5 ||| place 0 1#2
  | .cntpop f => f.enc ||| place 41 26#7 ||| place 30 2#6 ||| place 4 26#5 ||| place 0 1#2
  | .sqrt f => f.enc ||| place 41 26#7 ||| place 30 4#6 ||| place 4 26#5 ||| place 0 1#2
  | .cnttz f => f.enc ||| place 41 26#7 ||| place 30 6#6 ||| place 4 26#5 ||| place 0 1#2
  | .revbit f => f.enc ||| place 41 26#7 ||| place 30 5#6 ||| place 4 26#5 ||| place 0 1#2
  | .revbitp f => f.enc ||| place 41 26#7 ||| place 30 5#6 ||| place 4 26#5 ||| place 0 1#2
  | .revn f => f.enc ||| place 41 26#7 ||| place 30 5#6 ||| place 4 26#5 ||| place 0 1#2
  | .revb f => f.enc ||| place 41 26#7 ||| place 30 5#6 ||| place 4 26#5 ||| place 0 1#2
  | .revw f => f.enc ||| place 41 26#7 ||| place 30 5#6 ||| place 4 26#5 ||| place 0 1#2
  | .revt f => f.enc ||| place 41 26#7 ||| place 30 5#6 ||| place 4 26#5 ||| place 0 1#2
  | .revo f => f.enc ||| place 41 26#7 ||| place 30 5#6 ||| place 4 26#5 ||| place 0 1#2
  | .ptrdif f => f.enc ||| place 41 32#7 ||| place 4 26#5 ||| place 0 1#2
  | .avgTrunc f => f.enc ||| place 41 32#7 ||| place 4 26#5 ||| place 0 1#2
  | .avgRound f => f.enc ||| place 41 32#7 ||| place 4 26#5 ||| place 0 1#2
  | .mux f => f.enc ||| place 41 33#7 ||| place 4 26#5 ||| place 0 1#2
  | .bmm f => f.enc ||| place 41 34#7 ||| place 2 107#7 ||| place 0 1#2
  | .bmap f => f.enc ||| place 41 35#7 ||| place 4 26#5 ||| place 0 1#2
  | .bytendx f => f.enc ||| place 41 37#7 ||| place 4 26#5 ||| place 0 1#2
  | .wydendx f => f.enc ||| place 41 38#7 ||| place 4 26#5 ||| place 0 1#2
  | .tetrandx f => f.enc ||| place 41 39#7 ||| place 4 26#5 ||| place 0 1#2
  | .cmoveq f => f.enc ||| place 41 96#7 ||| place 4 26#5 ||| place 0 1#2
  | .cmovne f => f.enc ||| place 41 97#7 ||| place 4 26#5 ||| place 0 1#2
  | .cmovlt f => f.enc ||| place 41 98#7 ||| place 4 26#5 ||| place 0 1#2
  | .cmovle f => f.enc ||| place 41 99#7 ||| place 4 26#5 ||| place 0 1#2
  | .seq f => f.enc ||| place 41 80#7 ||| place 4 26#5 ||| place 0 1#2
  | .sne f => f.enc ||| place 41 81#7 ||| place 4 26#5 ||| place 0 1#2
  | .slt f => f.enc ||| place 41 82#7 ||| place 4 26#5 ||| place 0 1#2
  | .sle f => f.enc ||| place 41 83#7 ||| place 4 26#5 ||| place 0 1#2
  | .sltu f => f.enc ||| place 41 84#7 ||| place 4 26#5 ||| place 0 1#2
  | .sleu f => f.enc ||| place 41 85#7 ||| place 4 26#5 ||| place 0 1#2
  | .sltuCode100 f => f.enc ||| place 41 100#7 ||| place 4 26#5 ||| place 0 1#2
  | .sleuCode101 f => f.enc ||| place 41 101#7 ||| place 4 26#5 ||| place 0 1#2
  | .zseq f => f.enc ||| place 41 112#7 ||| place 4 26#5 ||| place 0 1#2
  | .zsne f => f.enc ||| place 41 113#7 ||| place 4 26#5 ||| place 0 1#2
  | .zslt f => f.enc ||| place 41 114#7 ||| place 4 26#5 ||| place 0 1#2
  | .zsle f => f.enc ||| place 41 115#7 ||| place 4 26#5 ||| place 0 1#2
  | .zsltu f => f.enc ||| place 41 116#7 ||| place 4 26#5 ||| place 0 1#2
  | .zsleu f => f.enc ||| place 41 117#7 ||| place 4 26#5 ||| place 0 1#2
  | .zseqCode120 f => f.enc ||| place 41 120#7 ||| place 4 26#5 ||| place 0 1#2
  | .zsneCode121 f => f.enc ||| place 41 121#7 ||| place 4 26#5 ||| place 0 1#2
  | .zsltCode122 f => f.enc ||| place 41 122#7 ||| place 4 26#5 ||| place 0 1#2
  | .zsleCode123 f => f.enc ||| place 41 123#7 ||| place 4 26#5 ||| place 0 1#2
  | .zsltuCode124 f => f.enc ||| place 41 124#7 ||| place 4 26#5 ||| place 0 1#2
  | .zsleuCode125 f => f.enc ||| place 41 125#7 ||| place 4 26#5 ||| place 0 1#2
  | .sllp f => f.enc ||| place 44 0#4 ||| place 4 20#5 ||| place 0 1#2
  | .srlp f => f.enc ||| place 44 1#4 ||| place 4 20#5 ||| place 0 1#2
  | .srap f => f.enc ||| place 44 2#4 ||| place 4 20#5 ||| place 0 1#2
  | .sraprz f => f.enc ||| place 44 3#4 ||| place 4 20#5 ||| place 0 1#2
  | .srapru f => f.enc ||| place 44 4#4 ||| place 4 20#5 ||| place 0 1#2
  | .dep f => f.enc ||| place 44 5#4 ||| place 4 20#5 ||| place 0 1#2
  | .depxor f => f.enc ||| place 44 6#4 ||| place 4 20#5 ||| place 0 1#2
  | .sllpi f => f.enc ||| place 44 8#4 ||| place 4 20#5 ||| place 0 1#2
  | .srlpi f => f.enc ||| place 44 9#4 ||| place 4 20#5 ||| place 0 1#2
  | .srapi f => f.enc ||| place 44 10#4 ||| place 4 20#5 ||| place 0 1#2
  | .sraprzi f => f.enc ||| place 44 11#4 ||| place 4 20#5 ||| place 0 1#2
  | .sraprui f => f.enc ||| place 44 12#4 ||| place 4 20#5 ||| place 0 1#2
  | .depi f => f.enc ||| place 44 13#4 ||| place 4 20#5 ||| place 0 1#2
  | .depxori f => f.enc ||| place 44 14#4 ||| place 4 20#5 ||| place 0 1#2
  | .fma f => f.enc ||| place 41 1#7 ||| place 36 0#1 ||| place 0 1#2
  | .fms f => f.enc ||| place 41 1#7 ||| place 36 1#1 ||| place 0 1#2
  | .fadd f => f.enc ||| place 41 4#7 ||| place 29 0#1 ||| place 0 1#2
  | .fsub f => f.enc ||| place 41 4#7 ||| place 29 1#1 ||| place 0 1#2
  | .fsne f => f.enc ||| place 41 9#7 ||| place 0 1#2
  | .fslt f => f.enc ||| place 41 10#7 ||| place 0 1#2
  | .fcmp f => f.enc ||| place 41 13#7 ||| place 0 1#2
  | .fabs f => f.enc ||| place 41 32#7 ||| place 15 0#1 ||| place 0 1#2
  | .fnabs f => f.enc ||| place 41 32#7 ||| place 15 1#1 ||| place 0 1#2
  | .fsqrt f => f.enc ||| place 41 40#7 ||| place 0 1#2
  | .ftrunc f => f.enc ||| place 41 53#7 ||| place 0 1#2
  | .fcos f => f.enc ||| place 41 65#7 ||| place 0 1#2
  | .ldb f => f.enc ||| place 30 0#2 ||| place 2 64#7
  | .ldw f => f.enc ||| place 30 1#2 ||| place 2 64#7
  | .ldt f => f.enc ||| place 30 2#2 ||| place 2 64#7
  | .ldo f => f.enc ||| place 30 3#2 ||| place 2 64#7
  | .ldo24 f => f.enc ||| place 2 64#7 ||| place 0 0#2
  | .ldbu f => f.enc ||| place 30 0#2 ||| place 2 65#7
  | .ldwu f => f.enc ||| place 30 1#2 ||| place 2 65#7
  | .ldtu f => f.enc ||| place 30 2#2 ||| place 2 65#7
  | .fldh f => f.enc ||| place 30 1#2 ||| place 2 66#7
  | .flds f => f.enc ||| place 30 2#2 ||| place 2 66#7
  | .fldd f => f.enc ||| place 30 3#2 ||| place 2 66#7
  | .ldcapd f => f.enc ||| place 30 0#2 ||| place 2 69#7
  | .cache f => f.enc ||| place 30 3#2 ||| place 2 70#7
  | .stb f => f.enc ||| place 30 0#2 ||| place 2 72#7
  | .stw f => f.enc ||| place 30 1#2 ||| place 2 72#7
  | .stt f => f.enc ||| place 30 2#2 ||| place 2 72#7
  | .sto f => f.enc ||| place 30 3#2 ||| place 2 72#7
  | .sto24 f => f.enc ||| place 2 72#7 ||| place 0 0#2
  | .stib f => f.enc ||| place 30 0#2 ||| place 2 73#7
  | .stiw f => f.enc ||| place 30 1#2 ||| place 2 73#7
  | .stit f => f.enc ||| place 30 2#2 ||| place 2 73#7
  | .stio f => f.enc ||| place 30 3#2 ||| place 2 73#7
  | .fsth f => f.enc ||| place 30 1#2 ||| place 2 74#7
  | .fsts f => f.enc ||| place 30 2#2 ||| place 2 74#7
  | .fstd f => f.enc ||| place 30 3#2 ||| place 2 74#7
  | .stcapd f => f.enc ||| place 30 0#2 ||| place 2 77#7
  | .stptr f => f.enc ||| place 30 1#2 ||| place 2 78#7
  | .stptr24 f => f.enc ||| place 2 78#7 ||| place 0 0#2
  | .loada f => f.enc ||| place 2 88#7
  | .beq f => f.enc ||| place 9 0#4 ||| place 2 40#7 ||| place 0 1#2
  | .beqReg f => f.enc ||| place 9 0#4 ||| place 2 48#7 ||| place 0 1#2
  | .bne f => f.enc ||| place 9 1#4 ||| place 2 40#7 ||| place 0 1#2
  | .bneReg f => f.enc ||| place 9 1#4 ||| place 2 48#7 ||| place 0 1#2
  | .bltu f => f.enc ||| place 9 2#4 ||| place 2 40#7 ||| place 0 1#2
  | .bltuReg f => f.enc ||| place 9 2#4 ||| place 2 48#7 ||| place 0 1#2
  | .bleu f => f.enc ||| place 9 3#4 ||| place 2 40#7 ||| place 0 1#2
  | .bleuReg f => f.enc ||| place 9 3#4 ||| place 2 48#7 ||| place 0 1#2
  | .bgeu f => f.enc ||| place 9 4#4 ||| place 2 40#7 ||| place 0 1#2
  | .bgeuReg f => f.enc ||| place 9 4#4 ||| place 2 48#7 ||| place 0 1#2
  | .bgtu f => f.enc ||| place 9 5#4 ||| place 2 40#7 ||| place 0 1#2
  | .bgtuReg f => f.enc ||| place 9 5#4 ||| place 2 48#7 ||| place 0 1#2
  | .bbc f => f.enc ||| place 9 6#4 ||| place 2 40#7 ||| place 0 1#2
  | .bbcReg f => f.enc ||| place 9 6#4 ||| place 2 48#7 ||| place 0 1#2
  | .bbs f => f.enc ||| place 9 7#4 ||| place 2 40#7 ||| place 0 1#2
  | .bbsReg f => f.enc ||| place 9 7#4 ||| place 2 48#7 ||| place 0 1#2
  | .bbcImm f => f.enc ||| place 9 8#4 ||| place 2 40#7 ||| place 0 1#2
  | .bbcImmReg f => f.enc ||| place 9 8#4 ||| place 2 48#7 ||| place 0 1#2
  | .bbsImm f => f.enc ||| place 9 9#4 ||| place 2 40#7 ||| place 0 1#2
  | .bbsImmReg f => f.enc ||| place 9 9#4 ||| place 2 48#7 ||| place 0 1#2
  | .bnandb f => f.enc ||| place 9 10#4 ||| place 2 40#7 ||| place 0 1#2
  | .bnandbReg f => f.enc ||| place 9 10#4 ||| place 2 48#7 ||| place 0 1#2
  | .bandb f => f.enc ||| place 9 11#4 ||| place 2 40#7 ||| place 0 1#2
  | .bandbReg f => f.enc ||| place 9 11#4 ||| place 2 48#7 ||| place 0 1#2
  | .bnorb f => f.enc ||| place 9 12#4 ||| place 2 40#7 ||| place 0 1#2
  | .bnorbReg f => f.enc ||| place 9 12#4 ||| place 2 48#7 ||| place 0 1#2
  | .borb f => f.enc ||| place 9 13#4 ||| place 2 40#7 ||| place 0 1#2
  | .borbReg f => f.enc ||| place 9 13#4 ||| place 2 48#7 ||| place 0 1#2
  | .benor f => f.enc ||| place 9 0#4 ||| place 2 41#7 ||| place 0 1#2
  | .benorReg f => f.enc ||| place 9 0#4 ||| place 2 49#7 ||| place 0 1#2
  | .beor f => f.enc ||| place 9 1#4 ||| place 2 41#7 ||| place 0 1#2
  | .beorReg f => f.enc ||| place 9 1#4 ||| place 2 49#7 ||| place 0 1#2
  | .blt f => f.enc ||| place 9 2#4 ||| place 2 41#7 ||| place 0 1#2
  | .bltReg f => f.enc ||| place 9 2#4 ||| place 2 49#7 ||| place 0 1#2
  | .ble f => f.enc ||| place 9 3#4 ||| place 2 41#7 ||| place 0 1#2
  | .bleReg f => f.enc ||| place 9 3#4 ||| place 2 49#7 ||| place 0 1#2
  | .bge f => f.enc ||| place 9 4#4 ||| place 2 41#7 ||| place 0 1#2
  | .bgeReg f => f.enc ||| place 9 4#4 ||| place 2 49#7 ||| place 0 1#2
  | .bgt f => f.enc ||| place 9 5#4 ||| place 2 41#7 ||| place 0 1#2
  | .bgtReg f => f.enc ||| place 9 5#4 ||| place 2 49#7 ||| place 0 1#2
  | .bnand f => f.enc ||| place 9 10#4 ||| place 2 41#7 ||| place 0 1#2
  | .bnandReg f => f.enc ||| place 9 10#4 ||| place 2 49#7 ||| place 0 1#2
  | .band f => f.enc ||| place 9 11#4 ||| place 2 41#7 ||| place 0 1#2
  | .bandReg f => f.enc ||| place 9 11#4 ||| place 2 49#7 ||| place 0 1#2
  | .bnor f => f.enc ||| place 9 12#4 ||| place 2 41#7 ||| place 0 1#2
  | .bnorReg f => f.enc ||| place 9 12#4 ||| place 2 49#7 ||| place 0 1#2
  | .bor f => f.enc ||| place 9 13#4 ||| place 2 41#7 ||| place 0 1#2
  | .borReg f => f.enc ||| place 9 13#4 ||| place 2 49#7 ||| place 0 1#2
  | .fbcc f => f.enc ||| place 2 42#7 ||| place 0 1#2
  | .fbccReg f => f.enc ||| place 2 50#7 ||| place 0 1#2
  | .ibne f => f.enc ||| place 9 1#4 ||| place 2 46#7 ||| place 0 1#2
  | .ibneReg f => f.enc ||| place 9 1#4 ||| place 2 54#7 ||| place 0 1#2
  | .dbne f => f.enc ||| place 9 1#4 ||| place 2 47#7 ||| place 0 1#2
  | .dbneReg f => f.enc ||| place 9 1#4 ||| place 2 55#7 ||| place 0 1#2
  | .bra const => place 11 const ||| place 9 0#2 ||| place 2 32#7 ||| place 0 1#2
  | .bsr f => f.enc ||| place 2 32#7 ||| place 0 1#2
  | .jmpDirect const => place 11 const ||| place 9 0#2 ||| place 2 33#7 ||| place 0 1#2
  | .jsrDirect f => f.enc ||| place 2 33#7 ||| place 0 1#2
  | .jmpIndirect f => f.enc ||| place 9 0#6 ||| place 2 36#7
  | .jsrIndirect f => f.enc ||| place 2 36#7
  | .jmpScaled f => f.enc ||| place 9 0#6 ||| place 2 38#7
  | .jsrScaled f => f.enc ||| place 2 38#7
  | .ret (.short f) => f.enc ||| place 13 0#1 ||| place 2 35#7 ||| place 0 0#2
  | .ret (.long f) => f.enc ||| place 13 0#2 ||| place 2 35#7
  | .rte offs => place 9 offs ||| place 13 65#11 ||| place 2 35#7 ||| place 0 0#2
  | .rte2 offs => place 9 offs ||| place 13 129#11 ||| place 2 35#7 ||| place 0 0#2
  | .cAndPerm f => f.enc ||| place 41 32#7 ||| place 2 1#7 ||| place 0 1#2
  | .cAndPermi f => f.enc ||| place 41 48#7 ||| place 2 1#7 ||| place 0 1#2
  | .cBuildCap f => f.enc ||| place 41 33#7 ||| place 2 1#7 ||| place 0 1#2
  | .cClearTag f => f.enc ||| place 41 64#7 ||| place 2 1#7 ||| place 0 1#2
  | .cCmp f => f.enc ||| place 41 44#7 ||| place 2 1#7 ||| place 0 1#2
  | .atom (.short mask) => place 9 mask ||| place 2 122#7 ||| place 0 0#2
  | .atom (.long mask) => place 10 mask ||| place 9 0#1 ||| place 2 122#7 ||| place 0 1#2
  | .brk => 0x000000#96
  | .add24 => 0x000040#96
  | .csrOp4 => 0x80000000001D#96
  | .absR1 => 0x3400C00001A1#96
  | .not => 0x3401C00001A1#96
  | .nnatrig => 0x3402000001A1#96
  | .nnastat => 0x3402400001A1#96
  | .nnamfact => 0x3402800001A1#96
  | .mkbool => 0x3403000001A1#96
  | .rex => 0x3403400001A1#96
  | .sm3p0 => 0x3403800001A1#96
  | .sm3p1 => 0x3403C00001A1#96
  | .aes64ds => 0x3404800001A1#96
  | .aes64dsm => 0x3404C00001A1#96
  | .aes64es => 0x3405000001A1#96
  | .aes64esm => 0x3405400001A1#96
  | .aes64im => 0x3405800001A1#96
  | .sha256sig0 => 0x3406000001A1#96
  | .sha256sig1 => 0x3406400001A1#96
  | .sha256sum0 => 0x3406800001A1#96
  | .sha256sum1 => 0x3406C00001A1#96
  | .sha512sig0 => 0x3407000001A1#96
  | .sha512sig1 => 0x3407400001A1#96
  | .sha512sum0 => 0x3407800001A1#96
  | .sha512sum1 => 0x3407C00001A1#96
  | .nand => 0x1000000001A1#96
  | .nor => 0x1200000001A1#96
  | .enor => 0x1400000001A1#96
  | .cmovnz => 0x1600000001A1#96
  | .divsu => 0x2C00000001A1#96
  | .mulw => 0x3000000001A1#96
  | .muluw => 0x3600000001A1#96
  | .mulsuw => 0x3A00000001A1#96
  | .modsu => 0x3C00000001A1#96
  | .divmod => 0xAE00000001A1#96
  | .divmodu => 0xBE00000001A1#96
  | .dif => 0x4800000001A1#96
  | .nnamtwt => 0x5000000001A1#96
  | .nnamtin => 0x5200000001A1#96
  | .nnamtbias => 0x5400000001A1#96
  | .nnamtfb => 0x5600000001A1#96
  | .nnamtmc => 0x5800000001A1#96
  | .nnamtbc => 0x5A00000001A1#96
  | .v2bits => 0x6000000001A1#96
  | .bits2v => 0x6200000001A1#96
  | .vex => 0x6400000001A1#96
  | .veins => 0x6600000001A1#96
  | .vgndx => 0x6800000001A1#96
  | .vshlv => 0x6C00000001A1#96
  | .vshrv => 0x6E00000001A1#96
  | .vsetmask => 0x7400000001A1#96
  | .vshlvi => 0x7C00000001A1#96
  | .vshrvi => 0x7E00000001A1#96
  | .aes64k1i => 0x8000000001A1#96
  | .aes64ks2 => 0x8200000001A1#96
  | .sm4ed => 0x8400000001A1#96
  | .sm4ks => 0x8600000001A1#96
  | .clmul => 0x8C00000001A1#96
  | .mvvr => 0xFE00000001A1#96
  | .reservedFunc4x7 => 0x700000000141#96
  | .reservedFunc4x15 => 0xF00000000141#96
  | .fconst => 0x4800000000E5#96
  | .fnop => 0x0000000000E5#96
  | .fmin => 0x0400000000E5#96
  | .fmax => 0x0600000000E5#96
  | .fsubCode5 => 0x0A00000000E5#96
  | .fmul => 0x0C00000000E5#96
  | .fdiv => 0x0E00000000E5#96
  | .fseq => 0x1000000000E5#96
  | .fsle => 0x1600000000E5#96
  | .fnxt => 0x1C00000000E5#96
  | .frem => 0x1E00000000E5#96
  | .fsgnj => 0x2000000000E5#96
  | .fsgnjn => 0x2200000000E5#96
  | .fsgnjx => 0x2400000000E5#96
  | .fscaleb => 0x2800000000E5#96
  | .fneg => 0x4200000000E5#96
  | .ftoi => 0x4400000000E5#96
  | .itof => 0x4600000000E5#96
  | .fsign => 0x4C00000000E5#96
  | .fsig => 0x4E00000000E5#96
  | .fcvts2d => 0x5200000000E5#96
  | .fcvts2q => 0x5400000000E5#96
  | .fcvtd2q => 0x5600000000E5#96
  | .fcvth2s => 0x5800000000E5#96
  | .fcvth2d => 0x5A00000000E5#96
  | .isnan => 0x5C00000000E5#96
  | .finite => 0x5E00000000E5#96
  | .fcvtq2h => 0x6000000000E5#96
  | .fcvtq2s => 0x6200000000E5#96
  | .fcvtq2d => 0x6400000000E5#96
  | .fcvth2q => 0x6800000000E5#96
  | .frsqrt => 0x6C00000000E5#96
  | .fres => 0x6E00000000E5#96
  | .fcvtd2s => 0x7200000000E5#96
  | .fclass => 0x7C00000000E5#96
  | .fsin => 0x8000000000E5#96
  | .ftan => 0x8400000000E5#96
  | .fatan => 0x9400000000E5#96
  | .fsigmoid => 0xA000000000E5#96
  | .reservedLd65x3 => 0x0000C0000105#96
  | .dfldd => 0x00000000010D#96
  | .dfldq => 0x00004000010D#96
  | .pldw => 0x000040000111#96
  | .pldt => 0x000080000111#96
  | .pldo => 0x0000C0000111#96
  | .ldcapq => 0x000040000115#96
  | .dfstd => 0x0000C000012D#96
  | .pstw => 0x000040000131#96
  | .pstt => 0x000080000131#96
  | .psto => 0x0000C0000131#96
  | .stcapq => 0x000040000135#96
  | .stptrt => 0x000000000139#96
  | .reservedBcc40x14 => 0x000000001CA1#96
  | .reservedBcc48x14 => 0x000000001CC1#96
  | .irq40 => 0x000000001EA1#96
  | .irq48 => 0x000000001EC1#96
  | .irq41 => 0x000000001EA5#96
  | .irq49 => 0x000000001EC5#96
  | .reservedBcc41x6 => 0x000000000CA5#96
  | .reservedBcc49x6 => 0x000000000CC5#96
  | .reservedBcc41x7 => 0x000000000EA5#96
  | .reservedBcc49x7 => 0x000000000EC5#96
  | .reservedBcc41x8 => 0x0000000010A5#96
  | .reservedBcc49x8 => 0x0000000010C5#96
  | .reservedBcc41x9 => 0x0000000012A5#96
  | .reservedBcc49x9 => 0x0000000012C5#96
  | .reservedBcc41x14 => 0x000000001CA5#96
  | .reservedBcc49x14 => 0x000000001CC5#96
  | .dfbcc => 0x0000000000AD#96
  | .dfbccReg => 0x0000000000CD#96
  | .pbcc => 0x0000000000B1#96
  | .pbccReg => 0x0000000000D1#96
  | .cbcc => 0x0000000000B5#96
  | .cbccReg => 0x0000000000D5#96
  | .cjmp34 => 0x000000000088#96
  | .cjmp37 => 0x000000000094#96
  | .cjmp39 => 0x00000000009C#96
  | .nop => 0x0001FC#96
  | .cRetd => 0x100000000005#96
  | .cInvoke => 0x180000000005#96
  | .cCopyType => 0x440000000005#96
  | .cIncOffs => 0x460000000005#96
  | .cSeal => 0x480000000005#96
  | .cSetAddr => 0x4A0000000005#96
  | .cSetBounds => 0x4C0000000005#96
  | .cSetFlags => 0x4E0000000005#96
  | .cSetHigh => 0x500000000005#96
  | .cSetOffs => 0x520000000005#96
  | .cSpeicalRW => 0x540000000005#96
  | .cUnseal => 0x560000000005#96
  | .cGetFlags => 0x820000000005#96
  | .cGetHigh => 0x840000000005#96
  | .cGetLen => 0x860000000005#96
  | .cGetOffs => 0x880000000005#96
  | .cGetPerms => 0x8A0000000005#96
  | .cGetTag => 0x8C0000000005#96
  | .cGetTop => 0x8E0000000005#96
  | .cGetType => 0x900000000005#96
  | .cLoadTags => 0x920000000005#96
  | .cAlignMsk => 0x940000000005#96
  | .cRoundLen => 0x960000000005#96
  | .cSealEntry => 0x980000000005#96
  | .cGetBase => 0x9A0000000005#96
  | .qext => 0x0000000001E0#96
  | .pred => 0x0000000001E4#96
  | .pfx => 0x0000000001F0#96
  | .r3x128 => 0x000000000008#96
  | .flt128 => 0x000000000168#96
  | .dflt => 0x000000000044#96
  | .pst => 0x000000000048#96
  | .chksc => 0x00000000011C#96
  | .stctx => 0x00000000013D#96
  | .enter => 0x000000000150#96
  | .leave => 0x000000000154#96
  | .push => 0x000000000158#96
  | .pop => 0x00000000015C#96
  | .blend => 0x000000000164#96
  | .bfind => 0x0000000001B0#96
  | .bcmp => 0x0000000001B4#96
  | .block => 0x0000000001BC#96
  | .amo => 0x000000000170#96
  | .cas => 0x000000000174#96
  | .stopOp => 0x0000000001C4#96
  | .fence => 0x0000000001C8#96
  | .pfi => 0x0000000001CC#96
  | .reservedRoot12 => 0x000000000030#96
  | .reservedRoot20 => 0x000000000050#96
  | .reservedRoot56 => 0x0000000000E0#96
  | .reservedRoot91 => 0x00000000016C#96
  | .reservedRoot110 => 0x0000000001B8#96
  | .reservedRoot116 => 0x0000000001D0#96
  | .reservedRoot117 => 0x0000000001D4#96
  | .reservedRoot118 => 0x0000000001D8#96
  | .reservedRoot119 => 0x0000000001DC#96
  | .reservedRoot123 => 0x0000000001EC#96
  | .reservedRoot125 => 0x0000000001F4#96
  | .reservedRoot126 => 0x0000000001F8#96
  | .reservedRoot1648 => 0x000000000041#96
  | .reservedRoot1672 => 0x000000000000000042#96
  | .reservedRoot1696 => 0x000000000000000000000043#96

/-- The length in bytes of a word, from its two low bits (spec/30_encoding.md R221). -/
def wordLen (w : BitVec 96) : Nat := 3 * ((fld w 0 2).toNat + 1)

/-- The bytes of an instruction in memory order. -/
def encodeBytes (i : Instr) : List Byte := bytesOfWord (encode i) (wordLen (encode i))

end Sys2Proof
end

