-- ==== Sys2Proof/Machine/State.lean ====
section
/-! DEFINITION. The state of the machine as plain data, the reasons a step can stop, and the state after reset
(spec/10_state.md; INVENTORY.md lists every field with its rule). -/

namespace Sys2Proof.Machine

/-- A sparse table of `w`-bit entries by number: an absent number reads zero. The canonical form (`Sparse.wf`) has its
numbers strictly rising and no zero entry, so that equal tables are equal lists. -/
abbrev Sparse (w : Nat) := List (Nat × BitVec w)

/-- Memory by physical byte address (spec/20_memory.md R100). A byte nothing has written reads zero (log 7). -/
abbrev Memory := List Host.Cell

/-- A general register with its capability tag (spec/10_state.md R20, R28). -/
structure Reg where
  val : Word
  tag : Bool
deriving DecidableEq, Repr

/-- The control and status registers that are storage (spec/10_state.md R41 to R57). -/
structure Csrs where
  /-- x_CAUSE by mode (R41). -/
  cause : Vector (BitVec 16) 4
  /-- x_SCRATCH by mode (R42). -/
  scratch : Vector Word 4
  /-- U_REPBUF (R48). -/
  repbuf : BitVec 128
  /-- S_ASID (R44). -/
  asid : BitVec 16
  /-- S_KEYS (R45). -/
  keys : Vector (BitVec 24) 8
  /-- M_TICK (R50). -/
  tick : Word
  /-- M_BADADDR (R52). -/
  badAddr : Word
  /-- M_BAD_INSTR (R53). -/
  badInstr : Word
  /-- M_SEMA (R54). -/
  sema : Word
  /-- M_TVEC[0..4] (R55). -/
  tvec : Vector Word 5
  /-- M_IOS (R56). -/
  ios : Word
  /-- M_CFGS (R57). -/
  cfgs : Word
deriving DecidableEq, Repr

/-- The three exception stacks, slot 0 on top (spec/10_state.md R60 to R62). -/
structure ExcStacks where
  sr : Vector (BitVec 32) 8
  mc : Vector Word 8
  eip : Vector Word 8
deriving DecidableEq, Repr

/-- The hardware and master card tables (spec/21_memory_management.md R204). -/
structure Cards where
  /-- One bit for each 8 kB page. -/
  hct : Sparse 1
  /-- One bit for each 16 MB page. -/
  mct : Word
deriving DecidableEq, Repr

/-- A TLB entry (spec/21_memory_management.md R191) with what the model caches beside it: the page rights (R160), the region's
attributes as they were when the rights were fetched (R193; log 44), and where the entries it was read from stand in memory
(R163). -/
structure TlbEntry where
  valid : Bool
  count : BitVec 6
  asid : BitVec 16
  nru : Bool
  lvl : BitVec 3
  s : Bool
  rgn : BitVec 3
  m : Bool
  a : Bool
  avl : BitVec 3
  cache : BitVec 3
  u : Bool
  rwx : BitVec 3
  ppn : BitVec 57
  vpn : BitVec 51
  pmtValid : Bool
  pl : BitVec 8
  key : BitVec 24
  n : Bool
  urwx : BitVec 3
  srwx : BitVec 3
  hrwx : BitVec 3
  mrwx : BitVec 3
  /-- The four attribute groups of the region (R151). -/
  attr : BitVec 128
  /-- The physical address of the page table entry, where a walk read one. -/
  pte : Option Nat
  /-- The physical address of the page management table entry, where the rights were read from one. -/
  pmte : Option Nat
deriving DecidableEq, Repr

/-- The entries in memory that describe a page (spec/21_memory_management.md R163). -/
structure PageUse where
  pte : Option Nat
  pmte : Option Nat
deriving DecidableEq, Repr

/-- The page table walker's registers (spec/21_memory_management.md R195 to R197). -/
structure Ptw where
  pfAddr : Word
  pfAsid : BitVec 16
  base : Word
  attr : Word
deriving DecidableEq, Repr

/-- A set of the region table (spec/21_memory_management.md R151). -/
structure Region where
  pmt : BitVec 128
  cta : BitVec 128
  attr : BitVec 128
deriving DecidableEq, Repr

/-- An interrupt message (spec/60_exceptions.md R940). DESIGN CHOICE: the rule gives every field a width but the source identity, which is
taken as 13 bits (log 12). -/
structure Msg where
  vector : BitVec 11
  mode : BitVec 2
  controller : BitVec 6
  priority : BitVec 6
  swstk : BitVec 3
  source : BitVec 13
  data : BitVec 8
deriving DecidableEq, Repr

/-- The interrupt controller (spec/60_exceptions.md R942 to R947). -/
structure Qic where
  uvtb : Word
  svtb : Word
  hvtb : Word
  mvtb : Word
  vtl : Word
  /-- STAT bit 0. -/
  full : Bool
  /-- STAT bit 1. -/
  stuck : Bool
  ge : Word
  thres : Word
  afn : Sparse 64
  enable : Sparse 64
  pending : Sparse 64
  /-- The bytes of the vector table (R943). -/
  vt : Sparse 8
  /-- The messages held, oldest first (R942). -/
  held : List Msg
deriving DecidableEq, Repr

/-- One interval timer: the live registers and the shadows that SYNC copies (spec/60_exceptions.md R960 to R963). -/
structure Timer where
  cc : Word
  mc : Word
  ot : Word
  ctrl : BitVec 5
  mcNew : Word
  otNew : Word
  ctrlNew : BitVec 5
deriving DecidableEq, Repr

/-- An interval timer component (spec/60_exceptions.md R960). -/
structure Qit where
  timers : Vector Timer 32
  ustat : Word
  ie : Word
  tmp : Word
  ostat : Word
  gate : Word
deriving DecidableEq, Repr

/-- The devices with a configuration block (spec/20_memory.md R124). -/
inductive Block where | qic | qit | regions | walker
deriving DecidableEq, Repr

/-- The configuration blocks, 64 registers of 32 bits each: of the QIC and the QIT (spec/60_exceptions.md R950, R966), and of the
region table and the page table walker, taken to have the same layout (log 18). DESIGN CHOICE: the second timer component, of which R966
gives no block, has none (log 18). -/
structure CfgBlocks where
  qic : Vector (BitVec 32) 64
  qit : Vector (BitVec 32) 64
  regions : Vector (BitVec 32) 64
  walker : Vector (BitVec 32) 64
deriving DecidableEq, Repr

/-- A turn on the agenda: a move of another agent, or the core's next instruction (log 16). -/
inductive Event where
  /-- The core executes an instruction. -/
  | run
  /-- A message reaches the QIC (spec/60_exceptions.md R940). -/
  | message (m : Msg)
  /-- The QIC presents the held message `k` to this core (R942, R951). -/
  | present (k : Nat)
  /-- Another core takes the held message `k` (R945). -/
  | takenElsewhere (k : Nat)
  /-- The QIC finds a queue full (R944 STAT bit 0). -/
  | queueFull
  /-- The QIC finds a stuck interrupt (R944 STAT bit 1). -/
  | queueStuck
  /-- The non-maskable interrupt input (R922). -/
  | nmi
  /-- The abort input (R923). -/
  | abort
  /-- A count signal of timer `timer` of component `unit`, with the external gate's level (R962). -/
  | tick (unit : Bool) (timer : Nat) (extGate : Bool)
  /-- Component `unit` posts its interrupt message (R964). -/
  | timerPost (unit : Bool)
  /-- The TLB drops its entry number `k` (spec/21_memory_management.md R190). -/
  | evict (k : Nat)
  /-- The TLB updates what memory holds of the page of its entry number `k`: the access count, the bit A (R163). -/
  | pageUsed (k : Nat)
  /-- The bits M of page number `k` of those stored to are set in memory (R162, R163). -/
  | pageWritten (k : Nat)
  /-- Another bus master stores `n` bytes at a physical address, in memory or in a device that the cores share (spec/20_memory.md
  R113, R145 (c); spec/60_exceptions.md R938). -/
  | busStore (pa n : Nat) (v : Word)
  /-- Another core stores `n` bytes in a configuration block (spec/60_exceptions.md R938). -/
  | configStore (b : Block) (off n : Nat) (v : Word)
  /-- Responses for a physical address carry `Err` from now on, or no longer (spec/20_memory.md R137). -/
  | busErr (pa : Nat) (err : Bool)
  /-- Another core writes the shared M_SEMA (spec/10_state.md R54). -/
  | sema (v : Word)
deriving DecidableEq, Repr

/-- An immediate that follows an instruction, root opcode 124 (spec/49_capability_system_modifiers.md R852). -/
structure Pfx where
  abc : BitVec 2
  /-- The constant's bits 63..5, sign-extended from the form's own width (R853). -/
  imm : BitVec 59
  bytes : Nat
deriving DecidableEq, Repr

/-- `OP58_48` (spec/46_floating_point.md R553). -/
inductive Op58 where | refuse | auiip | flt32
deriving DecidableEq, Repr
/-- `OP16_SHORT` (spec/40_arithmetic.md R302). -/
inductive Op16 where | refuse | add | and
deriving DecidableEq, Repr
/-- `FP_OPCODES` (spec/46_floating_point.md R552). -/
inductive FpOpcodes where | map | description
deriving DecidableEq, Repr
/-- `FBCC_OPCODE` (spec/48_branch_flow.md R733). -/
inductive FbccOpcode where | root42 | refuse
deriving DecidableEq, Repr
/-- `SRAPR_CODES` (spec/45_shift_bitfield.md R502). -/
inductive SraprCodes where | description | map
deriving DecidableEq, Repr
/-- `MID3_RULE` (spec/42_data_movement.md R385). -/
inductive Mid3Rule where | median | printed | refuse
deriving DecidableEq, Repr
/-- `SET_BY_ANALOGY` (spec/44_comparison.md R455). -/
inductive SetByAnalogy where | refuse | pattern
deriving DecidableEq, Repr
/-- `AUIIP_EXT` (spec/40_arithmetic.md R309). -/
inductive AuiipExt where | zero | sign | refuse
deriving DecidableEq, Repr
/-- `NANBOX_SIGN` (spec/46_floating_point.md R555). -/
inductive NanboxSign where | ones | sign | unspec
deriving DecidableEq, Repr
/-- `BR_PRC` (spec/48_branch_flow.md R704). -/
inductive BrPrc where | refuse | narrow
deriving DecidableEq, Repr
/-- `CAP_MODEL` (spec/49_capability_system_modifiers.md R781). -/
inductive CapModel where | refuse | external
deriving DecidableEq, Repr
/-- `PFX_MODEL` (spec/49_capability_system_modifiers.md R852, R853). -/
inductive PfxModel where | refuse | text
deriving DecidableEq, Repr
/-- `VECTOR_RULE` (spec/60_exceptions.md R902). -/
inductive VectorRule where | alternate | direct
deriving DecidableEq, Repr
/-- `IRQ_DISPATCH` (spec/60_exceptions.md R943). -/
inductive IrqDispatch where | tvec | qicAddress
deriving DecidableEq, Repr
/-- `DEBUG_TRAPS` (spec/60_exceptions.md R936). -/
inductive DebugTraps where | refuse | ignore
deriving DecidableEq, Repr
/-- `MISALIGNED_DATA` (spec/20_memory.md R109). -/
inductive Misaligned where | bytewise | refuse | fault
deriving DecidableEq, Repr

/-- The place of a configuration block: `CFG_BUS`, `CFG_DEVICE`, `CFG_FUNC` (spec/20_memory.md R122). -/
structure CfgAddr where
  bus : BitVec 8
  device : BitVec 5
  func : BitVec 3
deriving DecidableEq, Repr

/-- The named parameters of spec/93_implementation_defined.md section 2 and spec/92_eei_decisions.md section 2, given for a
whole run: no step changes them. Log 20 names the value each has in `State.reset`. -/
structure Params where
  op16 : Op16
  op58 : Op58
  fpOpcodes : FpOpcodes
  fbccOpcode : FbccOpcode
  sraprCodes : SraprCodes
  /-- `BSR_LAYOUT`: the instruction bits that hold Lk2 and then Const37, each from its lowest bit up. -/
  bsrLayout : List Nat
  mid3 : Mid3Rule
  setByAnalogy : SetByAnalogy
  auiipExt : AuiipExt
  nanboxSign : NanboxSign
  /-- `FCR_RM`. -/
  fcrRm : BitVec 3
  brPrc : BrPrc
  capModel : CapModel
  pfxModel : PfxModel
  /-- `ATOM_LEVEL_MAP`: the highest interrupt level each listed level masks. -/
  atomLevels : List (BitVec 3 × BitVec 6)
  vectorRule : VectorRule
  irqDispatch : IrqDispatch
  debugTraps : DebugTraps
  misaligned : Misaligned
  coreno : Word
  physAddrBits : Nat
  /-- `RAM_MAP`: base and size of each range of physical addresses that memory answers. -/
  ramMap : List (Nat × Nat)
  qitNtimer : Nat
  qitBits : Nat
  qitGlobalIe : Bool
  qitVector : BitVec 11
  qitPriority : BitVec 6
  qitMode : BitVec 2
  /-- The base of the second timer component (spec/60_exceptions.md R960). -/
  qit2Base : Nat
  /-- The QIC's configuration constants (spec/60_exceptions.md R950). -/
  qicCfg : CfgAddr
  /-- The QIT's (R966). -/
  qitCfg : CfgAddr
  /-- The rows of the CPUID table that the platform gives, beside row 0 (`CPUID_FEATURES`). -/
  cpuid : List (Word × Word)
deriving DecidableEq, Repr

/-- The state of the machine. -/
structure State where
  /-- x[0..63] (spec/10_state.md R20); `x[0]` is read as zero whatever stands here. -/
  regs : Vector Reg 64
  /-- The instruction pointer (R30). -/
  ip : Word
  /-- The status register (R36). -/
  sr : BitVec 32
  csr : Csrs
  exc : ExcStacks
  /-- The levels of the ATOM window still to come (spec/49_capability_system_modifiers.md R844). -/
  atom : List (BitVec 3)
  mem : Memory
  /-- The capability tag of each 8-byte granule of memory (spec/20_memory.md R108). -/
  tags : Sparse 1
  /-- The physical bytes stored to since the last instruction-cache invalidate (spec/20_memory.md R142). -/
  stale : Sparse 1
  /-- The physical addresses whose bus response carries `Err` (spec/20_memory.md R137). -/
  errs : Sparse 1
  /-- The pages stored to whose bits M hardware has still to set (spec/21_memory_management.md R163). -/
  dirty : List PageUse
  cards : Cards
  tlb : List TlbEntry
  /-- The global count an entry's Count is compared with (spec/21_memory_management.md R191). -/
  tlbCount : BitVec 6
  ptw : Ptw
  rgn : Vector Region 8
  qic : Qic
  qit1 : Qit
  qit2 : Qit
  cfg : CfgBlocks
  /-- The model's own: the turns of the core and of the other agents still to come (log 16). -/
  agenda : List Event
  /-- The model's own: the named parameters (log 20). -/
  par : Params
  /-- The model's own: the instruction being executed, for M_BAD_INSTR (R53) and for the two rows whose constructors carry no operands
  (log 34). -/
  ir : BitVec 96
  /-- The model's own: the immediate that follows it under `PFX_MODEL = text` (log 28). -/
  pfx : Option Pfx
  /-- The model's own: the number of the next draw of free values (log 15). -/
  draws : Nat
deriving DecidableEq, Repr

/-- A machine fault. There is none: an exception is a next state (spec/60_exceptions.md R910), and what the spec gives no
effect is refused (spec/00_scope.md R17). -/
inductive Fault where
deriving DecidableEq, Repr

/-- Why a step is refused. Every one of them is safe: the model stops where the hardware may go on. -/
inductive Refusal where
  /-- An instruction that has no meaning yet, by its mnemonic; raised by `exec` only. -/
  | notModelled (mnemonic : String)
  /-- A name in an opcode map and nothing more (spec/49_capability_system_modifiers.md R860). -/
  | mapOnly
  /-- A 128-bit operation (spec/92_eei_decisions.md D29, D53). -/
  | wide128
  /-- A word that two places of the source give to two instructions, under the parameter value `refuse` (spec/90_conflicts.md C26,
  C28, C40). -/
  | contestedOpcode
  /-- Capability instructions under `CAP_MODEL = refuse` (spec/49_capability_system_modifiers.md R781). -/
  | capability
  /-- The capability jumps (spec/48_branch_flow.md R752). -/
  | capabilityJump
  /-- The capability branches (spec/48_branch_flow.md R735). -/
  | capabilityBranch
  /-- QEXT (spec/49_capability_system_modifiers.md R848). -/
  | qext
  /-- PRED (spec/49_capability_system_modifiers.md R846). -/
  | pred
  /-- A following immediate under `PFX_MODEL = refuse`, or one reached as an instruction (R852). -/
  | pfx
  /-- A sign-control bit where the spec names no class (spec/93_implementation_defined.md U9). -/
  | signControl
  /-- A drawn field without a stated use, not zero (spec/93_implementation_defined.md U10). -/
  | drawnField
  /-- ADDGC (spec/40_arithmetic.md R303). -/
  | addgc
  /-- The NDX group with Bi = 1 (spec/40_arithmetic.md R310). -/
  | ndxImmediate
  /-- MULU with Op4 = 9 (spec/41_multiply_divide.md R360). -/
  | muluImmediate
  /-- BMAP's named forms and precisions (spec/42_data_movement.md R380). -/
  | bmapForm
  /-- MID3 where the two rules differ under `MID3_RULE = refuse` (spec/42_data_movement.md R385). -/
  | mid3
  /-- DEP or DEPXOR with Ra = Rt (spec/45_shift_bitfield.md R516). -/
  | depSameRegister
  /-- Rounding mode 5 or 6 (spec/46_floating_point.md R558). -/
  | roundingMode
  /-- FCOS whose Prc3 names another precision (spec/46_floating_point.md R567). -/
  | fcosPrecision
  /-- AUIIP's top immediate bit under `AUIIP_EXT = refuse` (spec/40_arithmetic.md R309). -/
  | auiipExtension
  /-- The set family under `SET_BY_ANALOGY = refuse` (spec/44_comparison.md R455). -/
  | setByAnalogy
  /-- The Tgt field of a register-form branch, not zero (spec/48_branch_flow.md R703). -/
  | branchTarget
  /-- A branch precision under `BR_PRC = refuse`, or a float branch of no precision (spec/48_branch_flow.md R704). -/
  | branchPrecision
  /-- Branch condition 15 (spec/48_branch_flow.md R732). -/
  | branchCondition15
  /-- IBcc or DBcc with a condition other than NE (spec/48_branch_flow.md R739, R741). -/
  | countingCondition
  /-- The decimal and posit branches (spec/48_branch_flow.md R734). -/
  | decimalPositBranch
  /-- A memory indirect jump with Ar = 0 and Sc3 = 4 (spec/48_branch_flow.md R749). -/
  | indirectSc4
  /-- RTE below machine mode (spec/48_branch_flow.md R764). -/
  | rteMode
  /-- The 24-bit store immediate (spec/47_load_store.md R655). -/
  | sti24
  /-- An instruction or a walk with `PT_ATTR.Type` = 0 (spec/21_memory_management.md R175). -/
  | hashedPageTable
  /-- A write of PT_ATTR with AL other than 2 or S = 1 (spec/21_memory_management.md R197). -/
  | ptAttr
  /-- A shortcut pointer above the first three levels (spec/21_memory_management.md R173). -/
  | shortcutLevel
  /-- A region granularity failure (spec/21_memory_management.md R153). -/
  | granularity
  /-- A misaligned access under `MISALIGNED_DATA = refuse` (spec/20_memory.md R109). -/
  | misalignedData
  /-- A misaligned access to a device (spec/20_memory.md R109). -/
  | misalignedDevice
  /-- A QIC or QIT access that is not of 64 bits (spec/60_exceptions.md R944, R960). -/
  | narrowDevice
  /-- A page table or page management table that lies in a device: the walker reads memory (spec/21_memory_management.md R172). -/
  | walkDevice
  /-- A fetch of a byte stored to since the last instruction-cache invalidate (spec/20_memory.md R142). -/
  | staleFetch
  /-- Executing with `sr.ssm` or `sr.te` set under `DEBUG_TRAPS = refuse` (spec/60_exceptions.md R936). -/
  | debugTrace
  /-- A QIC vector that holds an instruction under `IRQ_DISPATCH = qic_address` (spec/60_exceptions.md R943). -/
  | qicInstruction
deriving DecidableEq, Repr

/-- A register of value zero without a tag. -/
def Reg.zero : Reg := ⟨0#64, false⟩

/-- A timer with every register zero. -/
def Timer.zero : Timer := ⟨0#64, 0#64, 0#64, 0#5, 0#64, 0#64, 0#5⟩

/-- A timer component with every register zero (log 13). -/
def Qit.zero : Qit := ⟨Vector.replicate 32 Timer.zero, 0#64, 0#64, 0#64, 0#64, 0#64⟩

/-- The control registers after reset: M_CAUSE.Cause = 12, M_TVEC[3] and M_CFGS as the spec gives them (spec/10_state.md R70,
spec/70_reset_and_hazards.md R1001); the rest log 2 to log 5. -/
def Csrs.reset : Csrs where
  cause := #v[0#16, 0#16, 0#16, 12#16]
  scratch := Vector.replicate 4 0#64
  repbuf := 0#128
  asid := 0#16
  keys := Vector.replicate 8 0#24
  tick := 0#64
  badAddr := 0#64
  badInstr := 0#64
  sema := 0#64
  tvec := #v[0#64, 0#64, 0#64, 0xFFFFFFFFFFFFFC00#64, 0#64]
  ios := 0xFFFFFFFFFFFD0000#64
  cfgs := 0x0000FFFFFFFFD000#64

/-- A region set after reset: all rights in every mode (`RGN_RESET`, log 10). -/
def Region.reset : Region := ⟨0#128, 0#128, 0x00000007000000070000000700000007#128⟩

/-- The TLB preload: the page of the reset vector table, mapped to itself with every right (spec/21_memory_management.md
R194; log 9). DESIGN CHOICE: R194 does not say under which ASID it stands; it is tagged with ASID 0 and has count 0, so a write of
another ASID to S_ASID loses it. It was read from no table, so no bits M or A are set in memory for its page (R163; log 36). -/
def TlbEntry.preload : TlbEntry where
  valid := true
  count := 0#6
  asid := 0#16
  nru := false
  lvl := 1#3
  s := false
  rgn := 0#3
  m := false
  a := false
  avl := 0#3
  cache := 0#3
  u := true
  rwx := 7#3
  ppn := 0x7FFFFFFFFFFFF#57
  vpn := 0x7FFFFFFFFFFFF#51
  pmtValid := true
  pl := 0#8
  key := 0#24
  n := false
  urwx := 7#3
  srwx := 7#3
  hrwx := 7#3
  mrwx := 7#3
  attr := Region.reset.attr
  pte := none
  pmte := none

/-- The interrupt controller after reset (spec/60_exceptions.md R950; log 12). -/
def Qic.reset : Qic := ⟨0#64, 0#64, 0#64, 0#64, 0#64, false, false, 0#64, 0#64, [], [], [], [], []⟩

/-- The configuration blocks after reset: REG_BAR0 and REG_BAR1 at the devices' default addresses (spec/60_exceptions.md R950, R966;
spec/20_memory.md R124; log 14, log 18). DESIGN CHOICE: every other register of the four blocks is 0 (log 14). -/
def CfgBlocks.reset : CfgBlocks where
  qic := ((Vector.replicate 64 0#32).set 4 0xFEE20001#32).set 5 0xFECC0001#32
  qit := (Vector.replicate 64 0#32).set 4 0xFEE40001#32
  regions := (Vector.replicate 64 0#32).set 4 0xFEEF0001#32
  walker := (Vector.replicate 64 0#32).set 4 0xFFF40001#32

/-- The layout of spec/92_eei_decisions.md D46: Lk2 in bits 10..9, Const37 in bits 47..11. -/
def bsrDefault : List Nat := List.range' 9 39

/-- The rows of the CPUID table with a printed value (spec/40_arithmetic.md R316, spec/92_eei_decisions.md D33, spec/90_conflicts.md
C5; log 25). -/
def cpuidPrinted : List (Word × Word) :=
  [(2#64, 0x6E6F7274696E6946#64), (4#64, 0x0053537469423436#64), (6#64, 0x000000736C707551#64), (8#64, 0x000000000000324D#64),
   (9#64, 0x0000000034333231#64), (11#64, 0x0001000000008000#64)]

/-- The parameters of the run from reset (log 20). -/
def Params.reset : Params where
  op16 := .refuse
  op58 := .refuse
  fpOpcodes := .map
  fbccOpcode := .root42
  sraprCodes := .description
  bsrLayout := bsrDefault
  mid3 := .median
  setByAnalogy := .pattern
  auiipExt := .zero
  nanboxSign := .unspec
  fcrRm := 0#3
  brPrc := .narrow
  capModel := .external
  pfxModel := .refuse
  atomLevels := []
  vectorRule := .alternate
  irqDispatch := .tvec
  debugTraps := .ignore
  misaligned := .bytewise
  coreno := 1#64
  physAddrBits := 64
  ramMap := [(0, 2 ^ 64)]
  qitNtimer := 8
  qitBits := 48
  qitGlobalIe := true
  qitVector := 29#11
  qitPriority := 1#6
  qitMode := 3#2
  qit2Base := 0xFFFFFFFFFEE50000
  qicCfg := ⟨0#8, 6#5, 0#3⟩
  qitCfg := ⟨0#8, 4#5, 0#3⟩
  cpuid := cpuidPrinted

/-- The machine right after reset (spec/10_state.md R70, spec/70_reset_and_hazards.md R1001, R1002). -/
def State.reset : State where
  regs := Vector.replicate 64 Reg.zero
  ip := 0xFFFFFFFFFFFFFC60#64
  sr := 0x000067E0#32
  csr := Csrs.reset
  exc := ⟨Vector.replicate 8 0#32, Vector.replicate 8 0#64, Vector.replicate 8 0#64⟩
  atom := []
  mem := []
  tags := []
  stale := []
  errs := []
  dirty := []
  cards := ⟨[], 0#64⟩
  tlb := [TlbEntry.preload]
  tlbCount := 0#6
  ptw := ⟨0#64, 0#16, 0xFFFFFFFFFFF80000#64, 0x1FFF081#64⟩
  rgn := Vector.replicate 8 Region.reset
  qic := Qic.reset
  qit1 := Qit.zero
  qit2 := Qit.zero
  cfg := CfgBlocks.reset
  agenda := []
  par := Params.reset
  ir := 0#96
  pfx := none
  draws := 0

end Sys2Proof.Machine
end

