-- ==== Sys2Proof/Machine/Operands.lean ====
section
/-! DEFINITION. What an operand is once its register is read: sign control, lanes, the fused second operation, immediates
and displacements (spec/00_scope.md R13, R14; spec/30_encoding.md section 3). -/

namespace Sys2Proof.Machine

/-- The lane width of a precision (spec/30_encoding.md R224). -/
def precWidth : Prec → Nat
  | .byte => 8 | .wyde => 16 | .tetra => 32 | .octa => 64

/-- Sign control of the arithmetic class: negate (spec/30_encoding.md R229). -/
def neg {w : Nat} (n : Bool) (v : BitVec w) : BitVec w := if n then -v else v

/-- Sign control of the logical class: complement (R229). -/
def com {w : Nat} (n : Bool) (v : BitVec w) : BitVec w := if n then ~~~v else v

/-- A function of four operands applied to every lane of a precision by itself (spec/00_scope.md R14,
spec/30_encoding.md R231). -/
def mapLanes (p : Prec) (f : (w : Nat) → BitVec w → BitVec w → BitVec w → BitVec w → BitVec w)
    (a b c u : Word) : Word :=
  match p with
  | .octa => f 64 a b c u
  | .tetra =>
    let g (k : Nat) : BitVec 32 := f 32 (fld a k 32) (fld b k 32) (fld c k 32) (fld u k 32)
    g 32 ++ g 0
  | .wyde =>
    let g (k : Nat) : BitVec 16 := f 16 (fld a k 16) (fld b k 16) (fld c k 16) (fld u k 16)
    g 48 ++ g 32 ++ g 16 ++ g 0
  | .byte =>
    let g (k : Nat) : BitVec 8 := f 8 (fld a k 8) (fld b k 8) (fld c k 8) (fld u k 8)
    g 56 ++ g 48 ++ g 40 ++ g 32 ++ g 24 ++ g 16 ++ g 8 ++ g 0

/-- Whether a test holds in some lane (spec/30_encoding.md R231, a condition raised in any lane). -/
def anyLane (p : Prec) (f : (w : Nat) → BitVec w → Bool) (a : Word) : Bool :=
  match p with
  | .octa => f 64 a
  | .tetra => f 32 (fld a 0 32) || f 32 (fld a 32 32)
  | .wyde => f 16 (fld a 0 16) || f 16 (fld a 16 16) || f 16 (fld a 32 16) || f 16 (fld a 48 16)
  | .byte => f 8 (fld a 0 8) || f 8 (fld a 8 8) || f 8 (fld a 16 8) || f 8 (fld a 24 8) ||
      f 8 (fld a 32 8) || f 8 (fld a 40 8) || f 8 (fld a 48 8) || f 8 (fld a 56 8)

/-- The fused second operation with the lane of Rc, for Op4 0 to 3 (spec/30_encoding.md R230): Nc complements under the
bitwise operations and negates under the addition. -/
def fuse {w : Nat} (op4 : BitVec 4) (nc : Bool) (p c : BitVec w) : BitVec w :=
  match op4.toNat with
  | 0 => p &&& com nc c
  | 1 => p ||| com nc c
  | 2 => p ^^^ com nc c
  | _ => p + neg nc c

/-- Op4 names a fused operation (R230). -/
def fuseDefined (op4 : BitVec 4) : Bool := op4.toNat < 4

/-! ## Immediates (spec/30_encoding.md R225, R236) -/

/-- The bytes of an RI instruction. -/
def immBytes : Imm → Nat
  | .i23 _ => 6 | .i47 _ => 9 | .i71 _ => 12

/-- The immediate sign-extended to 64 bits; of 71 bits the low 64 are kept. -/
def immSext : Imm → Word
  | .i23 v => v.signExtend 64 | .i47 v => v.signExtend 64 | .i71 v => v.setWidth 64

/-- The immediate zero-extended to 64 bits. -/
def immZext : Imm → Word
  | .i23 v => v.setWidth 64 | .i47 v => v.setWidth 64 | .i71 v => v.setWidth 64

/-- The immediate one-extended to 64 bits (spec/43_logical.md R422). -/
def immOnes : Imm → Word
  | .i23 v => ~~~((~~~v).setWidth 64) | .i47 v => ~~~((~~~v).setWidth 64) | .i71 v => v.setWidth 64

/-- The top bit of the immediate field, where its extension matters (spec/40_arithmetic.md R309). -/
def immTop : Imm → Bool
  | .i23 v => v.msb | .i47 v => v.msb | .i71 _ => false

/-- The bytes of a scaled indexed instruction (spec/47_load_store.md R630). -/
def dispBytes : Disp → Nat
  | .d16 _ => 6 | .d40 _ => 9 | .d64 _ => 12

/-- The displacement sign-extended (spec/47_load_store.md R631). -/
def dispSext : Disp → Word
  | .d16 v => v.signExtend 64 | .d40 v => v.signExtend 64 | .d64 v => v

/-- The limit of a memory indirect jump, zero-extended (spec/48_branch_flow.md R749). -/
def dispZext : Disp → Word
  | .d16 v => v.setWidth 64 | .d40 v => v.setWidth 64 | .d64 v => v

/-! ## Addresses -/

/-- The scaled indexed address of an instruction whose registers read `a` and `b` (spec/47_load_store.md R631). -/
def indexedAddr (a b : Word) (sc : BitVec 3) (d : Word) : Word := a + b <<< sc.toNat + d

/-- The address of a 24-bit load or store: the displacement counts octas (R631). -/
def shortAddr (a : Word) (disp : BitVec 5) : Word := a + disp.signExtend 64 <<< 3

/-- The target of a conditional branch in the displacement form; `ab` selects the absolute form (spec/48_branch_flow.md
R703). -/
def branchTarget (ip : Word) (ab : Bool) (tgt : BitVec 21) : Word :=
  if ab then 3#64 * tgt.setWidth 64 else ip + 3#64 * tgt.signExtend 64

/-- A low field of `bits` bits of a value sign-extended to 64, as a narrow load extends it (spec/47_load_store.md R636 to
R641). -/
def sextLow (n : Nat) (v : Word) : Word := (v.setWidth (8 * n)).signExtend 64

/-- A low field of `n` bytes, zero-extended. -/
def zextLow (n : Nat) (v : Word) : Word := (v.setWidth (8 * n)).setWidth 64

end Sys2Proof.Machine
end

