-- ==== Sys2Proof/Machine/Ops.lean ====
section
/-! DEFINITION. The named operations every meaning is built from: sparse tables, the outcome of a part of a step, registers,
taking an exception and returning from one. -/

namespace Sys2Proof.Machine

/-! ## Sparse tables and memory (State.lean, `Sparse`) -/

/-- The entry of a number; an absent number reads zero. -/
def Sparse.get {w : Nat} : Sparse w → Nat → BitVec w
  | [], _ => 0
  | (k, v) :: rest, i => if i == k then v else Sparse.get rest i

/-- Puts an entry in front unless it is zero. -/
def Sparse.put {w : Nat} (i : Nat) (v : BitVec w) (m : Sparse w) : Sparse w := if v == 0 then m else (i, v) :: m

/-- Writes the entry of a number, keeping the canonical form. -/
def Sparse.set {w : Nat} : Sparse w → Nat → BitVec w → Sparse w
  | [], i, v => Sparse.put i v []
  | (k, u) :: rest, i, v =>
    if i < k then Sparse.put i v ((k, u) :: rest)
    else if i == k then Sparse.put i v rest
    else (k, u) :: Sparse.set rest i v

/-- Every number of the table is above `k`. -/
def Sparse.above {w : Nat} (k : Nat) : Sparse w → Bool
  | [] => true
  | (i, _) :: _ => k < i

/-- The canonical form: numbers strictly rising, no zero entry. -/
def Sparse.wf {w : Nat} : Sparse w → Bool
  | [] => true
  | (i, v) :: rest => v != 0 && Sparse.above i rest && Sparse.wf rest

/-- The canonical form of memory. -/
def Memory.wf (m : Memory) : Bool := Sparse.wf m

/-- The byte at a physical address; a byte nothing has written reads zero (log 7). -/
def Memory.byte (m : Memory) (pa : Nat) : Byte := Sparse.get m pa

/-- Stores a byte at a physical address. -/
def Memory.setByte (m : Memory) (pa : Nat) (b : Byte) : Memory := Sparse.set m pa b

/-- The little-endian value of `n` bytes given by address function `addr` (spec/20_memory.md R102, R104). -/
def Memory.value (m : Memory) (addr : Nat → Nat) : Nat → Nat
  | 0 => 0
  | n + 1 => Memory.value m addr n + (m.byte (addr n)).toNat * 2 ^ (8 * n)

/-! ## The outcome of a part of a step -/

/-- An exception that an instruction or an agent raises (spec/60_exceptions.md R910). -/
structure Trap where
  cause : BitVec 8
  /-- The Info field; a free value where the spec gives none (R906). -/
  info : Option (BitVec 8)
  /-- The saved address; the instruction's own where none is given. -/
  eip : Option Word
  /-- The address for M_BADADDR, where the exception has one (R905). -/
  badAddr : Option Word
  /-- Whether M_BAD_INSTR receives the instruction (R906). -/
  badInstr : Bool
  /-- The level of an external interrupt (R912). -/
  level : BitVec 6
deriving DecidableEq, Repr

/-- What a part of a step ends in: a value with the state so far, an exception, or a refusal. -/
inductive Res (α : Type) where
  | ok (a : α) (s : State)
  | trap (t : Trap) (s : State)
  | stop (r : Refusal)

/-- Goes on from a part of a step that did not end it. -/
def Res.bind {α β : Type} (x : Res α) (f : α → State → Res β) : Res β :=
  match x with
  | .ok a s => f a s
  | .trap t s => .trap t s
  | .stop r => .stop r

/-! ## Free values -/

/-- The free value of a slot in this step (log 15). -/
def State.free (s : State) (slot : Nat) : Word := Config.free s.draws slot

/-- The slot of the Info field of M_CAUSE (spec/60_exceptions.md R906). -/
def slotInfo : Nat := 0
/-- The slot of an instruction's result. -/
def slotResult : Nat := 1
/-- The slot of a CSR read (spec/10_state.md R34, R50, R51). -/
def slotCsr : Nat := 2
/-- The slot of the choice between a lost store and Bus Error (spec/20_memory.md R137): bit 0. -/
def slotStore : Nat := 4
/-- The slot of the rights of a shortcut translation (spec/21_memory_management.md R173). -/
def slotShortcut : Nat := 5
/-- The slot of a message that software triggers (spec/60_exceptions.md R947). -/
def slotMessage : Nat := 6

/-! ## The status register (spec/10_state.md R36) -/

/-- The operating mode, sr[14:13]. -/
def srMode (sr : BitVec 32) : BitVec 2 := sr.extractLsb' 13 2
/-- The interrupt mask level, sr[10:5]. -/
def srIpl (sr : BitVec 32) : BitVec 6 := sr.extractLsb' 5 6
/-- The software stack, sr[22:20]. -/
def srSwstk (sr : BitVec 32) : BitVec 3 := sr.extractLsb' 20 3
/-- The current privilege level, sr[31:24]. -/
def srCpl (sr : BitVec 32) : BitVec 8 := sr.extractLsb' 24 8
/-- Absolute conditional branches, sr[17]. -/
def srAb (sr : BitVec 32) : Bool := sr.getLsbD 17
/-- Memory privilege of the previous mode, sr[19]. -/
def srMprv (sr : BitVec 32) : Bool := sr.getLsbD 19
/-- Single step mode, sr[11]. -/
def srSsm (sr : BitVec 32) : Bool := sr.getLsbD 11
/-- Trace enable, sr[12]. -/
def srTe (sr : BitVec 32) : Bool := sr.getLsbD 12
/-- The defined bits: all but the reserved bit 23 (R36; spec/93_implementation_defined.md U5). -/
def srDefined : BitVec 32 := 0xFF7FFFFF#32
/-- The status register with another operating mode and mask level. -/
def srEnter (sr : BitVec 32) (ipl : BitVec 6) : BitVec 32 :=
  (sr &&& 0xFFFF981F#32) ||| 0x6000#32 ||| (ipl.setWidth 32 <<< 5)

/-- The operating mode. -/
def State.mode (s : State) : BitVec 2 := srMode s.sr

/-! ## General registers (spec/10_state.md R20 to R28) -/

/-- The physical register that a register field names: 31 is the stack pointer of the operating mode (R23). -/
def State.physical (s : State) (r : BitVec 6) : BitVec 6 := if r == 31#6 then 32#6 + s.mode.setWidth 6 else r

/-- The lowest operating mode that may name a physical register (R24; spec/42_data_movement.md R388). -/
def lowestMode (r : BitVec 6) : BitVec 2 :=
  if r == 31#6 || r == 33#6 then 1#2
  else if r == 34#6 || r.toNat ∈ [36, 37, 38, 39, 40] then 2#2
  else if r == 35#6 then 3#2
  else 0#2

/-- Whether a register field may be used in the current mode; 31 always may (R24). -/
def State.mayUse (s : State) (r : BitVec 6) : Bool := r == 31#6 || (lowestMode r).ule s.mode

/-- A physical register; x[0] reads zero (R21). -/
def State.gprPhys (s : State) (i : BitVec 6) : Word := if i == 0#6 then 0#64 else (s.regs[i.toNat]'i.isLt).val

/-- The capability tag of a physical register; that of x[0] is 0 (R28). -/
def State.tagPhys (s : State) (i : BitVec 6) : Bool := i != 0#6 && (s.regs[i.toNat]'i.isLt).tag

/-- Writes a physical register and its tag; a write to x[0] is discarded (R21). -/
def State.setPhys (s : State) (i : BitVec 6) (v : Word) (tag : Bool) : State :=
  if i == 0#6 then s else { s with regs := s.regs.set i.toNat ⟨v, tag⟩ i.isLt }

/-- The register a field names. -/
def State.gpr (s : State) (r : BitVec 6) : Word := s.gprPhys (s.physical r)

/-- The capability tag of the register a field names. -/
def State.gprTag (s : State) (r : BitVec 6) : Bool := s.tagPhys (s.physical r)

/-- Writes the register a field names and clears its tag (R28). -/
def State.setGpr (s : State) (r : BitVec 6) (v : Word) : State := s.setPhys (s.physical r) v false

/-- Writes the register a field names with a tag: the capability instructions (R28). -/
def State.setCap (s : State) (r : BitVec 6) (v : Word) (tag : Bool) : State := s.setPhys (s.physical r) v tag

/-- The position of a register field, as a following immediate names it (spec/49_capability_system_modifiers.md R852). -/
inductive Slot where
  | a | b | c | t
deriving DecidableEq, Repr

/-- The ABC code of a position. -/
def Slot.code : Slot → BitVec 2
  | .a => 0#2 | .b => 1#2 | .c => 2#2 | .t => 3#2

/-- The constant that stands in a position's place under `PFX_MODEL = text`: the field's low five bits are the
constant's (spec/49_capability_system_modifiers.md R853). -/
def State.constant (s : State) (slot : Slot) (r : BitVec 6) : Option Word :=
  match s.pfx with
  | none => none
  | some p => if p.abc == slot.code then some (p.imm ++ r.setWidth 5) else none

/-! ## Exceptions an instruction raises by itself -/

/-- An exception of the instruction that is no memory access (spec/60_exceptions.md R905, R906). -/
def Trap.plain (cause : BitVec 8) : Trap := ⟨cause, none, none, none, true, 0#6⟩

/-- Unimplemented Instruction, cause 4 (spec/30_encoding.md R260). -/
def raiseUnimplemented {α : Type} (s : State) : Res α := .trap (Trap.plain 4#8) s
/-- Privilege Violation, cause 5, of a register or CSR number (spec/10_state.md R24, R34). -/
def raisePrivilege {α : Type} (s : State) : Res α := .trap (Trap.plain 5#8) s
/-- Divide by zero, cause 64 (spec/41_multiply_divide.md R351). -/
def raiseDivideByZero {α : Type} (s : State) : Res α := .trap (Trap.plain 64#8) s

/-- Goes on where a condition holds, and is refused otherwise. -/
def require (c : Bool) (r : Refusal) (s : State) : Res Unit := if c then .ok () s else .stop r

/-- Goes on where a condition holds, and raises Unimplemented Instruction otherwise. -/
def requireDefined (c : Bool) (s : State) : Res Unit := if c then .ok () s else raiseUnimplemented s

/-- The value of a source operand: a following constant, or the register, checked against the mode (spec/10_state.md
R24). -/
def operand (slot : Slot) (r : BitVec 6) (s : State) : Res Word :=
  match s.constant slot r with
  | some k => .ok k s
  | none => if s.mayUse r then .ok (s.gpr r) s else raisePrivilege s

/-- The check of a target register, before anything is executed (spec/60_exceptions.md R904). A constant in place of a
register that is written has no stated meaning. -/
def target (r : BitVec 6) (s : State) : Res Unit :=
  if (s.constant .t r).isSome then .stop .pfx else if s.mayUse r then .ok () s else raisePrivilege s

/-! ## The instruction pointer -/

/-- The address after an instruction of `len` bytes and what follows it (spec/10_state.md R31; R853). -/
def State.nextIp (s : State) (len : Nat) : Word :=
  s.ip + BitVec.ofNat 64 (len + match s.pfx with | none => 0 | some p => p.bytes)

/-- The instruction pointer moved past the instruction. -/
def State.advance (s : State) (len : Nat) : State := { s with ip := s.nextIp len }

/-- The instruction pointer set to a target. -/
def State.goto (s : State) (t : Word) : State := { s with ip := t }

/-- The end of an instruction of `len` bytes that writes one register. -/
def finishWrite (rt : BitVec 6) (len : Nat) (v : Word) (s : State) : Res Unit :=
  .ok () ((s.setGpr rt v).advance len)

/-! ## Taking an exception and returning from one (spec/60_exceptions.md R910 to R913) -/

/-- Pushes on an exception stack: slot 0 is the top, the old slot 7 is lost (spec/10_state.md R60). -/
def pushStack {α : Type} (v : Vector α 8) (x : α) : Vector α 8 := #v[x, v[0], v[1], v[2], v[3], v[4], v[5], v[6]]

/-- Pops an exception stack: slot 7 keeps its value (R60). -/
def popStack {α : Type} (v : Vector α 8) : Vector α 8 := #v[v[1], v[2], v[3], v[4], v[5], v[6], v[7], v[7]]

/-- The three stacks after a push (R60 to R62). -/
def ExcStacks.push (e : ExcStacks) (sr : BitVec 32) (eip : Word) : ExcStacks :=
  ⟨pushStack e.sr sr, pushStack e.mc 0#64, pushStack e.eip eip⟩

/-- The three stacks after a pop. -/
def ExcStacks.pop (e : ExcStacks) : ExcStacks := ⟨popStack e.sr, popStack e.mc, popStack e.eip⟩

/-- The vector a cause uses (spec/60_exceptions.md R902). -/
def vectorOf (rule : VectorRule) (cause : BitVec 8) : BitVec 8 :=
  match rule with
  | .direct => cause
  | .alternate => if cause.ule 15#8 then cause else 13#8

/-- The address of a vector's entry (R911). -/
def State.vectorEntry (s : State) (cause : BitVec 8) : Word :=
  s.csr.tvec[3] + 8#64 * (vectorOf s.par.vectorRule cause).setWidth 64

/-- The control registers that taking an exception writes (R905, R906). -/
def Csrs.onTrap (c : Csrs) (t : Trap) (info : BitVec 8) (ir : BitVec 96) : Csrs :=
  { c with
    cause := c.cause.set 3 (info ++ t.cause)
    badAddr := t.badAddr.getD c.badAddr
    badInstr := if t.badInstr then ir.setWidth 64 else c.badInstr }

/-- Taking an exception (R910): the one entry sequence of every cause. -/
def trapEntry (t : Trap) (s : State) : State :=
  { s with
    exc := s.exc.push s.sr (t.eip.getD s.ip)
    csr := s.csr.onTrap t (t.info.getD ((s.free slotInfo).setWidth 8)) s.ir
    sr := srEnter s.sr (if t.cause == 10#8 then t.level else 63#6)
    atom := []
    ip := s.vectorEntry t.cause }

/-- Returning from an exception (spec/48_branch_flow.md R764): the top of the stacks, with the address advanced. -/
def exceptionReturn (offs : BitVec 4) (s : State) : State :=
  { s with
    exc := s.exc.pop
    sr := s.exc.sr[0] &&& srDefined
    ip := s.exc.eip[0] + 3#64 * offs.setWidth 64 }

/-- The outcome of a meaning: an exception is a next state. -/
def Res.finish (x : Res Unit) : Host.Outcome State Fault Refusal :=
  match x with
  | .ok _ s => .next s
  | .trap t s => .next (trapEntry t s)
  | .stop r => .refused r

end Sys2Proof.Machine
end

