-- ==== Sys2Proof/Machine/Csr.lean ====
section
/-! DEFINITION. The control and status registers by number: which register a number names, what a read gives and what a write
changes (spec/10_state.md R34 to R62). -/

namespace Sys2Proof.Machine

/-- The registers of the CSR map (spec/10_state.md R35). -/
inductive CsrName where
  | sr (view : BitVec 2)
  | cause (m : BitVec 2)
  | scratch (m : BitVec 2)
  | repbuf
  | asid
  | key (k : BitVec 3)
  | coreno
  | tick
  | seed
  | badAddr
  | badInstr
  | sema
  | tvec (k : Fin 5)
  | srStack (k : BitVec 3)
  | mcStack (k : BitVec 3)
  | eip (k : BitVec 3)
  | ios
  | cfgs
  /-- A number with no register; S_PTBR, 0x1003, is one (R43). -/
  | absent
deriving DecidableEq, Repr

/-- The lowest mode that may name a number, its bits 13:12 (R34). -/
def csrLevel (n : BitVec 14) : BitVec 2 := n.extractLsb' 12 2

/-- The register a number names (R35). -/
def csrName (n : BitVec 14) : CsrName :=
  if n.setWidth 12 == 0x004#12 then .sr (csrLevel n)
  else if n.setWidth 12 == 0x006#12 then .cause (csrLevel n)
  else if n.setWidth 12 == 0x041#12 then .scratch (csrLevel n)
  else if n == 0x0008#14 then .repbuf
  else if n == 0x101F#14 then .asid
  else if n.extractLsb' 3 11 == 0x204#11 then .key (n.setWidth 3)
  else if n == 0x3001#14 then .coreno
  else if n == 0x3002#14 then .tick
  else if n == 0x3003#14 then .seed
  else if n == 0x3007#14 then .badAddr
  else if n == 0x300B#14 then .badInstr
  else if n == 0x300C#14 then .sema
  else if n == 0x3030#14 then .tvec 0
  else if n == 0x3031#14 then .tvec 1
  else if n == 0x3032#14 then .tvec 2
  else if n == 0x3033#14 then .tvec 3
  else if n == 0x3034#14 then .tvec 4
  else if n.extractLsb' 3 11 == 0x610#11 then .srStack (n.setWidth 3)
  else if n.extractLsb' 3 11 == 0x612#11 then .mcStack (n.setWidth 3)
  else if n == 0x3100#14 then .ios
  else if n == 0x3101#14 then .cfgs
  else if n.extractLsb' 3 11 == 0x621#11 then .eip (n.setWidth 3)
  else .absent

/-- The bits of the status register that a view shows and writes: the machine view all defined bits, a lower view the
enable bits of its own and lower modes (R37, R38). -/
def srView (view : BitVec 2) : BitVec 32 :=
  match view.toNat with
  | 0 => 1#32
  | 1 => 3#32
  | 2 => 7#32
  | _ => srDefined

/-- What M_TICK reads: a draw that is not below what it read before (R50; log 27). -/
def State.tickRead (s : State) : Word :=
  if (s.free slotCsr).ult s.csr.tick then s.csr.tick else s.free slotCsr

/-- What a read of a register gives (R36 to R62). -/
def State.csrValue (s : State) : CsrName → Word
  | .sr view => (s.sr &&& srView view).setWidth 64
  | .cause m => (s.csr.cause[m.toNat]'m.isLt).setWidth 64
  | .scratch m => s.csr.scratch[m.toNat]'m.isLt
  | .repbuf => s.csr.repbuf.setWidth 64
  | .asid => s.csr.asid.setWidth 64
  | .key k => (s.csr.keys[k.toNat]'k.isLt).setWidth 64
  | .coreno => s.par.coreno
  | .tick => s.tickRead
  | .seed => s.free slotCsr &&& 0xF00000000000FFFF#64
  | .badAddr => s.csr.badAddr
  | .badInstr => s.csr.badInstr
  | .sema => s.csr.sema
  | .tvec k => s.csr.tvec[k]
  | .srStack k => (s.exc.sr[k.toNat]'k.isLt).setWidth 64
  | .mcStack k => s.exc.mc[k.toNat]'k.isLt
  | .eip k => s.exc.eip[k.toNat]'k.isLt
  | .ios => s.csr.ios
  | .cfgs => s.csr.cfgs
  | .absent => s.free slotCsr

/-- The state after a read: only M_TICK keeps what it read. -/
def State.csrAfterRead (s : State) : CsrName → State
  | .tick => { s with csr := { s.csr with tick := s.tickRead } }
  | _ => s

/-- The state after a write of a register: an undescribed bit stays zero, M_CORENO, M_TICK, M_SEED and an absent number ignore
it (R34, R49 to R51; spec/92_eei_decisions.md D14). DESIGN CHOICE: the bits of M_CFGS and M_IOS that are compared with no address bit
(63..48 and 11..0 of M_CFGS, of which the spec gives no picture; 63..60 and 15..0 of M_IOS) are not taken for undescribed: they are
kept as written and read back (R56, R57; log 46). -/
def State.csrSet (s : State) (c : CsrName) (v : Word) : State :=
  match c with
  | .sr view => { s with sr := (s.sr &&& ~~~(srView view)) ||| (v.setWidth 32 &&& srView view) }
  | .cause m => { s with csr := { s.csr with cause := s.csr.cause.set m.toNat (v.setWidth 16) m.isLt } }
  | .scratch m => { s with csr := { s.csr with scratch := s.csr.scratch.set m.toNat v m.isLt } }
  | .repbuf => { s with csr := { s.csr with repbuf := s.csr.repbuf.extractLsb' 64 64 ++ v } }
  | .asid => { s with csr := { s.csr with asid := v.setWidth 16 } }
  | .key k => { s with csr := { s.csr with keys := s.csr.keys.set k.toNat (v.setWidth 24) k.isLt } }
  | .badAddr => { s with csr := { s.csr with badAddr := v } }
  | .badInstr => { s with csr := { s.csr with badInstr := v } }
  | .sema => { s with csr := { s.csr with sema := v } }
  | .tvec k => { s with csr := { s.csr with tvec := s.csr.tvec.set k v } }
  | .srStack k => { s with exc := { s.exc with sr := s.exc.sr.set k.toNat (v.setWidth 32 &&& srDefined) k.isLt } }
  | .mcStack k => { s with exc := { s.exc with mc := s.exc.mc.set k.toNat v k.isLt } }
  | .eip k => { s with exc := { s.exc with eip := s.exc.eip.set k.toNat v k.isLt } }
  | .ios => { s with csr := { s.csr with ios := v } }
  | .cfgs => { s with csr := { s.csr with cfgs := v } }
  | .coreno | .tick | .seed | .absent => s

end Sys2Proof.Machine
end

