-- ==== Sys2Proof/Machine/Translate.lean ====
section
/-! DEFINITION. The physical address space and the translation of virtual addresses: TLB, page table walk, page management
table, region attributes and the checks of an access (spec/21_memory_management.md). -/

namespace Sys2Proof.Machine

/-! ## What answers a physical address (spec/20_memory.md R124 to R126) -/

/-- What answers a physical address, with the offset in a device's window. -/
inductive Place where
  | memory
  | qic (off : Nat)
  | vectors (off : Nat)
  | timers (second : Bool) (off : Nat)
  | regions (off : Nat)
  | walker (off : Nat)
  /-- A configuration block. -/
  | config (b : Block) (off : Nat)
  /-- An address of the I/O megabytes that no described device claims (spec/20_memory.md R125). -/
  | io (pa : Nat)
  /-- A configuration block of a device the spec does not name, by its offset in the region (R122). -/
  | undescribed (off : Nat)
  | nothing
deriving DecidableEq, Repr

/-- The number of a device's kind and its offset. -/
def Place.offset : Place → Nat × Nat
  | .memory | .nothing => (0, 0)
  | .qic off => (1, off)
  | .vectors off => (2, off)
  | .timers second off => (if second then 3 else 4, off)
  | .regions off => (5, off)
  | .walker off => (6, off)
  | .config b off => (match b with | .qic => 7 | .qit => 8 | .regions => 9 | .walker => 10, off)
  | .io pa => (11, pa)
  | .undescribed off => (12, off)

/-- The slot of the free value of the octa of a device (log 15): above those of Ops.lean. -/
def Place.slot (p : Place) : Nat := 16 * (p.offset.2 / 8 + 1) + p.offset.1

/-- The base that a base address register gives: its low 16 bits select nothing, its upper digits are ones (spec/
60_exceptions.md R950; log 18). -/
def barBase (bar : BitVec 32) : Nat := 0xFFFFFFFF00000000 + (bar.toNat / 0x10000) * 0x10000

/-- Whether a base address register with its enable bit claims an address for `size` bytes. -/
def barClaims (bar : BitVec 32) (size pa : Nat) : Bool :=
  bar.getLsbD 0 && barBase bar ≤ pa && pa < barBase bar + size

/-- Whether a window of 64 kB claims an address. -/
def windowClaims (base pa : Nat) : Bool := base ≤ pa && pa < base + 0x10000

/-- `RAM_MAP` and `PHYS_ADDR_BITS`: whether memory answers an address (log 19). -/
def State.isRam (s : State) (pa : Nat) : Bool :=
  pa < 2 ^ s.par.physAddrBits && s.par.ramMap.any fun r => r.1 ≤ pa && pa < r.1 + r.2

/-- Responses for an address carry `Err` (spec/20_memory.md R137; log 41). -/
def State.isErr (s : State) (pa : Nat) : Bool := Sparse.get s.errs pa == 1#1

/-- What answers a physical address without an error; a device wins over memory. Each window is 64 kB, that of both timer
components too (spec/20_memory.md R126; spec/90_conflicts.md C52; log 18). DESIGN CHOICE: where windows overlap, the first of the QIC, its
vector table, the timer components, the region table and the walker answers; the window of the second timer component stands at a
parameter (log 18). -/
def State.place (s : State) (pa : Nat) : Place :=
  if s.isErr pa then .nothing
  else if barClaims s.cfg.qic[4] 0x10000 pa then .qic (pa - barBase s.cfg.qic[4])
  else if barClaims s.cfg.qic[5] 0x20000 pa then .vectors (pa - barBase s.cfg.qic[5])
  else if barClaims s.cfg.qit[4] 0x10000 pa then .timers false (pa - barBase s.cfg.qit[4])
  else if windowClaims s.par.qit2Base pa then .timers true (pa - s.par.qit2Base)
  else if barClaims s.cfg.regions[4] 0x10000 pa then .regions (pa - barBase s.cfg.regions[4])
  else if barClaims s.cfg.walker[4] 0x10000 pa then .walker (pa - barBase s.cfg.walker[4])
  else if s.isRam pa then .memory
  else .nothing

/-- The offset in the configuration region that M_CFGS selects: va[63:28] is its bits 47..12 (spec/10_state.md R57). -/
def State.configOffset (s : State) (va : Word) : Option Nat :=
  if va.extractLsb' 28 36 == s.csr.cfgs.extractLsb' 12 36 then some (va.toNat % 2 ^ 28) else none

/-- The I/O megabytes: the one M_IOS selects, and 0xFFFFFFFFFFD00000 (spec/20_memory.md R125; spec/10_state.md R56). -/
def State.inIoArea (s : State) (va : Word) : Bool :=
  va.extractLsb' 20 44 == s.csr.ios.extractLsb' 16 44 || va.extractLsb' 20 44 == 0xFFFFFFFFFFD#44

/-- The number of a configuration block in the region (spec/20_memory.md R122). -/
def CfgAddr.block (a : CfgAddr) : Nat := (a.bus ++ a.device ++ a.func).toNat

/-- The configuration block at an offset of the region (spec/20_memory.md R122, R124); those of the QIC and the QIT stand where
their parameters say (spec/60_exceptions.md R950, R966). DESIGN CHOICE: where two blocks have one place, the first of the QIT, the QIC,
the region table and the walker answers (log 18). -/
def configPlace (p : Params) (off : Nat) : Place :=
  if off / 4096 = p.qitCfg.block then .config .qit (off % 4096)
  else if off / 4096 = p.qicCfg.block then .config .qic (off % 4096)
  else if off / 4096 = 0x60 then .config .regions (off % 4096)
  else if off / 4096 = 0x70 then .config .walker (off % 4096)
  else .undescribed off

/-- What answers the access of a virtual address whose physical address is `pa` (spec/20_memory.md R122, R125).
DESIGN CHOICE: the configuration region answers before every device window and memory (log 18). -/
def State.port (s : State) (va : Word) (pa : Nat) : Place :=
  if s.isErr pa then .nothing
  else match s.configOffset va with
    | some off => configPlace s.par off
    | none => if s.place pa == .memory && s.inIoArea va then .io pa else s.place pa

/-! ## Accesses -/

/-- The kind of an access (spec/21_memory_management.md R200). -/
inductive Access where
  | read | write | execute
deriving DecidableEq, Repr

/-- The bit that an access needs in a group of rights R W X (R152, R162). -/
def Access.bit : Access → Nat
  | .read => 2 | .write => 1 | .execute => 0

/-- An exception of an access: it has an address, and M_BAD_INSTR is left by a fetch (spec/60_exceptions.md R905, R906). -/
def Trap.access (acc : Access) (cause : BitVec 8) (va : Word) : Trap :=
  ⟨cause, none, none, some va, acc != .execute, 0#6⟩

/-- The mode in which an access is checked: with `mprv`, a data access takes the mode on top of the status stack (spec/
60_exceptions.md R933). -/
def State.accessMode (s : State) (acc : Access) : BitVec 2 :=
  if acc != .execute && srMprv s.sr then srMode s.exc.sr[0] else s.mode

/-- Page Fault: the walker keeps the address and the ASID (spec/21_memory_management.md R201 (a)). -/
def pageFault {α : Type} (acc : Access) (va : Word) (s : State) : Res α :=
  .trap (Trap.access acc 6#8 va) { s with ptw := { s.ptw with pfAddr := va, pfAsid := s.csr.asid } }

/-- Privilege Violation of an access (R201 (b)). -/
def accessViolation {α : Type} (acc : Access) (va : Word) (s : State) : Res α := .trap (Trap.access acc 5#8 va) s

/-- Bus Error (R201 (c)). -/
def busError {α : Type} (acc : Access) (va : Word) (s : State) : Res α := .trap (Trap.access acc 2#8 va) s

/-- A physical read of `n` bytes of memory by the walker, for the translation of `va`; a table in a device is refused (log 29). -/
def physRead (acc : Access) (va : Word) (pa n : Nat) (s : State) : Res Nat :=
  if (List.range n).all fun k => s.place (pa + k) == .memory then .ok (s.mem.value (pa + ·) n) s
  else if (List.range n).any fun k => s.place (pa + k) == .nothing then busError acc va s
  else .stop .walkDevice

/-! ## TLB (spec/21_memory_management.md R190 to R193) -/

/-- The virtual page number, va[63:13]. -/
def vpnOf (va : Word) : BitVec 51 := va.extractLsb' 13 51

/-- Whether an entry matches a page under an ASID (R191). -/
def TlbEntry.hits (e : TlbEntry) (count : BitVec 6) (asid : BitVec 16) (vpn : BitVec 51) : Bool :=
  e.valid && e.count == count && e.asid == asid && e.vpn == vpn

/-- The entry that translates a page under the current ASID. -/
def State.tlbFind (s : State) (vpn : BitVec 51) : Option TlbEntry :=
  s.tlb.find? fun e => e.hits s.tlbCount s.csr.asid vpn

/-- The TLB without the entries that translate a page under the current ASID (R193, Invalidate TLB entry). -/
def State.tlbDrop (s : State) (vpn : BitVec 51) : State :=
  { s with tlb := s.tlb.filter fun e => !e.hits s.tlbCount s.csr.asid vpn }

/-- The TLB with an entry in place of those that translate its page. -/
def State.tlbInsert (s : State) (e : TlbEntry) : State := { s with tlb := e :: (s.tlbDrop e.vpn).tlb }

/-- The TLB with no entry (R193, Invalidate TLB); the global count moves on (R191). -/
def State.tlbClear (s : State) : State := { s with tlb := [], tlbCount := s.tlbCount + 1#6 }

/-! ## The walk (spec/21_memory_management.md R168 to R173) -/

/-- PT_ATTR.Type = 1: the hierarchical table (R197). -/
def Ptw.hierarchical (p : Ptw) : Bool := p.attr.getLsbD 0
/-- The level of the root table: Levels, where 0 is read as 1 (R172). DESIGN CHOICE: the spec has one to seven levels and does not say
what 8 to 15 do; they are walked as so many tables (R168; log 29). -/
def Ptw.rootLevel (p : Ptw) : Nat := max 1 (p.attr.extractLsb' 8 4).toNat
/-- The highest index of the root table (R197). -/
def Ptw.limit (p : Ptw) : Nat := (p.attr.extractLsb' 12 13).toNat

/-- The entry that a page table entry gives (R170, R172); its page rights are not yet known. -/
def leafEntry (s : State) (va : Word) (upper : BitVec 12) (pte : Option Nat) (e : Word) : TlbEntry where
  valid := true
  count := s.tlbCount
  asid := s.csr.asid
  nru := false
  lvl := e.extractLsb' 61 3
  s := e.getLsbD 60
  rgn := e.extractLsb' 57 3
  m := e.getLsbD 56
  a := e.getLsbD 55
  avl := e.extractLsb' 52 3
  cache := e.extractLsb' 49 3
  u := e.getLsbD 48
  rwx := e.extractLsb' 45 3
  ppn := upper ++ e.extractLsb' 0 45
  vpn := vpnOf va
  pmtValid := false
  pl := 0#8
  key := 0#24
  n := false
  urwx := 0#3
  srwx := 0#3
  hrwx := 0#3
  mrwx := 0#3
  attr := 0#128
  pte := pte
  pmte := none

/-- The entry that a shortcut pointer gives for the page of `va`: the low `bits` bits of its page number are the block's
page index (R173). The format has no rights; they are free (log 29). -/
def shortcutEntry (s : State) (va : Word) (bits : Nat) (e : Word) : TlbEntry :=
  let f := s.free slotShortcut
  let ppn := e.toNat % 2 ^ 57
  { leafEntry s va 0#12 none e with
    m := f.getLsbD 0
    a := f.getLsbD 1
    avl := f.extractLsb' 2 3
    cache := f.extractLsb' 5 3
    u := f.getLsbD 8
    rwx := f.extractLsb' 9 3
    ppn := BitVec.ofNat 57 (ppn / 2 ^ bits * 2 ^ bits + (vpnOf va).toNat % 2 ^ bits) }

/-- The walk from a table of a level, `fuel` levels deep at most (R172). A pointer in a table of level 1 leads nowhere:
no translation (log 29). DESIGN CHOICE: the address of an entry is an unbounded number, which does not wrap at 2^64 (log 29). -/
def walkTable (acc : Access) (va : Word) : Nat → Nat → Nat → BitVec 12 → Nat → State → Res TlbEntry
  | 0, _, _, _, _, s => pageFault acc va s
  | fuel + 1, table, level, upper, idx, s =>
    (physRead acc va (table + 8 * idx) 8 s).bind fun v s =>
    let e := BitVec.ofNat 64 v
    let lvl := (e.extractLsb' 61 3).toNat
    if lvl = 0 then pageFault acc va s
    else if lvl = 1 then .ok (leafEntry s va upper (some (table + 8 * idx)) e) s
    else if e.getLsbD 60 then
      if 4 < lvl then .stop .shortcutLevel
      else if e.toNat % 2 ^ (10 * (lvl - 1)) < (vpnOf va).toNat % 2 ^ (10 * (lvl - 1)) then pageFault acc va s
      else .ok (shortcutEntry s va (10 * (lvl - 1)) e) s
    else if level ≤ 1 then pageFault acc va s
    else walkTable acc va fuel (e.toNat % 2 ^ 57 * 2 ^ 13) (level - 1) (e.extractLsb' 45 12)
      (va.toNat / 2 ^ (13 + 10 * (level - 2)) % 1024) s

/-- The walk (R172). DESIGN CHOICE: bits of an index that would lie above va[63] (at the levels from 6 up) are 0
(log 29). -/
def walk (acc : Access) (va : Word) (s : State) : Res TlbEntry :=
  if !s.ptw.hierarchical then .stop .hashedPageTable
  else
    let idx := va.toNat / 2 ^ (13 + 10 * (s.ptw.rootLevel - 1))
    if s.ptw.limit < idx then pageFault acc va s
    else walkTable acc va 16 (s.ptw.base.toNat / 8 * 8) s.ptw.rootLevel 0#12 idx s

/-! ## Rights (spec/21_memory_management.md R152 to R166) -/

/-- The entry with the page rights of its page management table entry, read from an address, and the attributes of its region as
they are now (R160, R161; log 44). -/
def TlbEntry.withRights (e : TlbEntry) (p attr : BitVec 128) (pmte : Nat) : TlbEntry :=
  { e with
    pmtValid := true
    attr := attr
    pmte := some pmte
    urwx := p.extractLsb' 0 3
    srwx := p.extractLsb' 3 3
    hrwx := p.extractLsb' 6 3
    mrwx := p.extractLsb' 9 3
    n := p.getLsbD 30
    key := p.extractLsb' 96 24
    pl := p.extractLsb' 120 8 }

/-- The page rights of a mode. -/
def TlbEntry.rights (e : TlbEntry) (m : BitVec 2) : BitVec 3 :=
  match m.toNat with
  | 0 => e.urwx | 1 => e.srwx | 2 => e.hrwx | _ => e.mrwx

/-- The region's attribute group for a mode (R151), as the entry holds it: a change of the region table reaches it once the entry
is fetched anew (R193; log 44). -/
def TlbEntry.group (e : TlbEntry) (m : BitVec 2) : BitVec 32 := e.attr.extractLsb' (32 * m.toNat) 32

/-- The key check (R166). -/
def State.keyOk (s : State) (key : BitVec 24) : Bool := key == 0#24 || s.csr.keys.toList.any (· == key)

/-- The three sources of rights together, the key and the privilege level (R200). -/
def State.permits (s : State) (acc : Access) (e : TlbEntry) : Bool :=
  let m := s.accessMode acc
  e.rwx.getLsbD acc.bit && (m != 0#2 || e.u) && (e.rights m).getLsbD acc.bit &&
    (e.group m).getLsbD acc.bit && s.keyOk e.key &&
    (e.pl == 0#8 || (acc == .execute && e.n) || e.pl.ule (srCpl s.sr))

/-- The granularity of the region lets an access of `n` bytes at `start` through; 0 bytes: a translation without an access
(R153; log 29). -/
def State.granular (s : State) (acc : Access) (e : TlbEntry) (start : Word) (n : Nat) : Bool :=
  let g := 2 ^ ((e.group (s.accessMode acc)).extractLsb' 8 3).toNat
  n == 0 || (g ≤ n && start.toNat % g == 0)

/-! ## Translation (spec/21_memory_management.md R200) -/

/-- The entry for an address: the TLB's, or the walker's, which the TLB then holds. -/
def lookup (acc : Access) (va : Word) (s : State) : Res TlbEntry :=
  match s.tlbFind (vpnOf va) with
  | some e => .ok e s
  | none => (walk acc va s).bind fun e s => .ok e (s.tlbInsert e)

/-- The entry with its page rights, fetched from the page management table at the first use (R160). DESIGN CHOICE: the address of
the table's entry is an unbounded number, which does not wrap at 2^64 (log 29). -/
def loadRights (acc : Access) (va : Word) (e : TlbEntry) (s : State) : Res TlbEntry :=
  if e.pmtValid then .ok e s
  else
    let r := s.rgn[e.rgn.toNat]'e.rgn.isLt
    let pmte := r.pmt.toNat + 16 * e.ppn.toNat
    (physRead acc va pmte 16 s).bind fun p s =>
    let e := e.withRights (BitVec.ofNat 128 p) r.attr pmte
    .ok e (s.tlbInsert e)

/-- The physical address of `va`, a byte of an access of `n` bytes that starts at `start` (R200), 0 where no granularity binds.
DESIGN CHOICE: an access that fails both the rights and the granularity raises Privilege Violation and is not refused (R153; log 29). -/
def translate (acc : Access) (n : Nat) (start va : Word) (s : State) : Res Nat :=
  (lookup acc va s).bind fun e s =>
  (loadRights acc va e s).bind fun e s =>
  if !s.permits acc e then accessViolation acc va s
  else if !s.granular acc e start n then .stop .granularity
  else .ok (e.ppn.toNat * 2 ^ 13 + va.toNat % 2 ^ 13) s

end Sys2Proof.Machine
end

