-- ==== Sys2Proof/Machine/Device.lean ====
section
/-! DEFINITION. The devices inside the processor: interrupt controller, interval timers, region table, page table walker and
configuration blocks (spec/60_exceptions.md sections 7 and 8; spec/21_memory_management.md R151, R195). -/

namespace Sys2Proof.Machine

/-- The bytes `off` mod 8 onward of an octa: what a narrow read of a register sees. -/
def octaPart (v : Word) (off n : Nat) : Word := zextLow n (v >>> (8 * (off % 8)))

/-- An octa with `n` bytes from `off` mod 8 onward replaced: a narrow write of a register of the region table, the walker or a
configuration block, which the model takes in every width (log 43). -/
def octaMerge (old : Word) (off n : Nat) (v : Word) : Word :=
  let mask : Word := (BitVec.allOnes (8 * n)).setWidth 64 <<< (8 * (off % 8))
  (old &&& ~~~mask) ||| ((v <<< (8 * (off % 8))) &&& mask)

/-! ## The interrupt controller (spec/60_exceptions.md R940 to R951) -/

/-- The size of the vector table, 128 kB (R943). -/
def vectorBytes : Nat := 0x20000

/-- The base address register of a mode's section (R944). -/
def Qic.base (q : Qic) (m : BitVec 2) : Word :=
  match m.toNat with
  | 0 => q.uvtb | 1 => q.svtb | 2 => q.hvtb | _ => q.mvtb

/-- The place of a vector in the table: its section, moved by the base field (R943, R944; log 12). -/
def Qic.vectorAt (q : Qic) (m : BitVec 2) (v : BitVec 11) : Nat :=
  ((m.toNat * 2048 + v.toNat) * 16 + (q.base m).toNat) % vectorBytes

/-- A byte of a vector. -/
def Qic.vectorByte (q : Qic) (m : BitVec 2) (v : BitVec 11) (k : Nat) : BitVec 8 :=
  Sparse.get q.vt ((q.vectorAt m v + k) % vectorBytes)

/-- The vector's IE, bit 97. -/
def Qic.vectorIe (q : Qic) (m : BitVec 2) (v : BitVec 11) : Bool := (q.vectorByte m v 12).getLsbD 1
/-- The vector's AI, bit 96. -/
def Qic.vectorAi (q : Qic) (m : BitVec 2) (v : BitVec 11) : Bool := (q.vectorByte m v 12).getLsbD 0
/-- The vector's Swstk, bits 100:98. -/
def Qic.vectorSwstk (q : Qic) (m : BitVec 2) (v : BitVec 11) : BitVec 3 := (q.vectorByte m v 12).extractLsb' 2 3
/-- The vector's CPU group, bits 111:104. -/
def Qic.vectorGroup (q : Qic) (m : BitVec 2) (v : BitVec 11) : BitVec 8 := q.vectorByte m v 13
/-- The vector's Address, bits 63:0. -/
def Qic.vectorAddress (q : Qic) (m : BitVec 2) (v : BitVec 11) : Word :=
  q.vectorByte m v 7 ++ q.vectorByte m v 6 ++ q.vectorByte m v 5 ++ q.vectorByte m v 4 ++
    q.vectorByte m v 3 ++ q.vectorByte m v 2 ++ q.vectorByte m v 1 ++ q.vectorByte m v 0

/-- The entry of the enable and pending tables that holds a vector's bit (R946). -/
def bitEntry (m : BitVec 2) (v : BitVec 11) : Nat := 32 * m.toNat + v.toNat / 64

/-- The enable bit of a vector (R946). -/
def Qic.enabled (q : Qic) (m : BitVec 2) (v : BitVec 11) : Bool :=
  (Sparse.get q.enable (bitEntry m v)).getLsbD (v.toNat % 64)

/-- The controller lets a message through to the cores (R951). -/
def Qic.deliverable (q : Qic) (m : Msg) : Bool :=
  q.ge.getLsbD 0 && q.thres.ult (m.priority.setWidth 64) && q.vectorIe m.mode m.vector && q.enabled m.mode m.vector

/-- Core `c` is in the group of a message's vector (R945). -/
def Qic.reaches (q : Qic) (c : Word) (m : Msg) : Bool :=
  (Sparse.get q.afn (q.vectorGroup m.mode m.vector).toNat).getLsbD c.toNat

/-- A pending bit set or cleared (R947). -/
def Qic.setPending (q : Qic) (entry bit : Nat) (b : Bool) : Qic :=
  let old := Sparse.get q.pending entry
  let mask : Word := 1#64 <<< bit
  { q with pending := Sparse.set q.pending entry (if b then old ||| mask else old &&& ~~~mask) }

/-- A message reaches the controller: it is held, and its data is put into its vector (R941 to R943). The model holds messages without
bound, loses none, and holds them whatever controller number they carry (R940, R942; log 12). -/
def Qic.receive (q : Qic) (m : Msg) : Qic :=
  let q := if Config.pendingOnReceipt then q.setPending (bitEntry m.mode m.vector) (m.vector.toNat % 64) true else q
  { q with
    held := q.held ++ [m]
    vt := Sparse.set q.vt ((q.vectorAt m.mode m.vector + 14) % vectorBytes) m.data }

/-- A held message leaves the controller for a core; the pending bit is set here where it was not at the receipt (log 12). -/
def Qic.deliver (q : Qic) (k : Nat) (m : Msg) : Qic :=
  let q := if Config.pendingOnReceipt then q else q.setPending (bitEntry m.mode m.vector) (m.vector.toNat % 64) true
  { q with held := q.held.eraseIdx k }

/-- A message of which only the vector, the mode and the priority are given; the rest is free. -/
def freeMessage (f : Word) (v : BitVec 11) (m : BitVec 2) (priority : BitVec 6) : Msg where
  vector := v
  mode := m
  controller := f.extractLsb' 0 6
  priority := priority
  swstk := f.extractLsb' 6 3
  source := f.extractLsb' 9 13
  data := f.extractLsb' 22 8

/-- A read of a controller register; an offset not listed, and a register whose format the spec does not give, read a
free value (R944, R951; spec/93_implementation_defined.md U50). DESIGN CHOICE: STAT bit 63, "an interrupt is being requested", is set
while a held message is past GE, THRES and its enable bits (log 12). -/
def Qic.read (q : Qic) (off : Nat) (f : Word) : Word :=
  if off = 0x000 then q.uvtb
  else if off = 0x008 then q.svtb
  else if off = 0x010 then q.hvtb
  else if off = 0x018 then q.mvtb
  else if off = 0x020 then q.vtl
  else if off = 0x028 then bit1 (q.held.any q.deliverable) ++ (0#61 ++ bit1 q.stuck ++ bit1 q.full)
  else if off = 0x380 then q.ge
  else if off = 0x390 then q.thres
  else if 0x800 ≤ off ∧ off < 0x1000 then Sparse.get q.afn ((off - 0x800) / 8)
  else if 0x1000 ≤ off ∧ off < 0x1400 then Sparse.get q.enable ((off - 0x1000) / 8)
  else if 0x1400 ≤ off ∧ off < 0x1800 then Sparse.get q.pending ((off - 0x1400) / 8)
  else f

/-- A write of a pending register names a bit: with the top bit set it triggers that interrupt, else it clears the bit
(R947). The priority of the message is free. -/
def Qic.writePending (q : Qic) (entry : Nat) (v f : Word) : Qic :=
  let bit := v.extractLsb' 0 6
  if v.msb then
    q.receive (freeMessage f (BitVec.ofNat 5 (entry % 32) ++ bit) (BitVec.ofNat 2 (entry / 32)) (f.extractLsb' 30 6))
  else q.setPending entry bit.toNat false

/-- A write of a controller register (R944). VTL is kept and read back, and no vector lookup uses it (log 12). -/
def Qic.write (q : Qic) (off : Nat) (v f : Word) : Qic :=
  if off = 0x000 then { q with uvtb := v }
  else if off = 0x008 then { q with svtb := v }
  else if off = 0x010 then { q with hvtb := v }
  else if off = 0x018 then { q with mvtb := v }
  else if off = 0x020 then { q with vtl := v }
  else if off = 0x028 then { q with full := q.full && v.getLsbD 0, stuck := q.stuck && v.getLsbD 1 }
  else if off = 0x380 then { q with ge := v &&& 1#64 }
  else if off = 0x390 then { q with thres := v &&& 63#64 }
  else if 0x800 ≤ off ∧ off < 0x1000 then { q with afn := Sparse.set q.afn ((off - 0x800) / 8) v }
  else if 0x1000 ≤ off ∧ off < 0x1400 then { q with enable := Sparse.set q.enable ((off - 0x1000) / 8) v }
  else if 0x1400 ≤ off ∧ off < 0x1800 then q.writePending ((off - 0x1400) / 8) v f
  else q

/-! ## The interval timers (spec/60_exceptions.md R960 to R966) -/

/-- The bits of a counter that exist, `QIT_BITS` of them. -/
def Params.counter (p : Params) (v : Word) : Word := BitVec.ofNat 64 (v.toNat % 2 ^ p.qitBits)

/-- The bits of a global timer register that exist, one for each timer. -/
def Params.timerBits (p : Params) (v : Word) : Word := BitVec.ofNat 64 (v.toNat % 2 ^ p.qitNtimer)

/-- Whether a timer exists. -/
def Params.hasTimer (p : Params) (n : Nat) : Bool := n < p.qitNtimer

/-- A change of a timer's registers. -/
def Qit.modify (q : Qit) (n : Nat) (f : Timer → Timer) : Qit :=
  if h : n < 32 then { q with timers := q.timers.set n (f q.timers[n]) } else q

/-- Control bits that exist: the external clock and gate only for the first four timers (R961). -/
def ctrlBits (n : Nat) (v : BitVec 5) : BitVec 5 := if n < 4 then v else v &&& 7#5

/-- The shadows of a timer become its registers; the load bit loads the count and resets (R961, R963). -/
def Timer.sync (t : Timer) : Timer :=
  { t with
    mc := t.mcNew
    ot := t.otNew
    ctrl := t.ctrlNew &&& 0x1E#5
    ctrlNew := t.ctrlNew &&& 0x1E#5
    cc := if t.ctrlNew.getLsbD 0 then t.mcNew else t.cc }

/-- A read of a timer register (R960). -/
def Qit.read (p : Params) (q : Qit) (off : Nat) (f : Word) : Word :=
  if off < 0x800 then
    if h : p.hasTimer (off / 32) ∧ off / 32 < 32 then
      let t := q.timers[off / 32]'h.2
      match off / 8 % 4 with
      | 0 => t.cc
      | 1 => t.mcNew
      | 2 => t.otNew
      | _ => t.ctrlNew.setWidth 64
    else 0#64
  else if off = 0x800 then q.ustat
  else if off = 0x808 then 0#64
  else if off = 0x810 then q.ie
  else if off = 0x818 then q.tmp
  else if off = 0x820 then q.ostat
  else if off = 0x828 then q.gate
  else if off = 0x830 then 0#64
  else if off = 0x838 then 0#64
  else f

/-- Every timer that a word names takes its shadows (R963). -/
def Qit.sync (p : Params) (q : Qit) (v : Word) : Qit :=
  { q with timers := Vector.ofFn fun (n : Fin 32) =>
      if p.hasTimer n && v.getLsbD n then q.timers[n].sync else q.timers[n] }

/-- A write of a timer register (R960 to R965). -/
def Qit.write (p : Params) (q : Qit) (off : Nat) (v : Word) : Qit :=
  if off < 0x800 then
    if p.hasTimer (off / 32) then
      match off / 8 % 4 with
      | 0 => q
      | 1 => q.modify (off / 32) fun t => { t with mcNew := p.counter v }
      | 2 => q.modify (off / 32) fun t => { t with otNew := p.counter v }
      | _ => q.modify (off / 32) fun t => { t with ctrlNew := ctrlBits (off / 32) (v.setWidth 5) }
    else q
  else if off = 0x800 then { q with ustat := q.ustat &&& ~~~v }
  else if off = 0x808 then q.sync p v
  else if off = 0x810 then { q with ie := p.timerBits v }
  else if off = 0x818 then { q with tmp := v }
  else if off = 0x828 then { q with gate := p.timerBits v }
  else if off = 0x830 then { q with gate := q.gate ||| p.timerBits v }
  else if off = 0x838 then { q with gate := q.gate &&& ~~~v }
  else q

/-- A bit of a global register set or cleared. -/
def setBit (w : Word) (n : Nat) (b : Bool) : Word := if b then w ||| 1#64 <<< n else w &&& ~~~(1#64 <<< n)

/-- One step of a timer on its count signal (R962). -/
def Qit.tick (p : Params) (q : Qit) (n : Nat) (extGate : Bool) : Qit :=
  if h : n < 32 then
    let t := q.timers[n]
    if p.hasTimer n && t.ctrl.getLsbD 1 && q.gate.getLsbD n && (!t.ctrl.getLsbD 4 || extGate) then
      if t.cc == 0#64 then
        let stop := !t.ctrl.getLsbD 2
        { q.modify n (fun t => { t with
            cc := if stop then t.cc else t.mc
            ctrl := if stop then t.ctrl &&& 0x1D#5 else t.ctrl
            ctrlNew := if stop then t.ctrlNew &&& 0x1D#5 else t.ctrlNew }) with
          ustat := setBit q.ustat n true
          ostat := setBit q.ostat n false }
      else
        let cc := p.counter (t.cc - 1#64)
        { q.modify n (fun t => { t with cc := cc }) with
          ostat := if cc == t.ot then setBit q.ostat n true else q.ostat }
    else q
  else q

/-- The component requests an interrupt (R964). -/
def Qit.requests (p : Params) (q : Qit) : Bool := (q.ustat &&& q.ie) != 0#64 && p.qitGlobalIe

/-- A timer component. -/
def State.qit (s : State) (second : Bool) : Qit := if second then s.qit2 else s.qit1

/-- A timer component replaced. -/
def State.setQit (s : State) (second : Bool) (q : Qit) : State :=
  if second then { s with qit2 := q } else { s with qit1 := q }

/-! ## Region table, page table walker and configuration blocks -/

/-- One of the two octas of a 128-bit register. -/
def octaOf (v : BitVec 128) (high : Bool) : Word := if high then v.extractLsb' 64 64 else v.setWidth 64

/-- A 128-bit register with one octa replaced. -/
def setOctaOf (v : BitVec 128) (high : Bool) (x : Word) : BitVec 128 :=
  if high then x ++ v.setWidth 64 else v.extractLsb' 64 64 ++ x

/-- A read of the octa of the region table that holds an offset (spec/21_memory_management.md R151); an unused place reads a
free value. -/
def regionRead (r : Vector Region 8) (off : Nat) (f : Word) : Word :=
  if h : off / 0x40 < 8 then
    let g := r[off / 0x40]
    let high := off / 8 % 2 == 1
    match off / 16 % 4 with
    | 0 => octaOf g.pmt high
    | 1 => octaOf g.cta high
    | 2 => octaOf g.attr high
    | _ => f
  else f

/-- A write of the octa of the region table that holds an offset. DESIGN CHOICE: the spec says only "Not used" of the last 128 bits of a
set, and nothing of the window past the eight sets; a write there is dropped (spec/21_memory_management.md R151; log 18). -/
def regionWrite (r : Vector Region 8) (off : Nat) (v : Word) : Vector Region 8 :=
  if h : off / 0x40 < 8 then
    let g := r[off / 0x40]
    let high := off / 8 % 2 == 1
    match off / 16 % 4 with
    | 0 => r.set (off / 0x40) { g with pmt := setOctaOf g.pmt high v }
    | 1 => r.set (off / 0x40) { g with cta := setOctaOf g.cta high v }
    | 2 => r.set (off / 0x40) { g with attr := setOctaOf g.attr high v }
    | _ => r
  else r

/-- A read of the octa of the walker's registers that holds an offset (R195). -/
def Ptw.read (p : Ptw) (off : Nat) (f : Word) : Word :=
  if off / 8 = 0xFF00 / 8 then p.pfAddr
  else if off / 8 = 0xFF10 / 8 then p.pfAsid.setWidth 64
  else if off / 8 = 0xFF20 / 8 then p.base
  else if off / 8 = 0xFF30 / 8 then p.attr
  else f

/-- A value of PT_ATTR selects a supported option: AL = 2 and S = 0 (R197). -/
def ptAttrSupported (v : Word) : Bool := v.extractLsb' 6 2 == 2#2 && !v.getLsbD 3

/-- A write of the octa of the walker's registers that holds an offset (R195 to R197; log 11). -/
def Ptw.write (p : Ptw) (off : Nat) (v : Word) : Ptw :=
  if off / 8 = 0xFF00 / 8 then { p with pfAddr := v }
  else if off / 8 = 0xFF10 / 8 then { p with pfAsid := v.setWidth 16 }
  else if off / 8 = 0xFF20 / 8 then { p with base := v &&& ~~~7#64 }
  else if off / 8 = 0xFF30 / 8 then { p with attr := v }
  else p

/-- A configuration register by number; those past 0xFF read as the given free value (spec/60_exceptions.md R950). -/
def configRead (regs : Vector (BitVec 32) 64) (off : Nat) (f : Word) : Word :=
  if h : off / 8 < 32 then regs[2 * (off / 8) + 1] ++ regs[2 * (off / 8)] else f

/-- A configuration register that software writes: not 000, 008, 02C, 034 (read-only) nor 038 (reserved) (R950;
spec/93_implementation_defined.md U54). -/
def configWritable (k : Nat) : Bool := k != 0 && k != 2 && k != 11 && k != 13 && k != 14

/-- A write of one configuration register. -/
def configSet (regs : Vector (BitVec 32) 64) (k : Nat) (v : BitVec 32) : Vector (BitVec 32) 64 :=
  if h : k < 64 then if configWritable k then regs.set k v else regs else regs

/-- A write of the octa of a configuration block that holds an offset. -/
def configWrite (regs : Vector (BitVec 32) 64) (off : Nat) (v : Word) : Vector (BitVec 32) 64 :=
  configSet (configSet regs (2 * (off / 8)) (v.setWidth 32)) (2 * (off / 8) + 1) (v.extractLsb' 32 32)

/-- The registers of a configuration block. -/
def CfgBlocks.get (c : CfgBlocks) (b : Block) : Vector (BitVec 32) 64 :=
  match b with
  | .qic => c.qic | .qit => c.qit | .regions => c.regions | .walker => c.walker

/-- The registers of a configuration block replaced. -/
def CfgBlocks.set (c : CfgBlocks) (b : Block) (v : Vector (BitVec 32) 64) : CfgBlocks :=
  match b with
  | .qic => { c with qic := v } | .qit => { c with qit := v } | .regions => { c with regions := v } | .walker => { c with walker := v }

/-! ## Bytes of memory -/

/-- A byte stored in memory: its granule's tag is cleared, and an instruction fetch may not see it yet (spec/20_memory.md R105,
R108, R142). -/
def State.storeByte (s : State) (pa : Nat) (b : Byte) : State :=
  { s with
    mem := s.mem.setByte pa b
    tags := Sparse.set s.tags (pa / 8) 0#1
    stale := Sparse.set s.stale pa 1#1 }

/-- Bytes stored at physical addresses that memory answers; another is lost (R113, R137). -/
def busStore (s : State) (pa : Nat) (v : Word) : Nat → State
  | 0 => s
  | n + 1 =>
    let s' := busStore s pa v n
    if s.place (pa + n) == .memory then s'.storeByte (pa + n) (v.extractLsb' (8 * n) 8) else s'

/-! ## Accesses to devices (spec/20_memory.md R106, R112) -/

/-- A device read of `n` bytes; the QIC and the QIT are read 64 bits at a time (spec/60_exceptions.md R944, R960). What the spec
does not describe reads a free value (log 18). -/
def deviceRead (p : Place) (n : Nat) (s : State) : Res Word :=
  let f := s.free p.slot
  match p with
  | .qic off => if n = 8 then .ok (s.qic.read off f) s else .stop .narrowDevice
  | .timers second off => if n = 8 then .ok ((s.qit second).read s.par off f) s else .stop .narrowDevice
  | .vectors off => .ok (BitVec.ofNat 64 (Memory.value s.qic.vt (off + ·) n)) s
  | .regions off => .ok (octaPart (regionRead s.rgn off f) off n) s
  | .walker off => .ok (octaPart (s.ptw.read off f) off n) s
  | .config b off => .ok (octaPart (configRead (s.cfg.get b) off f) off n) s
  | .io off | .undescribed off => .ok (octaPart f off n) s
  | .memory | .nothing => .ok f s

/-- The low `n` bytes of a value stored into the vector table. -/
def storeVectors (vt : Sparse 8) (off : Nat) (v : Word) : Nat → Sparse 8
  | 0 => vt
  | n + 1 => Sparse.set (storeVectors vt off v n) (off + n) (v.extractLsb' (8 * n) 8)

/-- A device write of the low `n` bytes of a value. In the I/O megabytes the bytes are stored where memory answers; a block the
spec does not name takes nothing (log 18). -/
def deviceWrite (p : Place) (n : Nat) (v : Word) (s : State) : Res Unit :=
  match p with
  | .qic off => if n = 8 then .ok () { s with qic := s.qic.write off v (s.free slotMessage) } else .stop .narrowDevice
  | .timers second off =>
    if n = 8 then .ok () (s.setQit second ((s.qit second).write s.par off v)) else .stop .narrowDevice
  | .vectors off => .ok () { s with qic := { s.qic with vt := storeVectors s.qic.vt off v n } }
  | .regions off => .ok () { s with rgn := regionWrite s.rgn off (octaMerge (regionRead s.rgn off 0#64) off n v) }
  | .walker off =>
    let new := octaMerge (s.ptw.read off 0#64) off n v
    if off / 8 = 0xFF30 / 8 ∧ !ptAttrSupported new then .stop .ptAttr
    else .ok () { s with ptw := s.ptw.write off new }
  | .config b off =>
    .ok () { s with cfg := s.cfg.set b (configWrite (s.cfg.get b) off (octaMerge (configRead (s.cfg.get b) off 0#64) off n v)) }
  | .io pa => .ok () (busStore s pa v n)
  | .memory | .undescribed _ | .nothing => .ok () s

end Sys2Proof.Machine
end

