-- ==== Sys2Proof/Machine/Access.lean ====
section
/-! DEFINITION. Data accesses and instruction fetches at virtual addresses (spec/20_memory.md R104 to R112, R142). -/

namespace Sys2Proof.Machine

/-- The physical addresses of an access: the first `cut` bytes from `lo` on, the rest, in the next page, from `hi` on. -/
structure Span where
  lo : Nat
  cut : Nat
  hi : Nat
deriving DecidableEq, Repr

/-- The physical address of byte `k`. -/
def Span.addr (sp : Span) (k : Nat) : Nat := if k < sp.cut then sp.lo + k else sp.hi + (k - sp.cut)

/-- Bus Error for the lowest byte that nothing answers; of a store the loss may go unnoticed: one free choice for the whole store
(R104, R137; spec/93_implementation_defined.md U3). -/
def busCheck (acc : Access) (va : Word) (base first count : Nat) (s : State) : Res Unit :=
  match (List.range count).find? fun k =>
      s.port (va + BitVec.ofNat 64 (first + k)) (base + k) == .nothing &&
        (acc != .write || (s.free slotStore).getLsbD 0) with
  | some k => busError acc (va + BitVec.ofNat 64 (first + k)) s
  | none => .ok () s

/-- The bytes of an access of `n` bytes that lie in its first page. -/
def pageCut (va : Word) (n : Nat) : Nat := min n (2 ^ 13 - va.toNat % 2 ^ 13)

/-- The translation of an access of `n` bytes, of which a region's granularity sees `g`: both pages before any byte moves, the
lowest failing byte first (spec/21_memory_management.md R153, R201). -/
def spanOf (acc : Access) (g : Nat) (va : Word) (n : Nat) (s : State) : Res Span :=
  let cut := pageCut va n
  (translate acc g va va s).bind fun lo s =>
  (busCheck acc va lo 0 cut s).bind fun _ s =>
  if cut = n then .ok ⟨lo, cut, 0⟩ s
  else
    (translate acc g va (va + BitVec.ofNat 64 cut) s).bind fun hi s =>
    (busCheck acc va hi cut (n - cut) s).bind fun _ s => .ok ⟨lo, cut, hi⟩ s

/-- What answers byte `k` of an access. -/
def State.portOf (s : State) (va : Word) (sp : Span) (k : Nat) : Place := s.port (va + BitVec.ofNat 64 k) (sp.addr k)

/-- Some byte of a data access belongs to a device. -/
def State.touchesDevice (s : State) (va : Word) (sp : Span) (n : Nat) : Bool :=
  (List.range n).any fun k => s.portOf va sp k != .memory && s.portOf va sp k != .nothing

/-- An access is naturally aligned (R109). -/
def isAligned (va : Word) (n : Nat) : Bool := va.toNat % n == 0

/-- `MISALIGNED_DATA` (R109), looked at before the translation (log 45). -/
def alignCheck (acc : Access) (va : Word) (n : Nat) (s : State) : Res Unit :=
  if isAligned va n then .ok () s
  else match s.par.misaligned with
    | .bytewise => .ok () s
    | .refuse => .stop .misalignedData
    | .fault => .trap (Trap.access acc 3#8 va) s

/-- `MemRead(addr, n)` (R104). -/
def load (va : Word) (n : Nat) (s : State) : Res Word :=
  (alignCheck .read va n s).bind fun _ s =>
  (spanOf .read n va n s).bind fun sp s =>
  if s.touchesDevice va sp n then
    if isAligned va n then deviceRead (s.portOf va sp 0) n s else .stop .misalignedDevice
  else .ok (BitVec.ofNat 64 (s.mem.value sp.addr n)) s

/-- The low `n` bytes of a value stored in memory; a byte that nothing answers is lost (R137). -/
def storeBytes (s : State) (va : Word) (sp : Span) (v : Word) : Nat → State
  | 0 => s
  | n + 1 =>
    let s' := storeBytes s va sp v n
    if s.portOf va sp n == .memory then s'.storeByte (sp.addr n) (v.extractLsb' (8 * n) 8) else s'

/-- The entries in memory that describe the page of an address that the TLB translates. -/
def State.pageUse (s : State) (va : Word) : PageUse :=
  match s.tlbFind (vpnOf va) with
  | some e => ⟨e.pte, e.pmte⟩
  | none => ⟨none, none⟩

/-- A page stored to joins those whose bits M hardware has still to set (spec/21_memory_management.md R163; log 36). -/
def State.notePage (s : State) (va : Word) : State :=
  let u := s.pageUse va
  if u == ⟨none, none⟩ || s.dirty.contains u then s else { s with dirty := s.dirty ++ [u] }

/-- The pages of a store of `n` bytes noted. -/
def State.noteStore (s : State) (va : Word) (n : Nat) : State := (s.notePage va).notePage (va + BitVec.ofNat 64 (n - 1))

/-- `MemWrite(addr, n, v)` (R105), which answers where the bytes went. -/
def storeAt (va : Word) (n : Nat) (v : Word) (s : State) : Res Span :=
  (alignCheck .write va n s).bind fun _ s =>
  (spanOf .write n va n s).bind fun sp s =>
  if s.touchesDevice va sp n then
    if isAligned va n then (deviceWrite (s.portOf va sp 0) n v s).bind fun _ s => .ok sp (s.noteStore va n)
    else .stop .misalignedDevice
  else .ok sp ((storeBytes s va sp v n).noteStore va n)

/-- The capability tag of the granule of a physical address (R108). -/
def State.memTag (s : State) (pa : Nat) : Bool := Sparse.get s.tags (pa / 8) == 1#1

/-- The tag of a granule written by a capability store (R108). -/
def State.setMemTag (s : State) (pa : Nat) (tag : Bool) : State :=
  { s with tags := Sparse.set s.tags (pa / 8) (bit1 tag) }

/-- Byte `k` of a fetch: of memory, where none stored to since the last invalidate of the instruction cache is fetched (R142), or
of a device, which answers it as a read of one byte (R104 `MemFetch`, R112; log 18). -/
def fetchByte (va : Word) (sp : Span) (k : Nat) (s : State) : Res Nat :=
  if s.portOf va sp k == .memory then
    if Sparse.get s.stale (sp.addr k) == 1#1 then .stop .staleFetch else .ok (s.mem.byte (sp.addr k)).toNat s
  else (deviceRead (s.portOf va sp k) 1 s).bind fun v s => .ok (v.toNat % 256) s

/-- The little-endian value of the first `n` bytes of a fetch (R101). -/
def fetchValue (va : Word) (sp : Span) : Nat → State → Res Nat
  | 0, s => .ok 0 s
  | n + 1, s =>
    (fetchValue va sp n s).bind fun v s =>
    (fetchByte va sp n s).bind fun b s => .ok (v + b * 2 ^ (8 * n)) s

/-- The bits of `n` bytes of an instruction, of which a region's granularity sees `g` (R101, R104 `MemFetch`). -/
def fetchBytes (g : Nat) (va : Word) (n : Nat) (s : State) : Res Nat :=
  (spanOf .execute g va n s).bind fun sp s => fetchValue va sp n s

end Sys2Proof.Machine
end

