-- ==== Sys2Proof/Machine/Flags.lean ====
section
/-! DEFINITION. The result vectors of the compare instructions. Qupls2 has no flags register (spec/10_state.md R33): these
bit vectors are written to general registers and tested by branches. -/

namespace Sys2Proof.Machine

/-- A lane whose low eight bits are the given tests, test 0 lowest, and whose other bits are zero (spec/44_comparison.md
R441, D38). -/
def testBits {w : Nat} (t7 t6 t5 t4 t3 t2 t1 t0 : Bool) : BitVec w :=
  (bit1 t7 ++ bit1 t6 ++ bit1 t5 ++ bit1 t4 ++ bit1 t3 ++ bit1 t2 ++ bit1 t1 ++ bit1 t0 : BitVec 8).setWidth w

/-- Less than, signed or unsigned. -/
def lessThan {w : Nat} (signed : Bool) (a b : BitVec w) : Bool := if signed then a.slt b else a.ult b

/-- Less than or equal, signed or unsigned. -/
def lessEq {w : Nat} (signed : Bool) (a b : BitVec w) : Bool := if signed then a.sle b else a.ule b

/-- The compare vector of a lane: EQ NE LT LE GE GT BC BS from bit 0 (spec/44_comparison.md R441, R445). The bit tests of a bit
number outside the lane are free: bits 6 and 7 of `u`. -/
def cmpVector {w : Nat} (signed : Bool) (a b u : BitVec w) : BitVec w :=
  let inside := b.toNat < w
  testBits (if inside then a.getLsbD b.toNat else u.getLsbD 7) (if inside then !a.getLsbD b.toNat else u.getLsbD 6)
    (lessThan signed b a) (lessEq signed b a) (lessEq signed a b) (lessThan signed a b) (a != b) (a == b)

/-- The range vector of a lane: GEL GELE GL GLE and their complements (spec/44_comparison.md R442). -/
def rangeVector {w : Nat} (signed : Bool) (a b c : BitVec w) : BitVec w :=
  let gel := lessEq signed b a && lessThan signed a c
  let gele := lessEq signed b a && lessEq signed a c
  let gl := lessThan signed b a && lessThan signed a c
  let gle := lessThan signed b a && lessEq signed a c
  testBits (!gle) (!gl) (!gele) (!gel) gle gl gele gel

/-! ## Floating-point relations (spec/46_floating_point.md R551, R565) -/

/-- The bits of a float format. -/
def ffmtWidth : FFmt → Nat
  | .half => 16 | .single => 32 | .double => 64

/-- The fraction bits of a float format (R551). -/
def ffmtFrac : FFmt → Nat
  | .half => 10 | .single => 23 | .double => 52

/-- The exponent bits of a float format (R551). -/
def ffmtExp : FFmt → Nat
  | .half => 5 | .single => 8 | .double => 11

/-- The value as a number without its sign. -/
def fMagnitude (fmt : FFmt) (v : Word) : Nat := v.toNat % 2 ^ (ffmtWidth fmt - 1)

/-- The sign bit, bit F-1. -/
def fSign (fmt : FFmt) (v : Word) : Bool := v.getLsbD (ffmtWidth fmt - 1)

/-- The magnitude of infinity: the exponent all ones, the fraction zero. -/
def fInfMagnitude (fmt : FFmt) : Nat := (2 ^ ffmtExp fmt - 1) * 2 ^ ffmtFrac fmt

/-- A NaN: the exponent all ones, the fraction not zero. -/
def fIsNan (fmt : FFmt) (v : Word) : Bool := fInfMagnitude fmt < fMagnitude fmt v

/-- An infinity. -/
def fIsInf (fmt : FFmt) (v : Word) : Bool := fMagnitude fmt v == fInfMagnitude fmt

/-- The key by which ordered values compare: the magnitude with its sign, so that both zeros are equal. -/
def fKey (fmt : FFmt) (v : Word) : Int := if fSign fmt v then -(fMagnitude fmt v : Int) else fMagnitude fmt v

/-- Either operand is a NaN. -/
def fUnordered (fmt : FFmt) (a b : Word) : Bool := fIsNan fmt a || fIsNan fmt b

/-- Equal and ordered. -/
def fEq (fmt : FFmt) (a b : Word) : Bool := !fUnordered fmt a b && fKey fmt a == fKey fmt b

/-- Less than and ordered. -/
def fLt (fmt : FFmt) (a b : Word) : Bool := !fUnordered fmt a b && fKey fmt a < fKey fmt b

/-- The FCMP vector: EQ NE GT UGT GE UGE LT ULT LE ULE GL UGL ORD UN from bit 0 (spec/46_floating_point.md R565). With an
infinite operand the bits 2, 3, 4, 6 and 10, whose printed test names `inf`, are those of the free value `u`. -/
def fcmpVector (fmt : FFmt) (a b u : Word) : Word :=
  let un := fUnordered fmt a b
  let eq := fEq fmt a b
  let lt := fLt fmt a b
  let gt := fLt fmt b a
  let inf := fIsInf fmt a || fIsInf fmt b
  let open' (k : Nat) (t : Bool) : Bool := if inf then u.getLsbD k else t
  (bit1 un ++ bit1 (!un) ++ bit1 (un || !eq) ++ bit1 (open' 10 (!un && !eq)) ++
    bit1 (un || eq || lt) ++ bit1 (eq || lt) ++ bit1 (un || lt) ++ bit1 (open' 6 lt) ++
    bit1 (un || eq || gt) ++ bit1 (open' 4 (eq || gt)) ++ bit1 (open' 3 (un || gt)) ++ bit1 (open' 2 gt) ++
    bit1 (!eq) ++ bit1 eq : BitVec 14).setWidth 64

end Sys2Proof.Machine
end

