-- ==== Sys2Proof/Machine/Forms.lean ====
section
/-! DEFINITION. What the instructions of one operand form share: reading the operands with their checks, applying a function
to every lane, writing the target (spec/30_encoding.md R223 to R228). -/

namespace Sys2Proof.Machine

/-- A function of the lanes of three operands and a free word. -/
abbrev LaneFn := (w : Nat) → BitVec w → BitVec w → BitVec w → BitVec w → BitVec w

/-- The register form: three sources, the check of the target, a lane function, the write (R223, R231). -/
def lanes3 (f : R3) (g : LaneFn) (s : State) : Res Unit :=
  (operand .a f.ra s).bind fun a s =>
  (operand .b f.rb s).bind fun b s =>
  (operand .c f.rc s).bind fun c s =>
  (target f.rt s).bind fun _ s =>
  finishWrite f.rt 6 (mapLanes f.prec g a b c (s.free slotResult)) s

/-- The register form with the second operation of Op4 on Rc (R230). -/
def fused (f : R3) (g : (w : Nat) → BitVec w → BitVec w → BitVec w → BitVec w) (res : (w : Nat) → BitVec w → BitVec w)
    (s : State) : Res Unit :=
  (requireDefined (fuseDefined f.op4) s).bind fun _ s =>
  lanes3 f (fun w a b c u => res w (fuse f.op4 f.nc (g w a b u) c)) s

/-- The one-operand form (spec/40_arithmetic.md R313). -/
def lanes1 (f : R1) (g : (w : Nat) → BitVec w → BitVec w) (s : State) : Res Unit :=
  (operand .a f.ra s).bind fun a s =>
  (target f.rt s).bind fun _ s =>
  finishWrite f.rt 6 (mapLanes f.prec (fun w a _ _ _ => g w a) a 0#64 0#64 0#64) s

/-- A register-immediate instruction of either length, with its immediate in the three extensions (R225, R226, R236). -/
structure ImmView where
  sext : Word
  zext : Word
  ones : Word
  prec : Prec
  na : Bool
  ra : BitVec 6
  nt : Bool
  rt : BitVec 6
  len : Nat
deriving DecidableEq, Repr

/-- The long form: Prec, Na and Nt are fields. -/
def viewLong (f : RI) : ImmView :=
  ⟨immSext f.imm, immZext f.imm, immOnes f.imm, f.prec, f.na, f.ra, f.nt, f.rt, immBytes f.imm⟩

/-- The 24-bit form: W = 64, no sign control (R226). -/
def viewShort (f : RI24) : ImmView :=
  ⟨f.imm.signExtend 64, f.imm.setWidth 64, ~~~((~~~f.imm).setWidth 64), .octa, false, f.ra.setWidth 6, false,
    f.rt.setWidth 6, 3⟩

/-- Either form. -/
def viewOf : RIForm → ImmView
  | .short f => viewShort f
  | .long f => viewLong f

/-- The register-immediate form: every lane uses the low bits of the one extended immediate (spec/92_eei_decisions.md
D32). -/
def lanesImm (v : ImmView) (imm : Word) (g : (w : Nat) → BitVec w → BitVec w → BitVec w → BitVec w) (s : State) :
    Res Unit :=
  (operand .a v.ra s).bind fun a s =>
  (target v.rt s).bind fun _ s =>
  finishWrite v.rt v.len
    (mapLanes v.prec (fun w a _ _ u => g w a (imm.setWidth w) u) a 0#64 0#64 (s.free slotResult)) s

/-- The address of the scaled indexed form (spec/47_load_store.md R631). -/
def indexed (f : LS) (s : State) : Res Word :=
  (operand .a f.ra s).bind fun a s =>
  (operand .b f.rb s).bind fun b s => .ok (indexedAddr a b f.sc (dispSext f.disp)) s

end Sys2Proof.Machine
end

