-- ==== Sys2Proof/Machine/Arith.lean ====
section
/-! DEFINITION. Arithmetic instructions (spec/40_arithmetic.md). -/

namespace Sys2Proof.Machine

/-! ## Absolute value, addition, subtraction (R301 to R309, R329) -/

/-- The absolute value of a lane; that of the most negative number is itself (R301). -/
def absLane {w : Nat} (v : BitVec w) : BitVec w := if v.msb then -v else v

/-- ABS (R301). -/
def execAbs (f : R3) (s : State) : Host.Outcome State Fault Refusal :=
  ((requireDefined (f.op4 == 3#4) s).bind fun _ s =>
   lanes3 f (fun _ a b c _ => neg f.nt (absLane (neg f.na a + neg f.nb b + neg f.nc c))) s).finish

/-- ADD (R303). -/
def execAdd (f : R3) (s : State) : Host.Outcome State Fault Refusal :=
  ((require (f.op4 != 11#4) .addgc s).bind fun _ s =>
   fused f (fun _ a b _ => neg f.na a + neg f.nb b) (fun _ => neg f.nt) s).finish

/-- The short register form: two registers, 64 bits, no sign control (R302). -/
def short3 (f : R24) (g : Word → Word → Word) (s : State) : Res Unit :=
  (operand .a (f.ra.setWidth 6) s).bind fun a s =>
  (operand .b (f.rb.setWidth 6) s).bind fun b s =>
  (target (f.rt.setWidth 6) s).bind fun _ s => finishWrite (f.rt.setWidth 6) 3 (g a b) s

/-- ADD in 24 bits, an encoding that AND claims too, under `OP16_SHORT`; its operands are read from the word being executed
(R302; spec/90_conflicts.md C26; log 34). -/
def execAdd24 (s : State) : Host.Outcome State Fault Refusal :=
  Res.finish (match s.par.op16 with
    | .refuse => Res.stop .contestedOpcode
    | .add => short3 (.ofWord s.ir) (fun a b => a + b) s
    | .and => short3 (.ofWord s.ir) (fun a b => a &&& b) s)

/-- ADDI (R304). -/
def execAddi (f : RIForm) (s : State) : Host.Outcome State Fault Refusal :=
  (lanesImm (viewOf f) (viewOf f).sext (fun _ a i _ => neg (viewOf f).nt (neg (viewOf f).na a + i)) s).finish

/-- A register shifted left and an unsigned immediate (R305 to R308). -/
def addShifted (f : RIForm) (k : Nat) (s : State) : Res Unit :=
  lanesImm (viewOf f) (viewOf f).zext (fun _ a i _ => neg (viewOf f).nt (neg (viewOf f).na a <<< k + i)) s

/-- ADD2UI (R305). -/
def execAdd2ui (f : RIForm) (s : State) : Host.Outcome State Fault Refusal := (addShifted f 1 s).finish
/-- ADD4UI (R306). -/
def execAdd4ui (f : RIForm) (s : State) : Host.Outcome State Fault Refusal := (addShifted f 2 s).finish
/-- ADD8UI (R307). -/
def execAdd8ui (f : RIForm) (s : State) : Host.Outcome State Fault Refusal := (addShifted f 3 s).finish
/-- ADD16UI (R308). -/
def execAdd16ui (f : RIForm) (s : State) : Host.Outcome State Fault Refusal := (addShifted f 4 s).finish

/-- SUBFI (R329). -/
def execSubfi (f : RIForm) (s : State) : Host.Outcome State Fault Refusal :=
  (lanesImm (viewOf f) (viewOf f).sext (fun _ a i _ => neg (viewOf f).nt (i - neg (viewOf f).na a)) s).finish

/-- An immediate under `AUIIP_EXT`, given in both extensions and with the top bit of its field (R309). -/
def auiipImm (rule : AuiipExt) (zext sext : Word) (top : Bool) : Option Word :=
  match rule with
  | .zero => some zext
  | .sign => some sext
  | .refuse => if top then none else some zext

/-- The instruction pointer plus an immediate (R309). -/
def auiip (imm : Option Word) (nt : Bool) (rt : BitVec 6) (len : Nat) (s : State) : Res Unit :=
  match imm with
  | none => .stop .auiipExtension
  | some i => (target rt s).bind fun _ s => finishWrite rt len (neg nt (s.ip + i)) s

/-- The long form of AUIIP (R309). -/
def auiipLong (f : Auiip) (s : State) : Res Unit :=
  auiip (auiipImm s.par.auiipExt (immZext f.imm) (immSext f.imm) (immTop f.imm)) f.nt f.rt (immBytes f.imm) s

/-- AUIIP (R309). -/
def execAuiip (f : AuiipForm) (s : State) : Host.Outcome State Fault Refusal :=
  (match f with
   | .short f =>
     auiip (auiipImm s.par.auiipExt (f.imm.setWidth 64) (f.imm.signExtend 64) f.imm.msb) false (f.rt.setWidth 6) 3 s
   | .long f => auiipLong f s).finish

/-! ## Character index (R310, R311) -/

/-- The mask operation on an element (R310). -/
def ndxMask {w : Nat} (op2 : BitVec 2) (mask : BitVec 8) (a : BitVec w) : BitVec w :=
  match op2.toNat with
  | 0 => a
  | 1 => a &&& mask.setWidth w
  | 2 => a ||| mask.setWidth w
  | _ => a ^^^ mask.setWidth w

/-- The index of the first element, from the low end, that is the key; -1 where none is (R310). -/
def ndxFind (w : Nat) (op2 : BitVec 2) (mask : BitVec 8) (a : Word) (key : BitVec w) : Word :=
  match (List.range (64 / w)).find? fun k => ndxMask op2 mask (a.extractLsb' (w * k) w) == key with
  | some k => BitVec.ofNat 64 k
  | none => BitVec.allOnes 64

/-- The character index instructions: elements of `w` bits (R310, R311). -/
def ndx (w : Nat) (f : Ndx) (s : State) : Res Unit :=
  (require (!f.bi) .ndxImmediate s).bind fun _ s =>
  (operand .a f.ra s).bind fun a s =>
  (operand .b f.rb s).bind fun b s =>
  (target f.rt s).bind fun _ s =>
  finishWrite f.rt 6 (neg f.nt (ndxFind w f.op2 f.mask (neg f.na a) ((neg f.nb b).setWidth w))) s

/-- BYTENDX (R310). -/
def execBytendx (f : Ndx) (s : State) : Host.Outcome State Fault Refusal := (ndx 8 f s).finish
/-- WYDENDX (R311). -/
def execWydendx (f : Ndx) (s : State) : Host.Outcome State Fault Refusal := (ndx 16 f s).finish
/-- TETRANDX (R311). -/
def execTetrandx (f : Ndx) (s : State) : Host.Outcome State Fault Refusal := (ndx 32 f s).finish

/-! ## CHK (R312) -/

/-- The relation that lets a check pass; none for the reserved codes (R312). -/
def chkPasses (signed : Bool) (op4 : BitVec 4) (a b c cpl canary : Word) : Option Bool :=
  let ge := lessEq signed b a
  let gt := lessThan signed b a
  let lt := lessThan signed a c
  let le := lessEq signed a c
  match op4.toNat with
  | 0 => some (ge && lt)
  | 1 => some (ge && le)
  | 2 => some (gt && lt)
  | 3 => some (gt && le)
  | 4 => some !(ge && lt)
  | 5 => some !(ge && le)
  | 6 => some !(gt && lt)
  | 7 => some !(gt && le)
  | 8 => some (lessEq signed cpl a)
  | 9 => some (lessEq signed a cpl)
  | 10 => some (a == canary)
  | _ => none

/-- The exception of a failed check: its type is the info, and the saved address lies `offs` parcels on (R312). -/
def chkTrap (f : Chk) (s : State) : Trap :=
  { Trap.plain Config.causeChk with
    info := some (f.op4.setWidth 8)
    eip := some (s.ip + 3#64 * f.offs.setWidth 64) }

/-- CHK and CHKU (R312). -/
def check (signed : Bool) (f : Chk) (s : State) : Res Unit :=
  (requireDefined (f.op4.toNat < 11) s).bind fun _ s =>
  (operand .a f.ra s).bind fun a s =>
  (operand .b f.rb s).bind fun b s =>
  (operand .c f.rc s).bind fun c s =>
  match chkPasses signed f.op4 (neg f.na a) (neg f.nb b) (neg f.nc c) ((srCpl s.sr).setWidth 64) (s.gprPhys 53#6) with
  | none => raiseUnimplemented s
  | some true => .ok () (s.advance 6)
  | some false => .trap (chkTrap f s) s

/-- CHK (R312). -/
def execChk (f : Chk) (s : State) : Host.Outcome State Fault Refusal := (check true f s).finish
/-- CHKU (R312). -/
def execChku (f : Chk) (s : State) : Host.Outcome State Fault Refusal := (check false f s).finish

/-! ## Counting and the square root (R313 to R319, R323) -/

/-- How many bits from the top of a lane equal `b` (R314, R315). -/
def leading {w : Nat} (b : Bool) (v : BitVec w) : Nat := ((List.range w).takeWhile fun i => v.getMsbD i == b).length

/-- How many bits from the bottom of a lane are zero (R319). -/
def trailingZeros {w : Nat} (v : BitVec w) : Nat := ((List.range w).takeWhile fun i => !v.getLsbD i).length

/-- How many bits of a lane are one (R318). -/
def population {w : Nat} (v : BitVec w) : Nat := ((List.range w).filter fun i => v.getLsbD i).length

/-- The largest `q` below `2 ^ k` with `(r + q)² ≤ a`, added to `r`, bit by bit. -/
def isqrtBits (a : Nat) : Nat → Nat → Nat
  | 0, r => r
  | k + 1, r => isqrtBits a k (if (r + 2 ^ k) * (r + 2 ^ k) ≤ a then r + 2 ^ k else r)

/-- The floor of the square root of an unsigned lane (R323). -/
def isqrt {w : Nat} (v : BitVec w) : BitVec w := BitVec.ofNat w (isqrtBits v.toNat (w / 2) 0)

/-- A counting instruction: Na complements its source (spec/30_encoding.md R229), Nt negates the count (R313; log 30). -/
def count (f : R1) (g : (w : Nat) → BitVec w → Nat) (s : State) : Res Unit :=
  (require (f.op4 == 0#4) .drawnField s).bind fun _ s =>
  lanes1 f (fun w a => neg f.nt (BitVec.ofNat w (g w (com f.na a)))) s

/-- CNTLZ (R315). -/
def execCntlz (f : R1) (s : State) : Host.Outcome State Fault Refusal := (count f (fun _ => leading false) s).finish
/-- CNTLO (R314). -/
def execCntlo (f : R1) (s : State) : Host.Outcome State Fault Refusal := (count f (fun _ => leading true) s).finish
/-- CNTPOP (R318). -/
def execCntpop (f : R1) (s : State) : Host.Outcome State Fault Refusal := (count f (fun _ => population) s).finish
/-- CNTTZ (R319). -/
def execCnttz (f : R1) (s : State) : Host.Outcome State Fault Refusal := (count f (fun _ => trailingZeros) s).finish

/-- SQRT (R323). -/
def execSqrt (f : R1) (s : State) : Host.Outcome State Fault Refusal :=
  ((require (f.op4 == 0#4) .drawnField s).bind fun _ s =>
   lanes1 f (fun _ a => neg f.nt (isqrt (neg f.na a))) s).finish

/-! ## CPUID and the control registers (R316, R317) -/

/-- A row of the information table (R316): the core's number, a row the platform gives, or a free one (spec/92_eei_decisions.md
D33; log 25). -/
def cpuInfo (p : Params) (idx : Word) : Word :=
  if idx == 0#64 then p.coreno
  else match p.cpuid.find? fun r => r.1 == idx with
    | some r => r.2
    | none => Config.cpuidRow idx

/-- CPUID (R316). -/
def execCpuid (f : Cpuid) (s : State) : Host.Outcome State Fault Refusal :=
  ((require (!f.nt) .signControl s).bind fun _ s =>
   (operand .a f.ra s).bind fun a s =>
   (operand .b f.rb s).bind fun b s =>
   (target f.rt s).bind fun _ s =>
   finishWrite f.rt 6 (cpuInfo s.par (f.uimm.setWidth 64 + neg f.na a + neg f.nb b)) s).finish

/-- A CSR number above the current mode raises Privilege Violation (spec/10_state.md R34). -/
def csrCheck (regno : BitVec 14) (s : State) : Res Unit :=
  if (csrLevel regno).ule s.mode then .ok () s else raisePrivilege s

/-- The register read into the target and, where `new` gives a value, written; the target is the one the old mode names
(R317; spec/70_reset_and_hazards.md R1022). -/
def csrFinish (regno : BitVec 14) (rt : BitVec 6) (new : Word → Option Word) (s : State) : Res Unit :=
  let c := csrName regno
  let old := s.csrValue c
  let s := (s.csrAfterRead c).setGpr rt old
  .ok () ((match new old with | none => s | some v => s.csrSet c v).advance 6)

/-- The register forms (R317). -/
def csrReg (f : Csr) (new : Word → Word → Option Word) (s : State) : Res Unit :=
  (csrCheck f.regno s).bind fun _ s =>
  (require (!f.na && !f.nt) .signControl s).bind fun _ s =>
  (operand .a f.ra s).bind fun v s =>
  (target f.rt s).bind fun _ s => csrFinish f.regno f.rt (new v) s

/-- The immediate forms (R317). -/
def csrImm (f : CsrImm) (new : Word → Word → Option Word) (s : State) : Res Unit :=
  (csrCheck f.regno s).bind fun _ s =>
  (require (!f.nt) .signControl s).bind fun _ s =>
  (target f.rt s).bind fun _ s => csrFinish f.regno f.rt (new (f.uimm.setWidth 64)) s

/-- CSRRD (R317). -/
def execCsrrd (f : Csr) (s : State) : Host.Outcome State Fault Refusal := (csrReg f (fun _ _ => none) s).finish
/-- CSRRW (R317). -/
def execCsrrw (f : Csr) (s : State) : Host.Outcome State Fault Refusal := (csrReg f (fun v _ => some v) s).finish
/-- CSRRS (R317). -/
def execCsrrs (f : Csr) (s : State) : Host.Outcome State Fault Refusal :=
  (csrReg f (fun v old => some (old ||| v)) s).finish
/-- CSRRC (R317). -/
def execCsrrc (f : Csr) (s : State) : Host.Outcome State Fault Refusal :=
  (csrReg f (fun v old => some (old &&& ~~~v)) s).finish
/-- CSRRW with an immediate (R317). -/
def execCsrrwImm (f : CsrImm) (s : State) : Host.Outcome State Fault Refusal := (csrImm f (fun v _ => some v) s).finish
/-- CSRRS with an immediate (R317). -/
def execCsrrsImm (f : CsrImm) (s : State) : Host.Outcome State Fault Refusal :=
  (csrImm f (fun v old => some (old ||| v)) s).finish
/-- CSRRC with an immediate (R317). -/
def execCsrrcImm (f : CsrImm) (s : State) : Host.Outcome State Fault Refusal :=
  (csrImm f (fun v old => some (old &&& ~~~v)) s).finish

/-! ## LOADA, PTRDIF, AVG, MAJ (R320 to R322) -/

/-- LOADA (R320). -/
def execLoada (f : LS) (s : State) : Host.Outcome State Fault Refusal :=
  ((indexed f s).bind fun a s =>
   (target f.rt s).bind fun _ s => finishWrite f.rt (dispBytes f.disp) a s).finish

/-- The third operand of PTRDIF and AVG: Rc is a register below Op4 = 8 only (R321). -/
def scaleOperand (f : R3) (s : State) : Res Word :=
  if f.op4.getLsbD 3 then .ok 0#64 s else operand .c f.rc s

/-- The shift count of a lane: the Rc field itself where Op4 is 8 or more, else the low six bits of the lane of Rc (R321). -/
def scaleCount (f : R3) {w : Nat} (c : BitVec w) : Nat :=
  if f.op4.getLsbD 3 then f.rc.toNat else (neg f.nc c).toNat % 64

/-- The shape of PTRDIF and AVG (R321). -/
def scaled (f : R3) (g : (w : Nat) → BitVec w → BitVec w → Nat → BitVec w) (s : State) : Res Unit :=
  (operand .a f.ra s).bind fun a s =>
  (operand .b f.rb s).bind fun b s =>
  (scaleOperand f s).bind fun c s =>
  (target f.rt s).bind fun _ s =>
  finishWrite f.rt 6
    (mapLanes f.prec (fun w a b c _ => neg f.nt (g w (neg f.na a) (neg f.nb b) (scaleCount f c))) a b c 0#64) s

/-- PTRDIF (R321). -/
def execPtrdif (f : R3) (s : State) : Host.Outcome State Fault Refusal :=
  (scaled f (fun _ a b n => absLane (a - b) >>> n) s).finish
/-- AVG, truncated (R321). -/
def execAvgTrunc (f : R3) (s : State) : Host.Outcome State Fault Refusal :=
  (scaled f (fun _ a b n => (a + b).sshiftRight n) s).finish
/-- AVG, rounded up (R321). -/
def execAvgRound (f : R3) (s : State) : Host.Outcome State Fault Refusal :=
  (scaled f (fun w a b n => (a + b + BitVec.ofNat w (2 ^ n - 1)).sshiftRight n) s).finish

/-- MAJ (R322). -/
def execMaj (f : R3) (s : State) : Host.Outcome State Fault Refusal :=
  (lanes3 f (fun _ a b c _ =>
    let a := com f.na a
    let b := com f.nb b
    let c := com f.nc c
    com f.nt ((a &&& b) ||| (a &&& c) ||| (b &&& c))) s).finish

end Sys2Proof.Machine
end

