-- ==== Sys2Proof/Machine/Float.lean ====
section
/-! DEFINITION. Binary floating point (spec/46_floating_point.md). -/

namespace Sys2Proof.Machine

/-! ## Operands, rounding, results (R555 to R558) -/

/-- The sign bit of a format. -/
def fSignMask (fmt : FFmt) : Word := 1#64 <<< (ffmtWidth fmt - 1)

/-- Sign control of floats: the sign bit inverted (R557). -/
def fopnd (fmt : FFmt) (n : Bool) (v : Word) : Word := if n then v ^^^ fSignMask fmt else v

/-- The F-bit value of a register: the bits above are ignored (R555). -/
def fval (fmt : FFmt) (v : Word) : BitVec (ffmtWidth fmt) := v.setWidth (ffmtWidth fmt)

/-- The rounding mode of a field: 7 takes the constant `FCR_RM`, 5 and 6 are reserved (R558). -/
def roundingMode (fcrRm rm : BitVec 3) : Option (BitVec 3) :=
  match rm.toNat with
  | 5 => none
  | 6 => none
  | 7 => some fcrRm
  | _ => some rm

/-- The rounding mode of an instruction, refused where it has none. -/
def rounding (rm : BitVec 3) (s : State) : Res (BitVec 3) :=
  match roundingMode s.par.fcrRm rm with
  | some m => .ok m s
  | none => .stop .roundingMode

/-- Bit 63 of a boxed result (R555; spec/93_implementation_defined.md U26). -/
def nanboxTop (rule : NanboxSign) (sign free : Bool) : Bool :=
  match rule with
  | .ones => true
  | .sign => sign
  | .unspec => free

/-- A result in its register: bits 62..F ones (R555). -/
def boxed (fmt : FFmt) (rule : NanboxSign) (u : Word) (v : Word) : Word :=
  let top := nanboxTop rule (fSign fmt v) u.msb
  match fmt with
  | .double => v
  | .single => bit1 top ++ (BitVec.allOnes 31 ++ v.setWidth 32)
  | .half => bit1 top ++ (BitVec.allOnes 47 ++ v.setWidth 16)

/-- The end of a float instruction that writes a float. -/
def writeFloat (fmt : FFmt) (nt : Bool) (rt : BitVec 6) (v : Word) (s : State) : Res Unit :=
  finishWrite rt 6 (boxed fmt s.par.nanboxSign (s.free slotResult) (fopnd fmt nt v)) s

/-! ## Arithmetic (R563, R564, R568, R569, R572, R567) -/

/-- Multiply and add; `sub` negates the third operand (R568, R569). -/
def fmaOp (sub : Bool) (f : Flt3) (s : State) : Res Unit :=
  (rounding f.rm s).bind fun rm s =>
  (operand .a f.ra s).bind fun a s =>
  (operand .b f.rb s).bind fun b s =>
  (operand .c f.rc s).bind fun c s =>
  (target f.rt s).bind fun _ s =>
  writeFloat f.fmt f.nt f.rt
    ((Config.fpFma (ffmtWidth f.fmt) rm (fval f.fmt (fopnd f.fmt f.na a)) (fval f.fmt (fopnd f.fmt f.nb b))
      (fval f.fmt (fopnd f.fmt sub c))).setWidth 64) s

/-- Addition; `sub` negates the second operand (R563, R564). -/
def faddOp (sub : Bool) (f : FltAdd) (s : State) : Res Unit :=
  (rounding f.rm s).bind fun rm s =>
  (operand .a f.ra s).bind fun a s =>
  (operand .b f.rb s).bind fun b s =>
  (target f.rt s).bind fun _ s =>
  writeFloat f.fmt f.nt f.rt
    ((Config.fpAdd (ffmtWidth f.fmt) rm (fval f.fmt (fopnd f.fmt f.na a))
      (fval f.fmt (fopnd f.fmt sub b))).setWidth 64) s

/-- Square root: the sign bit of the result is cleared (R572). -/
def fsqrtOp (f : Flt1) (s : State) : Res Unit :=
  (rounding f.rm s).bind fun rm s =>
  (operand .a f.ra s).bind fun a s =>
  (target f.rt s).bind fun _ s =>
  writeFloat f.fmt f.nt f.rt
    ((Config.fpSqrt (ffmtWidth f.fmt) rm (fval f.fmt (fopnd f.fmt f.na a))).setWidth 64 &&& ~~~(fSignMask f.fmt)) s

/-- The Prc3 code of a format (R567). -/
def fcosCode : FFmt → BitVec 3
  | .half => 0#3 | .single => 1#3 | .double => 2#3

/-- Cosine (R567). -/
def fcosOp (f : FltCos) (s : State) : Res Unit :=
  (require (f.prc3 == fcosCode f.fmt) .fcosPrecision s).bind fun _ s =>
  (rounding f.rm s).bind fun rm s =>
  (operand .a f.ra s).bind fun a s =>
  (target f.rt s).bind fun _ s =>
  writeFloat f.fmt f.nt f.rt ((Config.fpCos (ffmtWidth f.fmt) rm (fval f.fmt (fopnd f.fmt f.na a))).setWidth 64) s

/-- The bias of a format's exponent (R551). -/
def ffmtBias (fmt : FFmt) : Nat := 2 ^ (ffmtExp fmt - 1) - 1

/-- A float rounded toward zero to a whole number; infinities, NaNs and whole numbers are unchanged, and the sign is kept
(R573; log 26). -/
def ftruncValue (fmt : FFmt) (v : Word) : Word :=
  let e := fMagnitude fmt v / 2 ^ ffmtFrac fmt
  if e < ffmtBias fmt then v &&& fSignMask fmt
  else if ffmtBias fmt + ffmtFrac fmt ≤ e then v
  else v &&& ~~~(BitVec.ofNat 64 (2 ^ (ffmtFrac fmt - (e - ffmtBias fmt)) - 1))

/-- FTRUNC, which uses no rounding mode (R573). -/
def ftruncOp (f : Flt1) (s : State) : Res Unit :=
  (operand .a f.ra s).bind fun a s =>
  (target f.rt s).bind fun _ s =>
  writeFloat f.fmt f.nt f.rt (ftruncValue f.fmt (fopnd f.fmt f.na a)) s

/-- Absolute value; `negative` sets the sign bit instead (R561, R562). -/
def fabsOp (negative : Bool) (f : FltAbs) (s : State) : Res Unit :=
  (operand .a f.ra s).bind fun a s =>
  (target f.rt s).bind fun _ s =>
  writeFloat f.fmt false f.rt
    (if negative then fopnd f.fmt f.na a ||| fSignMask f.fmt else fopnd f.fmt f.na a &&& ~~~(fSignMask f.fmt)) s

/-! ## Comparison (R565, R570, R571) -/

/-- A float comparison, whose result is an integer (R565). -/
def fcompare (f : FltCmp) (g : Word → Word → Word → Word) (s : State) : Res Unit :=
  (operand .a f.ra s).bind fun a s =>
  (operand .b f.rb s).bind fun b s =>
  (target f.rt s).bind fun _ s =>
  finishWrite f.rt 6 (neg f.nt (g (fopnd f.fmt f.na a) (fopnd f.fmt f.nb b) (s.free slotResult))) s

/-- FCMP (R565). -/
def fcmpOp (f : FltCmp) (s : State) : Res Unit := fcompare f (fcmpVector f.fmt) s
/-- FSLT: false for a NaN (R570). -/
def fsltOp (f : FltCmp) (s : State) : Res Unit := fcompare f (fun a b _ => (bit1 (fLt f.fmt a b)).setWidth 64) s
/-- FSNE: free for a NaN (R571). -/
def fsneOp (f : FltCmp) (s : State) : Res Unit :=
  fcompare f (fun a b u =>
    (bit1 (if fUnordered f.fmt a b then u.getLsbD 0 else !fEq f.fmt a b)).setWidth 64) s

/-! ## The instructions -/

/-- FMA (R568). -/
def execFma (f : Flt3) (s : State) : Host.Outcome State Fault Refusal := (fmaOp false f s).finish
/-- FMS (R569). -/
def execFms (f : Flt3) (s : State) : Host.Outcome State Fault Refusal := (fmaOp true f s).finish
/-- FADD (R563). -/
def execFadd (f : FltAdd) (s : State) : Host.Outcome State Fault Refusal := (faddOp false f s).finish
/-- FSUB (R564). -/
def execFsub (f : FltAdd) (s : State) : Host.Outcome State Fault Refusal := (faddOp true f s).finish
/-- FSNE (R571). -/
def execFsne (f : FltCmp) (s : State) : Host.Outcome State Fault Refusal := (fsneOp f s).finish
/-- FSLT (R570). -/
def execFslt (f : FltCmp) (s : State) : Host.Outcome State Fault Refusal := (fsltOp f s).finish
/-- FCMP (R565). -/
def execFcmp (f : FltCmp) (s : State) : Host.Outcome State Fault Refusal := (fcmpOp f s).finish
/-- FABS (R561). -/
def execFabs (f : FltAbs) (s : State) : Host.Outcome State Fault Refusal := (fabsOp false f s).finish
/-- FNABS (R562). -/
def execFnabs (f : FltAbs) (s : State) : Host.Outcome State Fault Refusal := (fabsOp true f s).finish
/-- FSQRT (R572). -/
def execFsqrt (f : Flt1) (s : State) : Host.Outcome State Fault Refusal := (fsqrtOp f s).finish
/-- FTRUNC (R573). -/
def execFtrunc (f : Flt1) (s : State) : Host.Outcome State Fault Refusal := (ftruncOp f s).finish
/-- FCOS (R567). -/
def execFcos (f : FltCos) (s : State) : Host.Outcome State Fault Refusal := (fcosOp f s).finish

/-! ## The 48-bit word with root opcode 58 (R553) -/

/-- The single-precision instruction that a word with root opcode 58 holds under `OP58_48 = flt32`. -/
def single58 (w : BitVec 96) (s : State) : Res Unit :=
  match decodeFlt w with
  | .instr (.fma f) => fmaOp false f s
  | .instr (.fms f) => fmaOp true f s
  | .instr (.fadd f) => faddOp false f s
  | .instr (.fsub f) => faddOp true f s
  | .instr (.fsne f) => fsneOp f s
  | .instr (.fslt f) => fsltOp f s
  | .instr (.fcmp f) => fcmpOp f s
  | .instr (.fabs f) => fabsOp false f s
  | .instr (.fnabs f) => fabsOp true f s
  | .instr (.fsqrt f) => fsqrtOp f s
  | .instr (.ftrunc f) => ftruncOp f s
  | .instr (.fcos f) => fcosOp f s
  | .unimplemented _ => raiseUnimplemented s
  | _ => Res.stop .mapOnly

/-- The word whose bits above the root opcode 58 are given. -/
def opcode58Word (payload : BitVec 39) : BitVec 96 := place 9 payload ||| place 2 58#7 ||| place 0 1#2

/-- The 48-bit word with root opcode 58, which AUIIP and single precision both claim, under `OP58_48` (R553; spec/90_conflicts.md
C28). -/
def execOpcode58 (payload : BitVec 39) (s : State) : Host.Outcome State Fault Refusal :=
  let w := opcode58Word payload
  Res.finish (match s.par.op58 with
    | .refuse => Res.stop .contestedOpcode
    | .auiip => auiipLong ⟨.i23 (fld w 25 23), flag w 15, fld w 9 6⟩ s
    | .flt32 => single58 w s)

end Sys2Proof.Machine
end

