-- ==== Sys2Proof/Machine/LoadStore.lean ====
section
/-! DEFINITION. Loads, stores and the cache instruction (spec/47_load_store.md). -/

namespace Sys2Proof.Machine

/-! ## Loads (R632, R635 to R644) -/

/-- The address of the 24-bit form (R631). -/
def shortIndexed (f : LS24) (s : State) : Res Word :=
  (operand .a (f.ra.setWidth 6) s).bind fun a s => .ok (shortAddr a f.disp) s

/-- A load: the address, the check of the target, the access of `n` bytes, the write; the register's tag is cleared
(R632, R635). `g` extends what was read. -/
def loadReg (addr : State → Res Word) (rt : BitVec 6) (n len : Nat) (g : Word → State → Word) (s : State) : Res Unit :=
  (addr s).bind fun ea s =>
  (target rt s).bind fun _ s =>
  (load ea n s).bind fun v s => finishWrite rt len (g v s) s

/-- A load in the scaled indexed form. -/
def loadLS (f : LS) (n : Nat) (g : Word → State → Word) (s : State) : Res Unit :=
  loadReg (indexed f) f.rt n (dispBytes f.disp) g s

/-- LDB (R636). -/
def execLdb (f : LS) (s : State) : Host.Outcome State Fault Refusal := (loadLS f 1 (fun v _ => sextLow 1 v) s).finish
/-- LDBU (R637). -/
def execLdbu (f : LS) (s : State) : Host.Outcome State Fault Refusal := (loadLS f 1 (fun v _ => zextLow 1 v) s).finish
/-- LDW (R638). -/
def execLdw (f : LS) (s : State) : Host.Outcome State Fault Refusal := (loadLS f 2 (fun v _ => sextLow 2 v) s).finish
/-- LDWU (R639). -/
def execLdwu (f : LS) (s : State) : Host.Outcome State Fault Refusal := (loadLS f 2 (fun v _ => zextLow 2 v) s).finish
/-- LDT (R640). -/
def execLdt (f : LS) (s : State) : Host.Outcome State Fault Refusal := (loadLS f 4 (fun v _ => sextLow 4 v) s).finish
/-- LDTU (R641). -/
def execLdtu (f : LS) (s : State) : Host.Outcome State Fault Refusal := (loadLS f 4 (fun v _ => zextLow 4 v) s).finish
/-- LDO (R642). -/
def execLdo (f : LS) (s : State) : Host.Outcome State Fault Refusal := (loadLS f 8 (fun v _ => v) s).finish
/-- LDO in 24 bits (R643). -/
def execLdo24 (f : LS24) (s : State) : Host.Outcome State Fault Refusal :=
  (loadReg (shortIndexed f) (f.rt.setWidth 6) 8 3 (fun v _ => v) s).finish

/-- What a float load writes: the value in its box (R644; spec/46_floating_point.md R555). -/
def loadedFloat (fmt : FFmt) (v : Word) (s : State) : Word := boxed fmt s.par.nanboxSign (s.free slotResult) v

/-- FLDH (R644). -/
def execFldh (f : LS) (s : State) : Host.Outcome State Fault Refusal := (loadLS f 2 (loadedFloat .half) s).finish
/-- FLDS (R644). -/
def execFlds (f : LS) (s : State) : Host.Outcome State Fault Refusal := (loadLS f 4 (loadedFloat .single) s).finish
/-- FLDD (R644). -/
def execFldd (f : LS) (s : State) : Host.Outcome State Fault Refusal := (loadLS f 8 (loadedFloat .double) s).finish

/-! ## Stores (R632, R650 to R660) -/

/-- A store of `n` bytes, which answers where they went (R632, R650). -/
def storeVal (data addr : State → Res Word) (n : Nat) (s : State) : Res Span :=
  (data s).bind fun v s =>
  (addr s).bind fun ea s => storeAt ea n v s

/-- A store of a register in the scaled indexed form; the register stands in the Rt position (R650). -/
def storeLS (f : LS) (n : Nat) (s : State) : Res Unit :=
  (storeVal (operand .t f.rt) (indexed f) n s).bind fun _ s => .ok () (s.advance (dispBytes f.disp))

/-- STB (R651). -/
def execStb (f : LS) (s : State) : Host.Outcome State Fault Refusal := (storeLS f 1 s).finish
/-- STW (R652). -/
def execStw (f : LS) (s : State) : Host.Outcome State Fault Refusal := (storeLS f 2 s).finish
/-- STT (R653). -/
def execStt (f : LS) (s : State) : Host.Outcome State Fault Refusal := (storeLS f 4 s).finish
/-- STO (R654). -/
def execSto (f : LS) (s : State) : Host.Outcome State Fault Refusal := (storeLS f 8 s).finish
/-- FSTH (R657). -/
def execFsth (f : LS) (s : State) : Host.Outcome State Fault Refusal := (storeLS f 2 s).finish
/-- FSTS (R657). -/
def execFsts (f : LS) (s : State) : Host.Outcome State Fault Refusal := (storeLS f 4 s).finish
/-- FSTD (R657). -/
def execFstd (f : LS) (s : State) : Host.Outcome State Fault Refusal := (storeLS f 8 s).finish

/-- STO in 24 bits (R655). -/
def execSto24 (f : LS24) (s : State) : Host.Outcome State Fault Refusal :=
  ((storeVal (operand .t (f.rt.setWidth 6)) (shortIndexed f) 8 s).bind fun _ s => .ok () (s.advance 3)).finish

/-- The immediate of a store: Imm6 sign-extended, or the constant that follows (R656). -/
def storeImm (imm : BitVec 6) (s : State) : Res Word := .ok ((s.constant .t imm).getD (imm.signExtend 64)) s

/-- A store of an immediate (R656). -/
def storeImmLS (f : LS) (n : Nat) (s : State) : Res Unit :=
  (storeVal (storeImm f.rt) (indexed f) n s).bind fun _ s => .ok () (s.advance (dispBytes f.disp))

/-- STIB (R656). -/
def execStib (f : LS) (s : State) : Host.Outcome State Fault Refusal := (storeImmLS f 1 s).finish
/-- STIW (R656). -/
def execStiw (f : LS) (s : State) : Host.Outcome State Fault Refusal := (storeImmLS f 2 s).finish
/-- STIT (R656). -/
def execStit (f : LS) (s : State) : Host.Outcome State Fault Refusal := (storeImmLS f 4 s).finish
/-- STIO (R656). -/
def execStio (f : LS) (s : State) : Host.Outcome State Fault Refusal := (storeImmLS f 8 s).finish

/-- The card tables after a pointer is stored at a physical address (spec/21_memory_management.md R205). DESIGN CHOICE: the tables have the
sizes that the spec prints for a system of 1 GB, 131072 and 64 bits, whatever `RAM_MAP` is (R204; log 47). -/
def Cards.mark (c : Cards) (pa : Nat) : Cards where
  hct := Sparse.set c.hct (pa / 2 ^ 13 % 131072) 1#1
  mct := c.mct ||| 1#64 <<< (pa / 2 ^ 24 % 64)

/-- A pointer store: the store, and then the card tables (R660). DESIGN CHOICE: a store that is lost without an exception, because nothing
answers, has completed and marks them too (log 47). -/
def storePointer (data addr : State → Res Word) (len : Nat) (s : State) : Res Unit :=
  (storeVal data addr 8 s).bind fun sp s => .ok () ({ s with cards := s.cards.mark (sp.addr 0) }.advance len)

/-- STPTR (R660). -/
def execStptr (f : LS) (s : State) : Host.Outcome State Fault Refusal :=
  (storePointer (operand .t f.rt) (indexed f) (dispBytes f.disp) s).finish
/-- STPTR in 24 bits (R655, R660). -/
def execStptr24 (f : LS24) (s : State) : Host.Outcome State Fault Refusal :=
  (storePointer (operand .t (f.rt.setWidth 6)) (shortIndexed f) 3 s).finish

/-! ## CACHE (R634) -/

/-- The bytes of a cache line (R634). -/
def lineBytes : Nat := 64

/-- The instruction cache without what it holds of a line: a fetch then sees memory (spec/20_memory.md R142). -/
def State.invalidateLine (s : State) (pa : Nat) : State :=
  { s with stale := s.stale.filter fun e => e.1 / lineBytes != pa / lineBytes }

/-- The effect of the low command; the high commands have none (R634). -/
def cacheCommand (cmd : BitVec 6) (ea : Word) (pa : Nat) (s : State) : State :=
  match (cmd.extractLsb' 0 3).toNat with
  | 0 => { s with stale := [] }
  | 1 => s.invalidateLine pa
  | 2 => s.tlbClear
  | 3 => s.tlbDrop (vpnOf ea)
  | _ => s

/-- The translation of a cache command's address, which must be answered; no access follows (R634; spec/60_exceptions.md R930;
log 32). -/
def cacheAddress (ea : Word) (s : State) : Res Nat :=
  (translate .read 0 ea ea s).bind fun pa s =>
  (busCheck .read ea pa 0 1 s).bind fun _ s => .ok pa s

/-- CACHE (R634): the command stands in the Rt position. -/
def execCache (f : LS) (s : State) : Host.Outcome State Fault Refusal :=
  ((indexed f s).bind fun ea s =>
   (cacheAddress ea s).bind fun pa s =>
   .ok () ((cacheCommand f.rt ea pa s).advance (dispBytes f.disp))).finish

end Sys2Proof.Machine
end

