-- ==== Sys2Proof/Machine/Branch.lean ====
section
/-! DEFINITION. Branches, jumps, calls and returns (spec/48_branch_flow.md). -/

namespace Sys2Proof.Machine

/-! ## Conditional branches (R701 to R707) -/

/-- A branch condition on the compared bits of two registers, with a free bit. -/
abbrev Cond := (w : Nat) → BitVec w → BitVec w → Bool → Bool

/-- A condition on the low `8 << Prc2` bits (R704; log 21). -/
def condAt (prc : BitVec 2) (c : Cond) (a b : Word) (u : Bool) : Bool :=
  match prc.toNat with
  | 0 => c 8 (a.setWidth 8) (b.setWidth 8) u
  | 1 => c 16 (a.setWidth 16) (b.setWidth 16) u
  | 2 => c 32 (a.setWidth 32) (b.setWidth 32) u
  | _ => c 64 a b u

/-- `BR_PRC` (R704). -/
def branchPrecision (prc : BitVec 2) (s : State) : Res Unit :=
  require (prc == 3#2 || s.par.brPrc == .narrow) .branchPrecision s

/-- The free bit of a branch condition (R714, R733). -/
def State.freeBit (s : State) : Bool := (s.free slotResult).getLsbD 0

/-- The end of a conditional branch (R707). -/
def branchTo (taken : Bool) (t : Word) (s : State) : State := if taken then s.goto t else s.advance 6

/-- The target in the displacement form (R703). -/
def dispTarget (tgt : BitVec 21) (s : State) : Res Word := .ok (branchTarget s.ip (srAb s.sr) tgt) s

/-- The target in the register form: the Tgt field must be zero (R703). The model looks at it after Ra and Rb are read, so that a
register the mode may not name raises first (log 40). -/
def regTarget (tgt : BitVec 15) (rc : BitVec 6) (s : State) : Res Word :=
  (require (tgt == 0#15) .branchTarget s).bind fun _ s => operand .c rc s

/-- A conditional branch: precision, operands and target are read before anything is written (R707). `upd` is what else the
branch does, from the value of Ra. -/
def branch (prc : BitVec 2) (ra rb : BitVec 6) (tgt : State → Res Word) (c : Cond) (upd : Word → State → State)
    (s : State) : Res Unit :=
  (branchPrecision prc s).bind fun _ s =>
  (operand .a ra s).bind fun a s =>
  (operand .b rb s).bind fun b s =>
  (tgt s).bind fun t s => .ok () (upd a (branchTo (condAt prc c a b s.freeBit) t s))

/-- A branch in the displacement form that writes no register. -/
def branchDisp (c : Cond) (f : Br) (s : State) : Res Unit :=
  branch f.prc f.ra f.rb (dispTarget f.tgt) c (fun _ s => s) s

/-- A branch to a register that writes no register. -/
def branchReg (c : Cond) (f : BrReg) (s : State) : Res Unit :=
  branch f.prc f.ra f.rb (regTarget f.tgt f.rc) c (fun _ s => s) s

/-! ## The conditions (R710) -/

/-- The logical value of an operand: not zero is true. -/
def truth {w : Nat} (v : BitVec w) : Bool := v != 0

/-- Bit `n` of a value is `b`; free where there is no such bit (R714, R715). -/
def bitIs {w : Nat} (b : Bool) (v : BitVec w) (n : Nat) (u : Bool) : Bool := if n < w then v.getLsbD n == b else u

/-- EQ (R716). -/
def condEq : Cond := fun _ a b _ => a == b
/-- NE (R727). -/
def condNe : Cond := fun _ a b _ => a != b
/-- LTU (R725). -/
def condLtu : Cond := fun _ a b _ => lessThan false a b
/-- LEU (R723). -/
def condLeu : Cond := fun _ a b _ => lessEq false a b
/-- GEU (R719). -/
def condGeu : Cond := fun _ a b _ => lessEq false b a
/-- GTU (R721). -/
def condGtu : Cond := fun _ a b _ => lessThan false b a
/-- BC (R714). -/
def condBc : Cond := fun _ a b u => bitIs false a b.toNat u
/-- BS (R715). -/
def condBs : Cond := fun _ a b u => bitIs true a b.toNat u
/-- NANDB (R732). -/
def condNandb : Cond := fun _ a b _ => (a &&& b) == 0
/-- ANDB (R713). -/
def condAndb : Cond := fun _ a b _ => (a &&& b) != 0
/-- NORB (R732). -/
def condNorb : Cond := fun _ a b _ => (a ||| b) == 0
/-- ORB (R731). -/
def condOrb : Cond := fun _ a b _ => (a ||| b) != 0
/-- ENOR (R732). -/
def condEnor : Cond := fun _ a b _ => truth a == truth b
/-- EOR (R732). -/
def condEor : Cond := fun _ a b _ => truth a != truth b
/-- LT (R724). -/
def condLt : Cond := fun _ a b _ => lessThan true a b
/-- LE (R722). -/
def condLe : Cond := fun _ a b _ => lessEq true a b
/-- GE (R718). -/
def condGe : Cond := fun _ a b _ => lessEq true b a
/-- GT (R720). -/
def condGt : Cond := fun _ a b _ => lessThan true b a
/-- NAND (R726). -/
def condNand : Cond := fun _ a b _ => !(truth a && truth b)
/-- AND (R712). -/
def condAnd : Cond := fun _ a b _ => truth a && truth b
/-- NOR (R729). -/
def condNor : Cond := fun _ a b _ => !(truth a || truth b)
/-- OR (R730). -/
def condOr : Cond := fun _ a b _ => truth a || truth b

/-! ## Integer branches (R712 to R732) -/

/-- BEQ (R716). -/
def execBeq (f : Br) (s : State) : Host.Outcome State Fault Refusal := (branchDisp condEq f s).finish
/-- BEQ to a register (R716, R702). -/
def execBeqReg (f : BrReg) (s : State) : Host.Outcome State Fault Refusal :=
  (branchReg condEq f s).finish
/-- BNE (R727). -/
def execBne (f : Br) (s : State) : Host.Outcome State Fault Refusal := (branchDisp condNe f s).finish
/-- BNE to a register (R727, R702). -/
def execBneReg (f : BrReg) (s : State) : Host.Outcome State Fault Refusal :=
  (branchReg condNe f s).finish
/-- BLTU (R725). -/
def execBltu (f : Br) (s : State) : Host.Outcome State Fault Refusal := (branchDisp condLtu f s).finish
/-- BLTU to a register (R725, R702). -/
def execBltuReg (f : BrReg) (s : State) : Host.Outcome State Fault Refusal :=
  (branchReg condLtu f s).finish
/-- BLEU (R723). -/
def execBleu (f : Br) (s : State) : Host.Outcome State Fault Refusal := (branchDisp condLeu f s).finish
/-- BLEU to a register (R723, R702). -/
def execBleuReg (f : BrReg) (s : State) : Host.Outcome State Fault Refusal :=
  (branchReg condLeu f s).finish
/-- BGEU (R719). -/
def execBgeu (f : Br) (s : State) : Host.Outcome State Fault Refusal := (branchDisp condGeu f s).finish
/-- BGEU to a register (R719, R702). -/
def execBgeuReg (f : BrReg) (s : State) : Host.Outcome State Fault Refusal :=
  (branchReg condGeu f s).finish
/-- BGTU (R721). -/
def execBgtu (f : Br) (s : State) : Host.Outcome State Fault Refusal := (branchDisp condGtu f s).finish
/-- BGTU to a register (R721, R702). -/
def execBgtuReg (f : BrReg) (s : State) : Host.Outcome State Fault Refusal :=
  (branchReg condGtu f s).finish
/-- BBC (R714). -/
def execBbc (f : Br) (s : State) : Host.Outcome State Fault Refusal := (branchDisp condBc f s).finish
/-- BBC to a register (R714, R702). -/
def execBbcReg (f : BrReg) (s : State) : Host.Outcome State Fault Refusal :=
  (branchReg condBc f s).finish
/-- BBS (R715). -/
def execBbs (f : Br) (s : State) : Host.Outcome State Fault Refusal := (branchDisp condBs f s).finish
/-- BBS to a register (R715, R702). -/
def execBbsReg (f : BrReg) (s : State) : Host.Outcome State Fault Refusal :=
  (branchReg condBs f s).finish
/-- BNANDB (R732). -/
def execBnandb (f : Br) (s : State) : Host.Outcome State Fault Refusal := (branchDisp condNandb f s).finish
/-- BNANDB to a register (R732, R702). -/
def execBnandbReg (f : BrReg) (s : State) : Host.Outcome State Fault Refusal :=
  (branchReg condNandb f s).finish
/-- BANDB (R713). -/
def execBandb (f : Br) (s : State) : Host.Outcome State Fault Refusal := (branchDisp condAndb f s).finish
/-- BANDB to a register (R713, R702). -/
def execBandbReg (f : BrReg) (s : State) : Host.Outcome State Fault Refusal :=
  (branchReg condAndb f s).finish
/-- BNORB (R732). -/
def execBnorb (f : Br) (s : State) : Host.Outcome State Fault Refusal := (branchDisp condNorb f s).finish
/-- BNORB to a register (R732, R702). -/
def execBnorbReg (f : BrReg) (s : State) : Host.Outcome State Fault Refusal :=
  (branchReg condNorb f s).finish
/-- BORB (R731). -/
def execBorb (f : Br) (s : State) : Host.Outcome State Fault Refusal := (branchDisp condOrb f s).finish
/-- BORB to a register (R731, R702). -/
def execBorbReg (f : BrReg) (s : State) : Host.Outcome State Fault Refusal :=
  (branchReg condOrb f s).finish
/-- BENOR (R732). -/
def execBenor (f : Br) (s : State) : Host.Outcome State Fault Refusal := (branchDisp condEnor f s).finish
/-- BENOR to a register (R732, R702). -/
def execBenorReg (f : BrReg) (s : State) : Host.Outcome State Fault Refusal :=
  (branchReg condEnor f s).finish
/-- BEOR (R732). -/
def execBeor (f : Br) (s : State) : Host.Outcome State Fault Refusal := (branchDisp condEor f s).finish
/-- BEOR to a register (R732, R702). -/
def execBeorReg (f : BrReg) (s : State) : Host.Outcome State Fault Refusal :=
  (branchReg condEor f s).finish
/-- BLT (R724). -/
def execBlt (f : Br) (s : State) : Host.Outcome State Fault Refusal := (branchDisp condLt f s).finish
/-- BLT to a register (R724, R702). -/
def execBltReg (f : BrReg) (s : State) : Host.Outcome State Fault Refusal :=
  (branchReg condLt f s).finish
/-- BLE (R722). -/
def execBle (f : Br) (s : State) : Host.Outcome State Fault Refusal := (branchDisp condLe f s).finish
/-- BLE to a register (R722, R702). -/
def execBleReg (f : BrReg) (s : State) : Host.Outcome State Fault Refusal :=
  (branchReg condLe f s).finish
/-- BGE (R718). -/
def execBge (f : Br) (s : State) : Host.Outcome State Fault Refusal := (branchDisp condGe f s).finish
/-- BGE to a register (R718, R702). -/
def execBgeReg (f : BrReg) (s : State) : Host.Outcome State Fault Refusal :=
  (branchReg condGe f s).finish
/-- BGT (R720). -/
def execBgt (f : Br) (s : State) : Host.Outcome State Fault Refusal := (branchDisp condGt f s).finish
/-- BGT to a register (R720, R702). -/
def execBgtReg (f : BrReg) (s : State) : Host.Outcome State Fault Refusal :=
  (branchReg condGt f s).finish
/-- BNAND (R726). -/
def execBnand (f : Br) (s : State) : Host.Outcome State Fault Refusal := (branchDisp condNand f s).finish
/-- BNAND to a register (R726, R702). -/
def execBnandReg (f : BrReg) (s : State) : Host.Outcome State Fault Refusal :=
  (branchReg condNand f s).finish
/-- BAND (R712). -/
def execBand (f : Br) (s : State) : Host.Outcome State Fault Refusal := (branchDisp condAnd f s).finish
/-- BAND to a register (R712, R702). -/
def execBandReg (f : BrReg) (s : State) : Host.Outcome State Fault Refusal :=
  (branchReg condAnd f s).finish
/-- BNOR (R729). -/
def execBnor (f : Br) (s : State) : Host.Outcome State Fault Refusal := (branchDisp condNor f s).finish
/-- BNOR to a register (R729, R702). -/
def execBnorReg (f : BrReg) (s : State) : Host.Outcome State Fault Refusal :=
  (branchReg condNor f s).finish
/-- BOR (R730). -/
def execBor (f : Br) (s : State) : Host.Outcome State Fault Refusal := (branchDisp condOr f s).finish
/-- BOR to a register (R730, R702). -/
def execBorReg (f : BrReg) (s : State) : Host.Outcome State Fault Refusal :=
  (branchReg condOr f s).finish

/-- A test of the bit that the Rb field numbers, which names no register (R714, R715). -/
def branchBit (b : Bool) (prc : BitVec 2) (ra n : BitVec 6) (tgt : State → Res Word) (s : State) : Res Unit :=
  branch prc ra 0#6 tgt (fun _ a _ u => bitIs b a n.toNat u) (fun _ s => s) s

/-- BBC with an immediate bit number (R714). -/
def execBbcImm (f : Br) (s : State) : Host.Outcome State Fault Refusal :=
  (branchBit false f.prc f.ra f.rb (dispTarget f.tgt) s).finish
/-- BBC with an immediate bit number, to a register (R714). -/
def execBbcImmReg (f : BrReg) (s : State) : Host.Outcome State Fault Refusal :=
  (branchBit false f.prc f.ra f.rb (regTarget f.tgt f.rc) s).finish
/-- BBS with an immediate bit number (R715). -/
def execBbsImm (f : Br) (s : State) : Host.Outcome State Fault Refusal :=
  (branchBit true f.prc f.ra f.rb (dispTarget f.tgt) s).finish
/-- BBS with an immediate bit number, to a register (R715). -/
def execBbsImmReg (f : BrReg) (s : State) : Host.Outcome State Fault Refusal :=
  (branchBit true f.prc f.ra f.rb (regTarget f.tgt f.rc) s).finish

/-! ## Float branches (R733) -/

/-- The format that a branch precision names: 8 bits are no float format (log 21). -/
def branchFormat (prc : BitVec 2) : Option FFmt :=
  match prc.toNat with
  | 0 => none | 1 => some .half | 2 => some .single | _ => some .double

/-- FBcc: the condition is the bit of the FCMP result that Fn4 numbers; refused altogether under `FBCC_OPCODE = refuse`
(R733). -/
def floatBranch (prc : BitVec 2) (fn : BitVec 4) (ra rb : BitVec 6) (tgt : State → Res Word) (s : State) : Res Unit :=
  (require (s.par.fbccOpcode == .root42) .contestedOpcode s).bind fun _ s =>
  (requireDefined (fn.toNat < 14) s).bind fun _ s =>
  (branchPrecision prc s).bind fun _ s =>
  match branchFormat prc with
  | none => .stop .branchPrecision
  | some fmt =>
    (operand .a ra s).bind fun a s =>
    (operand .b rb s).bind fun b s =>
    (tgt s).bind fun t s =>
    .ok () (branchTo ((fcmpVector fmt a b (s.free slotResult)).getLsbD fn.toNat) t s)

/-- FBcc (R733). -/
def execFbcc (f : FBr) (s : State) : Host.Outcome State Fault Refusal :=
  (floatBranch f.prc f.fn f.ra f.rb (dispTarget f.tgt) s).finish
/-- FBcc to a register (R733). -/
def execFbccReg (f : FBrReg) (s : State) : Host.Outcome State Fault Refusal :=
  (floatBranch f.prc f.fn f.ra f.rb (regTarget f.tgt f.rc) s).finish

/-! ## Counting branches (R708, R739, R741) -/

/-- A counting branch on inequality: Ra is then replaced, whether or not the branch is taken (R708). The
comparison is as wide as the branch's precision, the change is of the whole register (log 21). A constant in place of Ra has no stated
meaning. -/
def countBranch (step : Word) (prc : BitVec 2) (ra rb : BitVec 6) (tgt : State → Res Word) (s : State) : Res Unit :=
  (require (s.constant .a ra).isNone .pfx s).bind fun _ s =>
  branch prc ra rb tgt condNe (fun a s => s.setGpr ra (a + step)) s

/-- IBNE (R741). -/
def execIbne (f : Br) (s : State) : Host.Outcome State Fault Refusal :=
  (countBranch 1#64 f.prc f.ra f.rb (dispTarget f.tgt) s).finish
/-- IBNE to a register (R741). -/
def execIbneReg (f : BrReg) (s : State) : Host.Outcome State Fault Refusal :=
  (countBranch 1#64 f.prc f.ra f.rb (regTarget f.tgt f.rc) s).finish
/-- DBNE (R739). -/
def execDbne (f : Br) (s : State) : Host.Outcome State Fault Refusal :=
  (countBranch (-1#64) f.prc f.ra f.rb (dispTarget f.tgt) s).finish
/-- DBNE to a register (R739). -/
def execDbneReg (f : BrReg) (s : State) : Host.Outcome State Fault Refusal :=
  (countBranch (-1#64) f.prc f.ra f.rb (regTarget f.tgt f.rc) s).finish

/-! ## Unconditional branches, jumps and calls (R740 to R751) -/

/-- The state with the address of the next instruction in the link register: 1 to 3 name x[41] to x[43], 0 names none
(R740). -/
def State.link (s : State) (lk : BitVec 2) : State :=
  if lk == 0#2 then s else s.setGpr (40#6 + lk.setWidth 6) (s.nextIp 6)

/-- BRA (R742). -/
def execBra (const : BitVec 37) (s : State) : Host.Outcome State Fault Refusal :=
  .next (s.goto (s.ip + const.signExtend 64))
/-- BSR (R743). -/
def execBsr (f : Bsr) (s : State) : Host.Outcome State Fault Refusal :=
  .next ((s.link f.lk).goto (s.ip + f.const.signExtend 64))
/-- JMP, direct (R744). -/
def execJmpDirect (const : BitVec 37) (s : State) : Host.Outcome State Fault Refusal := .next (s.goto (const.setWidth 64))
/-- JSR, direct (R745). -/
def execJsrDirect (f : Bsr) (s : State) : Host.Outcome State Fault Refusal :=
  .next ((s.link f.lk).goto (f.const.setWidth 64))

/-- JMP, scaled indexed (R746). -/
def execJmpScaled (f : JmpS) (s : State) : Host.Outcome State Fault Refusal :=
  ((indexed ⟨f.disp, f.sc, f.rb, f.ra, 0#6⟩ s).bind fun t s => .ok () (s.goto t)).finish
/-- JSR, scaled indexed (R747). -/
def execJsrScaled (f : LS) (s : State) : Host.Outcome State Fault Refusal :=
  ((indexed f s).bind fun t s =>
   (target f.rt s).bind fun _ s => .ok () ((s.setGpr f.rt (s.nextIp (dispBytes f.disp))).goto t)).finish

/-- The index of a table jump: a negative one, or one not below the limit, is the limit (R749). -/
def tableIndex (limit b : Word) : Word := if b.msb || limit.ule b then limit else b

/-- The forms of a table jump that have a meaning (R749). -/
def tableForm (ar : BitVec 2) (sc : BitVec 3) (s : State) : Res Unit :=
  (require (!(ar == 0#2 && sc == 4#3)) .indirectSc4 s).bind fun _ s => requireDefined (ar.toNat < 2 && sc.toNat < 4) s

/-- Where a table jump goes with the entry `v` of `n` bytes (R749). -/
def tableTarget (ip : Word) (ar : BitVec 2) (n : Nat) (v : Word) : Word :=
  if ar == 0#2 then ip >>> (8 * n) <<< (8 * n) ||| zextLow n v else ip + sextLow n v

/-- A jump through a table in memory; `link` is what else it does once the table is read (R749). -/
def tableJump (f : JmpI) (check : State → Res Unit) (link : State → State) (s : State) : Res Unit :=
  (tableForm f.ar f.sc s).bind fun _ s =>
  (operand .a f.ra s).bind fun a s =>
  (operand .b f.rb s).bind fun b s =>
  (check s).bind fun _ s =>
  (load (a + tableIndex (dispZext f.limit) b <<< f.sc.toNat) (2 ^ f.sc.toNat) s).bind fun v s =>
  .ok () ((link s).goto (tableTarget s.ip f.ar (2 ^ f.sc.toNat) v))

/-- JMP, memory indirect (R750). -/
def execJmpIndirect (f : JmpI) (s : State) : Host.Outcome State Fault Refusal :=
  (tableJump f (fun s => .ok () s) (fun s => s) s).finish
/-- JSR, memory indirect (R751). -/
def execJsrIndirect (f : JsrI) (s : State) : Host.Outcome State Fault Refusal :=
  (tableJump ⟨f.limit, f.ar, f.sc, f.rb, f.ra⟩ (target f.rt)
    (fun s => s.setGpr f.rt (s.nextIp (dispBytes f.limit))) s).finish

/-! ## RET (R760) -/

/-- Return to Ra plus `offs` parcels, the stack pointer moved by `imm` (R760). -/
def returnTo (ra : BitVec 6) (na : Bool) (offs : BitVec 4) (imm : Word) (s : State) : Res Unit :=
  (requireDefined (ra != 0#6) s).bind fun _ s =>
  (require (!na) .signControl s).bind fun _ s =>
  (operand .a ra s).bind fun a s =>
  .ok () ((s.setGpr 31#6 (s.gpr 31#6 + imm)).goto (a + 3#64 * offs.setWidth 64))

/-- RET (R760). -/
def execRet (f : RetForm) (s : State) : Host.Outcome State Fault Refusal :=
  Res.finish (match f with
    | .short f => returnTo (f.ra.setWidth 6) false f.offs (f.imm.signExtend 64) s
    | .long f => returnTo f.ra f.na f.offs (immSext f.imm) s)

end Sys2Proof.Machine
end

