-- ==== Sys2Proof/Machine/Capability.lean ====
section
/-! DEFINITION. Capabilities (spec/49_capability_system_modifiers.md sections 1 to 4; log 22). -/

namespace Sys2Proof.Machine

/-! ## The format with a 32-bit address (R800 to R803) -/

/-- The address, bits 31..0. -/
def capAddr (c : Word) : Nat := (c.extractLsb' 0 32).toNat
/-- The permissions, metadata bits 31..20. -/
def capPerms (c : Word) : BitVec 12 := c.extractLsb' 52 12
/-- The object type, metadata bits 18..15. -/
def capOtype (c : Word) : BitVec 4 := c.extractLsb' 47 4
/-- A capability is a sentry: a function of its object type that is left open (log 22). -/
def capSentry (c : Word) : Bool := Config.sentryOtype (capOtype c)
/-- A capability is sealed: a function of its object type that is left open, but that a sentry is sealed (R803, R812; log 22). -/
def capSealed (c : Word) : Bool := capSentry c || Config.sealedOtype (capOtype c)
/-- The exponent format, metadata bit 14. -/
def capLe (c : Word) : Bool := c.getLsbD 46
/-- The exponent (R801). -/
def capExp (c : Word) : Nat := if capLe c then (c.extractLsb' 40 3 ++ c.extractLsb' 32 3 : BitVec 6).toNat else 0
/-- The base mantissa, 11 bits (R801). -/
def capB (c : Word) : BitVec 11 := c.extractLsb' 35 5 ++ (if capLe c then 0#3 else c.extractLsb' 32 3) ++ 0#3
/-- The low nine bits of the top mantissa (R801). -/
def capTLow (c : Word) : BitVec 9 := c.extractLsb' 43 3 ++ (if capLe c then 0#3 else c.extractLsb' 40 3) ++ 0#3
/-- The top mantissa, 11 bits (R801). -/
def capT (c : Word) : BitVec 11 :=
  let carry : BitVec 2 := if (capTLow c).ult ((capB c).setWidth 9) then 1#2 else 0#2
  let msb : BitVec 2 := if capLe c then 1#2 else 0#2
  ((capB c).extractLsb' 9 2 + carry + msb) ++ capTLow c

/-- The correction of the bits above a mantissa whose top three bits are `m` (R802). -/
def capCorrection (a3 m r : BitVec 3) : Int :=
  match a3.ult r, m.ult r with
  | false, true => 1
  | true, false => -1
  | _, _ => 0

/-- A bound: the address's bits above the mantissa, corrected, then the mantissa, then zeros (R802). The model computes it without
wrapping, and takes address bits that an exponent above 21 asks for and the address does not have as zero (log 22). -/
def capBound (c : Word) (m : BitVec 11) : Int :=
  let e := capExp c
  let a3 := BitVec.ofNat 3 (capAddr c / 2 ^ (e + 8))
  let r := (capB c).extractLsb' 8 3 - 1#3
  (capAddr c / 2 ^ (e + 11) + capCorrection a3 (m.extractLsb' 8 3) r) * 2 ^ (e + 11) + m.toNat * 2 ^ e

/-- The lowest address (R802). -/
def capBase (c : Word) : Int := capBound c (capB c)
/-- The address after the highest (R802). -/
def capTop (c : Word) : Int := capBound c (capT c)

/-- The `n` bytes at an address lie within a capability's bounds. -/
def capCovers (c : Word) (ea : Word) (n : Nat) : Bool := capBase c ≤ ea.toNat && (ea.toNat : Int) + n ≤ capTop c

/-- Bounds and permissions of `a` are a subset of those of `b` (R803). -/
def capSubset (a b : Word) : Bool :=
  capBase b ≤ capBase a && capTop a ≤ capTop b && capPerms a &&& ~~~capPerms b == 0#12

/-! ## Operands -/

/-- `CAP_MODEL` (R781). -/
def requireCap (s : State) : Res Unit := require (s.par.capModel == .external) .capability s

/-- A capability operand: a register with its tag; a constant has none. -/
def capOperand (slot : Slot) (r : BitVec 6) (s : State) : Res Reg :=
  (operand slot r s).bind fun v s => .ok ⟨v, (s.constant slot r).isNone && s.gprTag r⟩ s

/-- The end of an instruction that writes a capability register. -/
def finishCap (ct : BitVec 6) (len : Nat) (v : Word) (tag : Bool) (s : State) : Res Unit :=
  .ok () ((s.setCap ct v tag).advance len)

/-- The capability exception, whose cause the spec does not give (R804; log 22). -/
def requireCapability (c : Bool) (s : State) : Res Unit :=
  if c then .ok () s else .trap (Trap.plain Config.capCause) s

/-! ## Loads and stores (R804, R806) -/

/-- The address of a capability access: register `Ca` supplies the base address (R804). -/
def capEa (ca b : Word) (f : LS) : Word := indexedAddr (BitVec.ofNat 64 (capAddr ca)) b f.sc (dispSext f.disp)

/-- What a capability load checks (R804). -/
def capLoadOk (ca : Reg) (ea : Word) : Bool :=
  ca.tag && !capSealed ca.val && (capPerms ca.val).getLsbD 2 && capCovers ca.val ea 8

/-- LDCAPD (R804). -/
def execLdcapd (f : LS) (s : State) : Host.Outcome State Fault Refusal :=
  ((requireCap s).bind fun _ s =>
   (capOperand .a f.ra s).bind fun ca s =>
   (operand .b f.rb s).bind fun b s =>
   (target f.rt s).bind fun _ s =>
   (requireCapability (capLoadOk ca (capEa ca.val b f)) s).bind fun _ s =>
   (load (capEa ca.val b f) 8 s).bind fun v s =>
   (translate .read 8 (capEa ca.val b f) (capEa ca.val b f) s).bind fun pa s =>
   finishCap f.rt (dispBytes f.disp) v
     ((capPerms ca.val).getLsbD 4 && s.port (capEa ca.val b f) pa == .memory && s.memTag pa) s).finish

/-- What a capability store checks (R806). -/
def capStoreOk (ca cs : Reg) (ea : Word) : Bool :=
  let p := capPerms ca.val
  ca.tag && !capSealed ca.val && p.getLsbD 3 && (p.getLsbD 5 || !cs.tag) &&
    (p.getLsbD 6 || !cs.tag || (capPerms cs.val).getLsbD 0) && capCovers ca.val ea 8

/-- The tag of the granule stored to (R806): devices have none. DESIGN CHOICE: where bytes of the store are lost without an exception
the tag is written exactly where the first byte reached memory (log 48). -/
def storeTag (ea : Word) (sp : Span) (tag : Bool) (s : State) : State :=
  if s.portOf ea sp 0 == .memory then s.setMemTag (sp.addr 0) tag else s

/-- STCAPD (R806). -/
def execStcapd (f : LS) (s : State) : Host.Outcome State Fault Refusal :=
  ((requireCap s).bind fun _ s =>
   (capOperand .a f.ra s).bind fun ca s =>
   (operand .b f.rb s).bind fun b s =>
   (capOperand .t f.rt s).bind fun cs s =>
   (requireCapability (capStoreOk ca cs (capEa ca.val b f)) s).bind fun _ s =>
   (storeAt (capEa ca.val b f) 8 cs.val s).bind fun sp s =>
   .ok () ((storeTag (capEa ca.val b f) sp cs.tag s).advance (dispBytes f.disp))).finish

/-! ## Register instructions (R810 to R814) -/

/-- A capability with its permissions masked (R810). -/
def capMaskPerms (c : Word) (mask : BitVec 12) : Word := (capPerms c &&& mask) ++ c.extractLsb' 0 52

/-- The end of CAndPerm: the tag of a sealed capability is cleared (R810). -/
def andPerm (ca : Reg) (mask : BitVec 12) (ct : BitVec 6) (s : State) : Res Unit :=
  finishCap ct 6 (capMaskPerms ca.val mask) (!capSealed ca.val && ca.tag) s

/-- CAndPerm (R810). -/
def execCAndPerm (f : CapR) (s : State) : Host.Outcome State Fault Refusal :=
  ((requireCap s).bind fun _ s =>
   (require (!f.na && !f.nb && !f.nt) .signControl s).bind fun _ s =>
   (capOperand .a f.ca s).bind fun ca s =>
   (operand .b f.rb s).bind fun b s =>
   (target f.ct s).bind fun _ s => andPerm ca (b.setWidth 12) f.ct s).finish

/-- CAndPermi (R811). -/
def execCAndPermi (f : CapI) (s : State) : Host.Outcome State Fault Refusal :=
  ((requireCap s).bind fun _ s =>
   (require (!f.na && !f.nt) .signControl s).bind fun _ s =>
   (capOperand .a f.ca s).bind fun ca s =>
   (target f.ct s).bind fun _ s => andPerm ca (f.imm.setWidth 12) f.ct s).finish

/-- A capability with its object type replaced. -/
def withOtype (c : Word) (t : BitVec 4) : Word := c.extractLsb' 51 13 ++ t ++ c.extractLsb' 0 47

/-- The object type of a sentry that a capability sealed as one takes, which the spec does not give: an open choice, where that is a
sentry's, and otherwise that of the sentry `cb` (R812; log 22). -/
def sentryType (cb : Word) : BitVec 4 :=
  if Config.sentryOtype (Config.sentryChoice cb) then Config.sentryChoice cb else capOtype cb

/-- The capability that CBuildCap builds: the address, bounds, permissions and flag of Cb with the object type of Ca, or, where Cb
is a sentry, sealed as a sentry (R812). -/
def builtCap (ca cb : Word) : Word := withOtype cb (if capSentry cb then sentryType cb else capOtype ca)

/-- The built capability may stand, with its tag (R812). -/
def buildOk (ca : Reg) (cb : Word) : Bool :=
  capSubset (builtCap ca.val cb) ca.val && Config.capDerivable (builtCap ca.val cb) && ca.tag &&
    !capSealed ca.val

/-- CBuildCap (R812). -/
def execCBuildCap (f : Cap3) (s : State) : Host.Outcome State Fault Refusal :=
  ((requireCap s).bind fun _ s =>
   (capOperand .a f.ca s).bind fun ca s =>
   (capOperand .b f.cb s).bind fun cb s =>
   (target f.ct s).bind fun _ s =>
   finishCap f.ct 6 (if buildOk ca cb.val then builtCap ca.val cb.val else cb.val) (buildOk ca cb.val) s).finish

/-- CClearTag (R813). -/
def execCClearTag (f : Cap2) (s : State) : Host.Outcome State Fault Refusal :=
  ((operand .a f.ca s).bind fun v s =>
   (target f.ct s).bind fun _ s => finishCap f.ct 6 v false s).finish

/-- A value with one bit set or cleared. -/
def withBit (v : Word) (i : Nat) (b : Bool) : Word := if b then v ||| 1#64 <<< i else v &&& ~~~(1#64 <<< i)

/-- The result of CCmp: EQ in bit 0, LE in bit 3, the overflow bit in a third place left open (log 22), and free bits elsewhere
(R814). -/
def ccmpResult (a b : Reg) (u : Word) : Word :=
  let v := withBit u Config.ccmpOverflowBit (capSealed a.val)
  withBit (withBit v 3 (capSubset a.val b.val && a.tag == b.tag)) 0 (a == b)

/-- CCmp (R814). -/
def execCCmp (f : Cap3) (s : State) : Host.Outcome State Fault Refusal :=
  ((requireCap s).bind fun _ s =>
   (capOperand .a f.ca s).bind fun ca s =>
   (capOperand .b f.cb s).bind fun cb s =>
   (target f.ct s).bind fun _ s => finishWrite f.ct 6 (ccmpResult ca cb (s.free slotResult)) s).finish

end Sys2Proof.Machine
end

