-- ==== Sys2Proof/Machine/Compare.lean ====
section
/-! DEFINITION. Comparisons, conditional moves on a comparison and the set instructions (spec/44_comparison.md). -/

namespace Sys2Proof.Machine

/-! ## Compare (R441 to R447) -/

/-- CMP and CMPU: the compare vector with the second operation, or, for Op4 = 15, the range vector (R441 to R445). -/
def compare (signed : Bool) (f : R3) (s : State) : Res Unit :=
  if f.op4 == 15#4 then
    lanes3 f (fun _ a b c _ => neg f.nt (rangeVector signed (neg f.na a) (neg f.nb b) (neg f.nc c))) s
  else fused f (fun _ a b u => cmpVector signed (neg f.na a) (neg f.nb b) u) (fun _ => neg f.nt) s

/-- CMP (R441). -/
def execCmp (f : R3) (s : State) : Host.Outcome State Fault Refusal := (compare true f s).finish
/-- CMPU (R445). -/
def execCmpu (f : R3) (s : State) : Host.Outcome State Fault Refusal := (compare false f s).finish

/-- CMPI and CMPUI: the immediate is sign-extended (R446, R447). -/
def compareImm (signed : Bool) (f : RIForm) (s : State) : Res Unit :=
  lanesImm (viewOf f) (viewOf f).sext
    (fun _ a i u => neg (viewOf f).nt (cmpVector signed (neg (viewOf f).na a) i u)) s

/-- CMPI (R446). -/
def execCmpi (f : RIForm) (s : State) : Host.Outcome State Fault Refusal := (compareImm true f s).finish
/-- CMPUI (R447). -/
def execCmpui (f : RIForm) (s : State) : Host.Outcome State Fault Refusal := (compareImm false f s).finish

/-! ## Relations -/

/-- The relations of the conditional moves and the set family (R448 to R455). -/
inductive Rel where
  | eq | ne | lt | le | gt | ge | ltu | leu | gtu | geu
deriving DecidableEq, Repr

/-- Whether a relation holds between two lanes. -/
def Rel.holds {w : Nat} (r : Rel) (a b : BitVec w) : Bool :=
  match r with
  | .eq => a == b
  | .ne => a != b
  | .lt => lessThan true a b
  | .le => lessEq true a b
  | .gt => lessThan true b a
  | .ge => lessEq true b a
  | .ltu => lessThan false a b
  | .leu => lessEq false a b
  | .gtu => lessThan false b a
  | .geu => lessEq false b a

/-! ## Conditional moves (R448 to R452) -/

/-- Whether a relation holds in every lane of the operands under sign control. -/
def allLanes (r : Rel) (f : R3) (a b : Word) : Bool :=
  mapLanes f.prec (fun w a b _ _ => if r.holds (neg f.na a) (neg f.nb b) then BitVec.allOnes w else 0#w) a b 0#64 0#64 ==
    BitVec.allOnes 64

/-- A conditional move: Rc where the relation holds, else the constant N4, or, for N4 = 8, the old lane of the target, on
which sign control is refused (R448; spec/93_implementation_defined.md U9). -/
def cmovRel (r : Rel) (f : R3) (s : State) : Res Unit :=
  (operand .a f.ra s).bind fun a s =>
  (operand .b f.rb s).bind fun b s =>
  (operand .c f.rc s).bind fun c s =>
  (target f.rt s).bind fun _ s =>
  (require (f.op4 != 8#4 || !f.nt || allLanes r f a b) .signControl s).bind fun _ s =>
  finishWrite f.rt 6
    (mapLanes f.prec (fun w a b c t =>
      if r.holds (neg f.na a) (neg f.nb b) then neg f.nt (neg f.nc c)
      else if f.op4 == 8#4 then t
      else neg f.nt (f.op4.signExtend w)) a b c (s.gpr f.rt)) s

/-- CMOVEQ (R449). -/
def execCmoveq (f : R3) (s : State) : Host.Outcome State Fault Refusal := (cmovRel .eq f s).finish
/-- CMOVNE (R450). -/
def execCmovne (f : R3) (s : State) : Host.Outcome State Fault Refusal := (cmovRel .ne f s).finish
/-- CMOVLT (R451). -/
def execCmovlt (f : R3) (s : State) : Host.Outcome State Fault Refusal := (cmovRel .lt f s).finish
/-- CMOVLE (R452). -/
def execCmovle (f : R3) (s : State) : Host.Outcome State Fault Refusal := (cmovRel .le f s).finish

/-! ## Set on immediate (R453 to R455) -/

/-- Set on an immediate: 1 where the relation holds; otherwise 0 for a Z form, and the old lane of the target for the
other (R453, R454). -/
def setImm (r : Rel) (zero : Bool) (f : RI) (s : State) : Res Unit :=
  (operand .a f.ra s).bind fun a s =>
  (target f.rt s).bind fun _ s =>
  finishWrite f.rt (immBytes f.imm)
    (mapLanes f.prec (fun w a _ _ t =>
      if r.holds (neg f.na a) ((immSext f.imm).setWidth w) then neg f.nt 1
      else if zero then neg f.nt 0 else t) a 0#64 0#64 (s.gpr f.rt)) s

/-- SEQI (R453). -/
def execSeqi (f : RI) (s : State) : Host.Outcome State Fault Refusal := (setImm .eq false f s).finish
/-- ZSEQI (R454). -/
def execZseqi (f : RI) (s : State) : Host.Outcome State Fault Refusal := (setImm .eq true f s).finish

/-- The other set-on-immediate rows under `SET_BY_ANALOGY`: by the pattern of R453 and R454, which have no 24-bit form
(R455). -/
def setImmBy (r : Rel) (zero : Bool) (f : SetImm) (s : State) : Res Unit :=
  match s.par.setByAnalogy with
  | .refuse => .stop .setByAnalogy
  | .pattern =>
    match f with
    | .short _ => raiseUnimplemented s
    | .long f => setImm r zero f s

/-- SNEI (R455). -/
def execSnei (f : SetImm) (s : State) : Host.Outcome State Fault Refusal := (setImmBy .ne false f s).finish
/-- SLTI (R455). -/
def execSlti (f : SetImm) (s : State) : Host.Outcome State Fault Refusal := (setImmBy .lt false f s).finish
/-- SLEI (R455). -/
def execSlei (f : SetImm) (s : State) : Host.Outcome State Fault Refusal := (setImmBy .le false f s).finish
/-- SGTI (R455). -/
def execSgti (f : SetImm) (s : State) : Host.Outcome State Fault Refusal := (setImmBy .gt false f s).finish
/-- SGEI (R455). -/
def execSgei (f : SetImm) (s : State) : Host.Outcome State Fault Refusal := (setImmBy .ge false f s).finish
/-- SLTUI (R455). -/
def execSltui (f : SetImm) (s : State) : Host.Outcome State Fault Refusal := (setImmBy .ltu false f s).finish
/-- SLEUI (R455). -/
def execSleui (f : SetImm) (s : State) : Host.Outcome State Fault Refusal := (setImmBy .leu false f s).finish
/-- SGTUI (R455). -/
def execSgtui (f : SetImm) (s : State) : Host.Outcome State Fault Refusal := (setImmBy .gtu false f s).finish
/-- SGEUI (R455). -/
def execSgeui (f : SetImm) (s : State) : Host.Outcome State Fault Refusal := (setImmBy .geu false f s).finish
/-- ZSNEI (R455). -/
def execZsnei (f : SetImm) (s : State) : Host.Outcome State Fault Refusal := (setImmBy .ne true f s).finish
/-- ZSLTI (R455). -/
def execZslti (f : SetImm) (s : State) : Host.Outcome State Fault Refusal := (setImmBy .lt true f s).finish
/-- ZSLEI (R455). -/
def execZslei (f : SetImm) (s : State) : Host.Outcome State Fault Refusal := (setImmBy .le true f s).finish
/-- ZSGTI (R455). -/
def execZsgti (f : SetImm) (s : State) : Host.Outcome State Fault Refusal := (setImmBy .gt true f s).finish
/-- ZSGEI (R455). -/
def execZsgei (f : SetImm) (s : State) : Host.Outcome State Fault Refusal := (setImmBy .ge true f s).finish
/-- ZSLTUI (R455). -/
def execZsltui (f : SetImm) (s : State) : Host.Outcome State Fault Refusal := (setImmBy .ltu true f s).finish
/-- ZSLEUI (R455). -/
def execZsleui (f : SetImm) (s : State) : Host.Outcome State Fault Refusal := (setImmBy .leu true f s).finish
/-- ZSGTUI (R455). -/
def execZsgtui (f : SetImm) (s : State) : Host.Outcome State Fault Refusal := (setImmBy .gtu true f s).finish
/-- ZSGEUI (R455). -/
def execZsgeui (f : SetImm) (s : State) : Host.Outcome State Fault Refusal := (setImmBy .geu true f s).finish

/-! ## The register forms of the set family (R455) -/

/-- A register set under `SET_BY_ANALOGY`: by the pattern of R448 (log 31). -/
def setReg (r : Rel) (f : R3) (s : State) : Res Unit :=
  match s.par.setByAnalogy with
  | .refuse => .stop .setByAnalogy
  | .pattern => cmovRel r f s

/-- A register zero-or-set under `SET_BY_ANALOGY`: Rc where the relation holds, else zero. DESIGN CHOICE: Op4 does
nothing (R455; log 31). -/
def zsetReg (r : Rel) (f : R3) (s : State) : Res Unit :=
  match s.par.setByAnalogy with
  | .refuse => .stop .setByAnalogy
  | .pattern =>
    lanes3 f (fun _ a b c _ =>
      neg f.nt (if r.holds (neg f.na a) (neg f.nb b) then neg f.nc c else 0)) s

/-- SEQ, function 80 (R455). -/
def execSeq (f : R3) (s : State) : Host.Outcome State Fault Refusal := (setReg .eq f s).finish
/-- SNE, function 81 (R455). -/
def execSne (f : R3) (s : State) : Host.Outcome State Fault Refusal := (setReg .ne f s).finish
/-- SLT, function 82 (R455). -/
def execSlt (f : R3) (s : State) : Host.Outcome State Fault Refusal := (setReg .lt f s).finish
/-- SLE, function 83 (R455). -/
def execSle (f : R3) (s : State) : Host.Outcome State Fault Refusal := (setReg .le f s).finish
/-- SLTU, function 84 (R455). -/
def execSltu (f : R3) (s : State) : Host.Outcome State Fault Refusal := (setReg .ltu f s).finish
/-- SLEU, function 85 (R455). -/
def execSleu (f : R3) (s : State) : Host.Outcome State Fault Refusal := (setReg .leu f s).finish
/-- SLTU, function 100 (R455). -/
def execSltuCode100 (f : R3) (s : State) : Host.Outcome State Fault Refusal := (setReg .ltu f s).finish
/-- SLEU, function 101 (R455). -/
def execSleuCode101 (f : R3) (s : State) : Host.Outcome State Fault Refusal := (setReg .leu f s).finish
/-- ZSEQ, function 112 (R455). -/
def execZseq (f : R3) (s : State) : Host.Outcome State Fault Refusal := (zsetReg .eq f s).finish
/-- ZSNE, function 113 (R455). -/
def execZsne (f : R3) (s : State) : Host.Outcome State Fault Refusal := (zsetReg .ne f s).finish
/-- ZSLT, function 114 (R455). -/
def execZslt (f : R3) (s : State) : Host.Outcome State Fault Refusal := (zsetReg .lt f s).finish
/-- ZSLE, function 115 (R455). -/
def execZsle (f : R3) (s : State) : Host.Outcome State Fault Refusal := (zsetReg .le f s).finish
/-- ZSLTU, function 116 (R455). -/
def execZsltu (f : R3) (s : State) : Host.Outcome State Fault Refusal := (zsetReg .ltu f s).finish
/-- ZSLEU, function 117 (R455). -/
def execZsleu (f : R3) (s : State) : Host.Outcome State Fault Refusal := (zsetReg .leu f s).finish
/-- ZSEQ, function 120 (R455). -/
def execZseqCode120 (f : R3) (s : State) : Host.Outcome State Fault Refusal := (zsetReg .eq f s).finish
/-- ZSNE, function 121 (R455). -/
def execZsneCode121 (f : R3) (s : State) : Host.Outcome State Fault Refusal := (zsetReg .ne f s).finish
/-- ZSLT, function 122 (R455). -/
def execZsltCode122 (f : R3) (s : State) : Host.Outcome State Fault Refusal := (zsetReg .lt f s).finish
/-- ZSLE, function 123 (R455). -/
def execZsleCode123 (f : R3) (s : State) : Host.Outcome State Fault Refusal := (zsetReg .le f s).finish
/-- ZSLTU, function 124 (R455). -/
def execZsltuCode124 (f : R3) (s : State) : Host.Outcome State Fault Refusal := (zsetReg .ltu f s).finish
/-- ZSLEU, function 125 (R455). -/
def execZsleuCode125 (f : R3) (s : State) : Host.Outcome State Fault Refusal := (zsetReg .leu f s).finish

end Sys2Proof.Machine
end

