-- ==== Sys2Proof/Machine/Logical.lean ====
section
/-! DEFINITION. Logical instructions (spec/43_logical.md). -/

namespace Sys2Proof.Machine

/-- AND (R421). -/
def execAnd (f : R3) (s : State) : Host.Outcome State Fault Refusal :=
  (fused f (fun _ a b _ => com f.na a &&& com f.nb b) (fun _ => com f.nt) s).finish

/-- The majority of three lanes, bit by bit (R425). -/
def majority {w : Nat} (a b c : BitVec w) : BitVec w := (a &&& b) ||| (a &&& c) ||| (b &&& c)

/-- OR, whose Op4 = 15 is the majority (R425). -/
def execOr (f : R3) (s : State) : Host.Outcome State Fault Refusal :=
  (if f.op4 == 15#4 then
    lanes3 f (fun _ a b c _ => com f.nt (majority (com f.na a) (com f.nb b) (com f.nc c))) s
  else fused f (fun _ a b _ => com f.na a ||| com f.nb b) (fun _ => com f.nt) s).finish

/-- The exclusive-or of all bits of a lane (R423). -/
def parity {w : Nat} (v : BitVec w) : Bool := (List.range w).foldl (fun p i => p ^^ v.getLsbD i) false

/-- EOR, whose Op4 = 15 is the parity of three lanes (R423). -/
def execEor (f : R3) (s : State) : Host.Outcome State Fault Refusal :=
  (if f.op4 == 15#4 then
    lanes3 f (fun w a b c _ =>
      com f.nt ((bit1 (parity (com f.na a) ^^ parity (com f.nb b) ^^ parity (com f.nc c))).setWidth w)) s
  else fused f (fun _ a b _ => com f.na a ^^^ com f.nb b) (fun _ => com f.nt) s).finish

/-- ANDI: the immediate is extended with ones (R422). -/
def execAndi (f : RIForm) (s : State) : Host.Outcome State Fault Refusal :=
  (lanesImm (viewOf f) (viewOf f).ones (fun _ a i _ => com (viewOf f).nt (com (viewOf f).na a &&& i)) s).finish

/-- ORI (R426). -/
def execOri (f : RIForm) (s : State) : Host.Outcome State Fault Refusal :=
  (lanesImm (viewOf f) (viewOf f).zext (fun _ a i _ => com (viewOf f).nt (com (viewOf f).na a ||| i)) s).finish

/-- EORI (R424). -/
def execEori (f : RIForm) (s : State) : Host.Outcome State Fault Refusal :=
  (lanesImm (viewOf f) (viewOf f).zext (fun _ a i _ => com (viewOf f).nt (com (viewOf f).na a ^^^ i)) s).finish

end Sys2Proof.Machine
end

