-- ==== Sys2Proof/Machine/MapOnly.lean ====
section
/-! DEFINITION. The instructions that the spec names and gives no effect: each is refused, as its rule says, but for the reserved
24-bit word of STCTX's row (spec/49_capability_system_modifiers.md R860; spec/47_load_store.md R655; NOTES.md lists each with the rule that refuses it). -/

namespace Sys2Proof.Machine

/-- ABS___R1__map (R861). -/
def execAbsR1 (_s : State) : Host.Outcome State Fault Refusal := .refused .mapOnly

/-- NOT (R861). -/
def execNot (_s : State) : Host.Outcome State Fault Refusal := .refused .mapOnly

/-- NNA_TRIG (R861). -/
def execNnatrig (_s : State) : Host.Outcome State Fault Refusal := .refused .mapOnly

/-- NNA_STAT (R861). -/
def execNnastat (_s : State) : Host.Outcome State Fault Refusal := .refused .mapOnly

/-- NNA_MFACT (R861). -/
def execNnamfact (_s : State) : Host.Outcome State Fault Refusal := .refused .mapOnly

/-- MKBOOL (R861). -/
def execMkbool (_s : State) : Host.Outcome State Fault Refusal := .refused .mapOnly

/-- REX (R861). -/
def execRex (_s : State) : Host.Outcome State Fault Refusal := .refused .mapOnly

/-- SM3P0 (R861). -/
def execSm3p0 (_s : State) : Host.Outcome State Fault Refusal := .refused .mapOnly

/-- SM3P1 (R861). -/
def execSm3p1 (_s : State) : Host.Outcome State Fault Refusal := .refused .mapOnly

/-- AES64DS (R861). -/
def execAes64ds (_s : State) : Host.Outcome State Fault Refusal := .refused .mapOnly

/-- AES64DSM (R861). -/
def execAes64dsm (_s : State) : Host.Outcome State Fault Refusal := .refused .mapOnly

/-- AES64ES (R861). -/
def execAes64es (_s : State) : Host.Outcome State Fault Refusal := .refused .mapOnly

/-- AES64ESM (R861). -/
def execAes64esm (_s : State) : Host.Outcome State Fault Refusal := .refused .mapOnly

/-- AES64IM (R861). -/
def execAes64im (_s : State) : Host.Outcome State Fault Refusal := .refused .mapOnly

/-- SHA256SIG0 (R861). -/
def execSha256sig0 (_s : State) : Host.Outcome State Fault Refusal := .refused .mapOnly

/-- SHA256SIG1 (R861). -/
def execSha256sig1 (_s : State) : Host.Outcome State Fault Refusal := .refused .mapOnly

/-- SHA256SUM0 (R861). -/
def execSha256sum0 (_s : State) : Host.Outcome State Fault Refusal := .refused .mapOnly

/-- SHA256SUM1 (R861). -/
def execSha256sum1 (_s : State) : Host.Outcome State Fault Refusal := .refused .mapOnly

/-- SHA512SIG0 (R861). -/
def execSha512sig0 (_s : State) : Host.Outcome State Fault Refusal := .refused .mapOnly

/-- SHA512SIG1 (R861). -/
def execSha512sig1 (_s : State) : Host.Outcome State Fault Refusal := .refused .mapOnly

/-- SHA512SUM0 (R861). -/
def execSha512sum0 (_s : State) : Host.Outcome State Fault Refusal := .refused .mapOnly

/-- SHA512SUM1 (R861). -/
def execSha512sum1 (_s : State) : Host.Outcome State Fault Refusal := .refused .mapOnly

/-- NAND (R862). -/
def execNand (_s : State) : Host.Outcome State Fault Refusal := .refused .mapOnly

/-- NOR (R862). -/
def execNor (_s : State) : Host.Outcome State Fault Refusal := .refused .mapOnly

/-- ENOR (R862). -/
def execEnor (_s : State) : Host.Outcome State Fault Refusal := .refused .mapOnly

/-- CMOVNZ (R862). -/
def execCmovnz (_s : State) : Host.Outcome State Fault Refusal := .refused .mapOnly

/-- DIVSU (R370). -/
def execDivsu (_s : State) : Host.Outcome State Fault Refusal := .refused .mapOnly

/-- MULW (R370). -/
def execMulw (_s : State) : Host.Outcome State Fault Refusal := .refused .mapOnly

/-- MULUW (R370). -/
def execMuluw (_s : State) : Host.Outcome State Fault Refusal := .refused .mapOnly

/-- MULSUW (R370). -/
def execMulsuw (_s : State) : Host.Outcome State Fault Refusal := .refused .mapOnly

/-- MODSU (R370). -/
def execModsu (_s : State) : Host.Outcome State Fault Refusal := .refused .mapOnly

/-- DIVMOD (R370). -/
def execDivmod (_s : State) : Host.Outcome State Fault Refusal := .refused .mapOnly

/-- DIVMODU (R370). -/
def execDivmodu (_s : State) : Host.Outcome State Fault Refusal := .refused .mapOnly

/-- DIF (R862). -/
def execDif (_s : State) : Host.Outcome State Fault Refusal := .refused .mapOnly

/-- NNA_MTWT (R862). -/
def execNnamtwt (_s : State) : Host.Outcome State Fault Refusal := .refused .mapOnly

/-- NNA_MTIN (R862). -/
def execNnamtin (_s : State) : Host.Outcome State Fault Refusal := .refused .mapOnly

/-- NNA_MTBIAS (R862). -/
def execNnamtbias (_s : State) : Host.Outcome State Fault Refusal := .refused .mapOnly

/-- NNA_MTFB (R862). -/
def execNnamtfb (_s : State) : Host.Outcome State Fault Refusal := .refused .mapOnly

/-- NNA_MTMC (R862). -/
def execNnamtmc (_s : State) : Host.Outcome State Fault Refusal := .refused .mapOnly

/-- NNA_MTBC (R862). -/
def execNnamtbc (_s : State) : Host.Outcome State Fault Refusal := .refused .mapOnly

/-- V2BITS (R862). -/
def execV2bits (_s : State) : Host.Outcome State Fault Refusal := .refused .mapOnly

/-- BITS2V (R862). -/
def execBits2v (_s : State) : Host.Outcome State Fault Refusal := .refused .mapOnly

/-- VEX (R862). -/
def execVex (_s : State) : Host.Outcome State Fault Refusal := .refused .mapOnly

/-- VEINS (R862). -/
def execVeins (_s : State) : Host.Outcome State Fault Refusal := .refused .mapOnly

/-- VGNDX (R862). -/
def execVgndx (_s : State) : Host.Outcome State Fault Refusal := .refused .mapOnly

/-- VSHLV (R862). -/
def execVshlv (_s : State) : Host.Outcome State Fault Refusal := .refused .mapOnly

/-- VSHRV (R862). -/
def execVshrv (_s : State) : Host.Outcome State Fault Refusal := .refused .mapOnly

/-- VSETMASK (R862). -/
def execVsetmask (_s : State) : Host.Outcome State Fault Refusal := .refused .mapOnly

/-- VSHLVI (R862). -/
def execVshlvi (_s : State) : Host.Outcome State Fault Refusal := .refused .mapOnly

/-- VSHRVI (R862). -/
def execVshrvi (_s : State) : Host.Outcome State Fault Refusal := .refused .mapOnly

/-- AES64K1I (R862). -/
def execAes64k1i (_s : State) : Host.Outcome State Fault Refusal := .refused .mapOnly

/-- AES64KS2 (R862). -/
def execAes64ks2 (_s : State) : Host.Outcome State Fault Refusal := .refused .mapOnly

/-- SM4ED (R862). -/
def execSm4ed (_s : State) : Host.Outcome State Fault Refusal := .refused .mapOnly

/-- SM4KS (R862). -/
def execSm4ks (_s : State) : Host.Outcome State Fault Refusal := .refused .mapOnly

/-- CLMUL (R862). -/
def execClmul (_s : State) : Host.Outcome State Fault Refusal := .refused .mapOnly

/-- MVVR (R862). -/
def execMvvr (_s : State) : Host.Outcome State Fault Refusal := .refused .mapOnly

/-- FCONST (R566). -/
def execFconst (_s : State) : Host.Outcome State Fault Refusal := .refused .mapOnly

/-- FNOP (R586). -/
def execFnop (_s : State) : Host.Outcome State Fault Refusal := .refused .mapOnly

/-- FMIN (R586). -/
def execFmin (_s : State) : Host.Outcome State Fault Refusal := .refused .mapOnly

/-- FMAX (R586). -/
def execFmax (_s : State) : Host.Outcome State Fault Refusal := .refused .mapOnly

/-- FSUB__code_5 (R586). -/
def execFsubCode5 (_s : State) : Host.Outcome State Fault Refusal := .refused .mapOnly

/-- FMUL (R586). -/
def execFmul (_s : State) : Host.Outcome State Fault Refusal := .refused .mapOnly

/-- FDIV (R586). -/
def execFdiv (_s : State) : Host.Outcome State Fault Refusal := .refused .mapOnly

/-- FSEQ (R586). -/
def execFseq (_s : State) : Host.Outcome State Fault Refusal := .refused .mapOnly

/-- FSLE (R586). -/
def execFsle (_s : State) : Host.Outcome State Fault Refusal := .refused .mapOnly

/-- FNXT (R586). -/
def execFnxt (_s : State) : Host.Outcome State Fault Refusal := .refused .mapOnly

/-- FREM (R586). -/
def execFrem (_s : State) : Host.Outcome State Fault Refusal := .refused .mapOnly

/-- FSGNJ (R586). -/
def execFsgnj (_s : State) : Host.Outcome State Fault Refusal := .refused .mapOnly

/-- FSGNJN (R586). -/
def execFsgnjn (_s : State) : Host.Outcome State Fault Refusal := .refused .mapOnly

/-- FSGNJX (R586). -/
def execFsgnjx (_s : State) : Host.Outcome State Fault Refusal := .refused .mapOnly

/-- FSCALEB (R586). -/
def execFscaleb (_s : State) : Host.Outcome State Fault Refusal := .refused .mapOnly

/-- FNEG (R586). -/
def execFneg (_s : State) : Host.Outcome State Fault Refusal := .refused .mapOnly

/-- FTOI (R586). -/
def execFtoi (_s : State) : Host.Outcome State Fault Refusal := .refused .mapOnly

/-- ITOF (R586). -/
def execItof (_s : State) : Host.Outcome State Fault Refusal := .refused .mapOnly

/-- FSIGN (R586). -/
def execFsign (_s : State) : Host.Outcome State Fault Refusal := .refused .mapOnly

/-- FSIG (R586). -/
def execFsig (_s : State) : Host.Outcome State Fault Refusal := .refused .mapOnly

/-- FCVTS2D (R586). -/
def execFcvts2d (_s : State) : Host.Outcome State Fault Refusal := .refused .mapOnly

/-- FCVTS2Q (R586). -/
def execFcvts2q (_s : State) : Host.Outcome State Fault Refusal := .refused .mapOnly

/-- FCVTD2Q (R586). -/
def execFcvtd2q (_s : State) : Host.Outcome State Fault Refusal := .refused .mapOnly

/-- FCVTH2S (R586). -/
def execFcvth2s (_s : State) : Host.Outcome State Fault Refusal := .refused .mapOnly

/-- FCVTH2D (R586). -/
def execFcvth2d (_s : State) : Host.Outcome State Fault Refusal := .refused .mapOnly

/-- ISNAN (R586). -/
def execIsnan (_s : State) : Host.Outcome State Fault Refusal := .refused .mapOnly

/-- FINITE (R586). -/
def execFinite (_s : State) : Host.Outcome State Fault Refusal := .refused .mapOnly

/-- FCVTQ2H (R586). -/
def execFcvtq2h (_s : State) : Host.Outcome State Fault Refusal := .refused .mapOnly

/-- FCVTQ2S (R586). -/
def execFcvtq2s (_s : State) : Host.Outcome State Fault Refusal := .refused .mapOnly

/-- FCVTQ2D (R586). -/
def execFcvtq2d (_s : State) : Host.Outcome State Fault Refusal := .refused .mapOnly

/-- FCVTH2Q (R586). -/
def execFcvth2q (_s : State) : Host.Outcome State Fault Refusal := .refused .mapOnly

/-- FRSQRT (R586). -/
def execFrsqrt (_s : State) : Host.Outcome State Fault Refusal := .refused .mapOnly

/-- FRES (R586). -/
def execFres (_s : State) : Host.Outcome State Fault Refusal := .refused .mapOnly

/-- FCVTD2S (R586). -/
def execFcvtd2s (_s : State) : Host.Outcome State Fault Refusal := .refused .mapOnly

/-- FCLASS (R586). -/
def execFclass (_s : State) : Host.Outcome State Fault Refusal := .refused .mapOnly

/-- FSIN (R586). -/
def execFsin (_s : State) : Host.Outcome State Fault Refusal := .refused .mapOnly

/-- FTAN (R586). -/
def execFtan (_s : State) : Host.Outcome State Fault Refusal := .refused .mapOnly

/-- FATAN (R586). -/
def execFatan (_s : State) : Host.Outcome State Fault Refusal := .refused .mapOnly

/-- FSIGMOID (R586). -/
def execFsigmoid (_s : State) : Host.Outcome State Fault Refusal := .refused .mapOnly

/-- DFLDD (R645). -/
def execDfldd (_s : State) : Host.Outcome State Fault Refusal := .refused .mapOnly

/-- DFLDQ (R645). -/
def execDfldq (_s : State) : Host.Outcome State Fault Refusal := .refused .mapOnly

/-- PLDW (R645). -/
def execPldw (_s : State) : Host.Outcome State Fault Refusal := .refused .mapOnly

/-- PLDT (R645). -/
def execPldt (_s : State) : Host.Outcome State Fault Refusal := .refused .mapOnly

/-- PLDO (R645). -/
def execPldo (_s : State) : Host.Outcome State Fault Refusal := .refused .mapOnly

/-- LDCAPQ (R805). -/
def execLdcapq (_s : State) : Host.Outcome State Fault Refusal := .refused .wide128

/-- DFSTD (R658). -/
def execDfstd (_s : State) : Host.Outcome State Fault Refusal := .refused .mapOnly

/-- PSTW (R658). -/
def execPstw (_s : State) : Host.Outcome State Fault Refusal := .refused .mapOnly

/-- PSTT (R658). -/
def execPstt (_s : State) : Host.Outcome State Fault Refusal := .refused .mapOnly

/-- PSTO (R658). -/
def execPsto (_s : State) : Host.Outcome State Fault Refusal := .refused .mapOnly

/-- STCAPQ (R807). -/
def execStcapq (_s : State) : Host.Outcome State Fault Refusal := .refused .wide128

/-- STPTRT (R661). -/
def execStptrt (_s : State) : Host.Outcome State Fault Refusal := .refused .mapOnly

/-- IRQ___BADDO__Fn4___15 (R732). -/
def execIrq40 (_s : State) : Host.Outcome State Fault Refusal := .refused .branchCondition15

/-- IRQ___BADDO__Fn4___15___register_target (R732). -/
def execIrq48 (_s : State) : Host.Outcome State Fault Refusal := .refused .branchCondition15

/-- IRQ___BADDO__root_opcode_41_49__Fn4___15 (R732). -/
def execIrq41 (_s : State) : Host.Outcome State Fault Refusal := .refused .branchCondition15

/-- IRQ___BADDO__root_opcode_41_49__Fn4___15___register_targ (R732). -/
def execIrq49 (_s : State) : Host.Outcome State Fault Refusal := .refused .branchCondition15

/-- DFBcc (R734). -/
def execDfbcc (_s : State) : Host.Outcome State Fault Refusal := .refused .decimalPositBranch

/-- DFBcc__register_target (R734). -/
def execDfbccReg (_s : State) : Host.Outcome State Fault Refusal := .refused .decimalPositBranch

/-- PBcc (R734). -/
def execPbcc (_s : State) : Host.Outcome State Fault Refusal := .refused .decimalPositBranch

/-- PBcc__register_target (R734). -/
def execPbccReg (_s : State) : Host.Outcome State Fault Refusal := .refused .decimalPositBranch

/-- CBcc__CBEQ__CBLE__CBLT__CBNE (R735). -/
def execCbcc (_s : State) : Host.Outcome State Fault Refusal := .refused .capabilityBranch

/-- CBcc__CBEQ__CBLE__CBLT__CBNE___register_target (R735). -/
def execCbccReg (_s : State) : Host.Outcome State Fault Refusal := .refused .capabilityBranch

/-- CJMP___CJSR__root_opcode_34 (R752). -/
def execCjmp34 (_s : State) : Host.Outcome State Fault Refusal := .refused .capabilityJump

/-- CJMP___CJSR__root_opcode_37 (R752). -/
def execCjmp37 (_s : State) : Host.Outcome State Fault Refusal := .refused .capabilityJump

/-- CJMP___CJSR__root_opcode_39 (R752). -/
def execCjmp39 (_s : State) : Host.Outcome State Fault Refusal := .refused .capabilityJump

/-- CRetd (R815). -/
def execCRetd (_s : State) : Host.Outcome State Fault Refusal := .refused .mapOnly

/-- CInvoke (R815). -/
def execCInvoke (_s : State) : Host.Outcome State Fault Refusal := .refused .mapOnly

/-- CCopyType (R815). -/
def execCCopyType (_s : State) : Host.Outcome State Fault Refusal := .refused .mapOnly

/-- CIncOffs (R815). -/
def execCIncOffs (_s : State) : Host.Outcome State Fault Refusal := .refused .mapOnly

/-- CSeal (R815). -/
def execCSeal (_s : State) : Host.Outcome State Fault Refusal := .refused .mapOnly

/-- CSetAddr (R815). -/
def execCSetAddr (_s : State) : Host.Outcome State Fault Refusal := .refused .mapOnly

/-- CSetBounds (R815). -/
def execCSetBounds (_s : State) : Host.Outcome State Fault Refusal := .refused .mapOnly

/-- CSetFlags (R815). -/
def execCSetFlags (_s : State) : Host.Outcome State Fault Refusal := .refused .mapOnly

/-- CSetHigh (R815). -/
def execCSetHigh (_s : State) : Host.Outcome State Fault Refusal := .refused .mapOnly

/-- CSetOffs (R815). -/
def execCSetOffs (_s : State) : Host.Outcome State Fault Refusal := .refused .mapOnly

/-- CSpeicalRW (R815). -/
def execCSpeicalRW (_s : State) : Host.Outcome State Fault Refusal := .refused .mapOnly

/-- CUnseal (R815). -/
def execCUnseal (_s : State) : Host.Outcome State Fault Refusal := .refused .mapOnly

/-- CGetFlags (R815). -/
def execCGetFlags (_s : State) : Host.Outcome State Fault Refusal := .refused .mapOnly

/-- CGetHigh (R815). -/
def execCGetHigh (_s : State) : Host.Outcome State Fault Refusal := .refused .mapOnly

/-- CGetLen (R815). -/
def execCGetLen (_s : State) : Host.Outcome State Fault Refusal := .refused .mapOnly

/-- CGetOffs (R815). -/
def execCGetOffs (_s : State) : Host.Outcome State Fault Refusal := .refused .mapOnly

/-- CGetPerms (R815). -/
def execCGetPerms (_s : State) : Host.Outcome State Fault Refusal := .refused .mapOnly

/-- CGetTag (R815). -/
def execCGetTag (_s : State) : Host.Outcome State Fault Refusal := .refused .mapOnly

/-- CGetTop (R815). -/
def execCGetTop (_s : State) : Host.Outcome State Fault Refusal := .refused .mapOnly

/-- CGetType (R815). -/
def execCGetType (_s : State) : Host.Outcome State Fault Refusal := .refused .mapOnly

/-- CLoadTags (R815). -/
def execCLoadTags (_s : State) : Host.Outcome State Fault Refusal := .refused .mapOnly

/-- CAlignMsk (R815). -/
def execCAlignMsk (_s : State) : Host.Outcome State Fault Refusal := .refused .mapOnly

/-- CRoundLen (R815). -/
def execCRoundLen (_s : State) : Host.Outcome State Fault Refusal := .refused .mapOnly

/-- CSealEntry (R815). -/
def execCSealEntry (_s : State) : Host.Outcome State Fault Refusal := .refused .mapOnly

/-- CGetBase (R815). -/
def execCGetBase (_s : State) : Host.Outcome State Fault Refusal := .refused .mapOnly

/-- QEXT (R848). -/
def execQext (_s : State) : Host.Outcome State Fault Refusal := .refused .qext

/-- PRED (R846). -/
def execPred (_s : State) : Host.Outcome State Fault Refusal := .refused .pred

/-- PFXA___PFXB___PFXC (R852). -/
def execPfx (_s : State) : Host.Outcome State Fault Refusal := .refused .pfx

/-- R3.128 (R878). -/
def execR3x128 (_s : State) : Host.Outcome State Fault Refusal := .refused .wide128

/-- FLT.128 (R878). -/
def execFlt128 (_s : State) : Host.Outcome State Fault Refusal := .refused .wide128

/-- DFLT (R586). -/
def execDflt (_s : State) : Host.Outcome State Fault Refusal := .refused .mapOnly

/-- PST (R586). -/
def execPst (_s : State) : Host.Outcome State Fault Refusal := .refused .mapOnly

/-- CHKSC (R864). -/
def execChksc (_s : State) : Host.Outcome State Fault Refusal := .refused .mapOnly

/-- STCTX (R871); a 24-bit word with its root opcode is reserved (spec/47_load_store.md R655). -/
def execStctx (s : State) : Host.Outcome State Fault Refusal :=
  if fld s.ir 0 2 = 0#2 then (raiseUnimplemented s).finish else .refused .mapOnly

/-- ENTER (R874). -/
def execEnter (_s : State) : Host.Outcome State Fault Refusal := .refused .mapOnly

/-- LEAVE (R874). -/
def execLeave (_s : State) : Host.Outcome State Fault Refusal := .refused .mapOnly

/-- PUSH (R875). -/
def execPush (_s : State) : Host.Outcome State Fault Refusal := .refused .mapOnly

/-- POP (R875). -/
def execPop (_s : State) : Host.Outcome State Fault Refusal := .refused .mapOnly

/-- BLEND (R876). -/
def execBlend (_s : State) : Host.Outcome State Fault Refusal := .refused .mapOnly

/-- BFIND (R876). -/
def execBfind (_s : State) : Host.Outcome State Fault Refusal := .refused .mapOnly

/-- BCMP (R876). -/
def execBcmp (_s : State) : Host.Outcome State Fault Refusal := .refused .mapOnly

/-- BLOCK (R876). -/
def execBlock (_s : State) : Host.Outcome State Fault Refusal := .refused .mapOnly

/-- AMO (R870). -/
def execAmo (_s : State) : Host.Outcome State Fault Refusal := .refused .mapOnly

/-- CAS (R870). -/
def execCas (_s : State) : Host.Outcome State Fault Refusal := .refused .mapOnly

/-- STOP (R877). -/
def execStopOp (_s : State) : Host.Outcome State Fault Refusal := .refused .mapOnly

/-- FENCE (R872). -/
def execFence (_s : State) : Host.Outcome State Fault Refusal := .refused .mapOnly

/-- PFI (R873). -/
def execPfi (_s : State) : Host.Outcome State Fault Refusal := .refused .mapOnly

end Sys2Proof.Machine
end

