-- ==== Sys2Proof/Machine/Move.lean ====
section
/-! DEFINITION. Data movement (spec/42_data_movement.md). -/

namespace Sys2Proof.Machine

/-! ## BMAP, CMOV, MUX (R380, R381, R390) -/

/-- Nybble `k` of a byte map: the target of source byte `k`. -/
def mapTarget (m : BitVec 32) (k : Nat) : Nat := (m.extractLsb' (4 * k) 4).toNat

/-- Target byte `t` of a byte map: zero where no source byte is mapped to it, free where two are (R380). -/
def mappedByte (a : Word) (m : BitVec 32) (u : Word) (t : Nat) : BitVec 8 :=
  match (List.range 8).filter fun k => mapTarget m k == t with
  | [] => 0#8
  | [k] => a.extractLsb' (8 * k) 8
  | _ => u.extractLsb' (8 * t) 8

/-- The byte map (R380). -/
def byteMap (a : Word) (m : BitVec 32) (u : Word) : Word :=
  let b := mappedByte a m u
  b 7 ++ b 6 ++ b 5 ++ b 4 ++ b 3 ++ b 2 ++ b 1 ++ b 0

/-- BMAP: Op4 0 maps bytes; the other named forms and the narrow precisions have no meaning (R380). -/
def execBmap (f : R3) (s : State) : Host.Outcome State Fault Refusal :=
  ((requireDefined (f.op4.toNat < 6) s).bind fun _ s =>
   (require (f.op4 == 0#4 && f.prec == .octa) .bmapForm s).bind fun _ s =>
   (operand .a f.ra s).bind fun a s =>
   (operand .c f.rc s).bind fun c s =>
   (target f.rt s).bind fun _ s =>
   finishWrite f.rt 6 (com f.nt (byteMap (com f.na a) ((com f.nc c).setWidth 32) (s.free slotResult))) s).finish

/-- CMOV (R381). -/
def execCmov (f : R3) (s : State) : Host.Outcome State Fault Refusal :=
  (lanes3 f (fun _ a b c _ => neg f.nt (if neg f.na a != 0 then neg f.nb b else neg f.nc c)) s).finish

/-- MUX: by element, or, in the octa precision with Op4 = 1, by bit (R390). -/
def execMux (f : R3) (s : State) : Host.Outcome State Fault Refusal :=
  ((requireDefined (f.op4 == 0#4 || (f.op4 == 1#4 && f.prec == .octa)) s).bind fun _ s =>
   lanes3 f (fun _ a b c _ =>
     let a := com f.na a
     let b := com f.nb b
     let c := com f.nc c
     com f.nt (if f.op4 == 1#4 then (a &&& b) ||| (~~~a &&& c) else if a != 0 then b else c)) s).finish

/-! ## Minimum, middle, maximum (R382 to R389) -/

/-- The smaller of two lanes. -/
def minLane {w : Nat} (signed : Bool) (a b : BitVec w) : BitVec w := if lessThan signed b a then b else a
/-- The larger of two lanes. -/
def maxLane {w : Nat} (signed : Bool) (a b : BitVec w) : BitVec w := if lessThan signed a b then b else a
/-- The median of three lanes (R385). -/
def medianLane {w : Nat} (signed : Bool) (a b c : BitVec w) : BitVec w :=
  maxLane signed (minLane signed a b) (minLane signed (maxLane signed a b) c)
/-- The printed operation of MID3 (R385). -/
def printedMid {w : Nat} (signed : Bool) (a b c : BitVec w) : BitVec w :=
  if lessThan signed b a && lessThan signed a c then a
  else if lessThan signed a b && lessThan signed b c then b
  else c

/-- A lane function of the three operands under sign control (R382). -/
def threeWay (f : R3) (g : (w : Nat) → BitVec w → BitVec w → BitVec w → BitVec w) (s : State) : Res Unit :=
  lanes3 f (fun w a b c _ => neg f.nt (g w (neg f.na a) (neg f.nb b) (neg f.nc c))) s

/-- MID3 and MIDU3 under `MID3_RULE` (R385, R386); the registers are checked before the values are looked at (spec/30_encoding.md
R222). -/
def mid3 (signed : Bool) (f : R3) (s : State) : Res Unit :=
  match s.par.mid3 with
  | .median => threeWay f (fun _ => medianLane signed) s
  | .printed => threeWay f (fun _ => printedMid signed) s
  | .refuse =>
    (operand .a f.ra s).bind fun a s =>
    (operand .b f.rb s).bind fun b s =>
    (operand .c f.rc s).bind fun c s =>
    (target f.rt s).bind fun _ s =>
    let by' (g : (w : Nat) → BitVec w → BitVec w → BitVec w → BitVec w) : Word :=
      mapLanes f.prec (fun w a b c _ => g w (neg f.na a) (neg f.nb b) (neg f.nc c)) a b c 0#64
    (require (by' (fun _ => medianLane signed) == by' (fun _ => printedMid signed)) .mid3 s).bind fun _ s =>
    threeWay f (fun _ => medianLane signed) s

/-- MIN3 (R387). -/
def execMin3 (f : R3) (s : State) : Host.Outcome State Fault Refusal :=
  (threeWay f (fun _ a b c => minLane true a (minLane true b c)) s).finish
/-- MID3 (R385). -/
def execMid3 (f : R3) (s : State) : Host.Outcome State Fault Refusal := (mid3 true f s).finish
/-- MAX3 (R383). -/
def execMax3 (f : R3) (s : State) : Host.Outcome State Fault Refusal :=
  (threeWay f (fun _ a b c => maxLane true a (maxLane true b c)) s).finish
/-- MINU3 (R389). -/
def execMinu3 (f : R3) (s : State) : Host.Outcome State Fault Refusal :=
  (threeWay f (fun _ a b c => minLane false a (minLane false b c)) s).finish
/-- MIDU3 (R386). -/
def execMidu3 (f : R3) (s : State) : Host.Outcome State Fault Refusal := (mid3 false f s).finish
/-- MAXU3 (R384). -/
def execMaxu3 (f : R3) (s : State) : Host.Outcome State Fault Refusal :=
  (threeWay f (fun _ a b c => maxLane false a (maxLane false b c)) s).finish

/-! ## MOVE (R388) -/

/-- The physical register of a field of MOVE: with the A bit, 31 is the safe stack pointer. -/
def movePhysical (f : MoveF) (r : BitVec 6) (s : State) : BitVec 6 :=
  if r == 31#6 && f.a then 31#6 else s.physical r

/-- Whether the mode may use a register field of MOVE. -/
def moveAllowed (f : MoveF) (r : BitVec 6) (s : State) : Bool :=
  if r == 31#6 && f.a then (lowestMode 31#6).ule s.mode else s.mayUse r

/-- The source of MOVE: a following constant or the register. -/
def moveSource (f : MoveF) (s : State) : Res Word :=
  match s.constant .a f.ra with
  | some k => .ok k s
  | none => if moveAllowed f f.ra s then .ok (s.gprPhys (movePhysical f f.ra s)) s else raisePrivilege s

/-- The check of the target of MOVE. -/
def moveTarget (f : MoveF) (s : State) : Res Unit :=
  if (s.constant .t f.rt).isSome then .stop .pfx
  else if moveAllowed f f.rt s then .ok () s else raisePrivilege s

/-- MOVE (R388). -/
def execMove (f : MoveF) (s : State) : Host.Outcome State Fault Refusal :=
  ((moveSource f s).bind fun v s =>
   (moveTarget f s).bind fun _ s =>
   (require (!f.na && !f.nt) .signControl s).bind fun _ s =>
   .ok () ((s.setPhys (movePhysical f f.rt s) v false).advance 3)).finish

/-! ## REV (R392) -/

/-- The units of `unit` bits of a lane in reverse order. -/
def revLane (unit : Nat) {w : Nat} (v : BitVec w) : BitVec w :=
  if w ≤ unit then v
  else
    (List.range (w / unit)).foldl
      (fun r k => r ||| (v.extractLsb' (unit * (w / unit - 1 - k)) unit).setWidth w <<< (unit * k)) 0

/-- The REV instructions (R392). -/
def rev (unit : Nat) (f : R1) (s : State) : Res Unit :=
  lanes1 f (fun _ a => com f.nt (revLane unit (com f.na a))) s

/-- REVBIT (R392). -/
def execRevbit (f : R1) (s : State) : Host.Outcome State Fault Refusal := (rev 1 f s).finish
/-- REVBITP (R392). -/
def execRevbitp (f : R1) (s : State) : Host.Outcome State Fault Refusal := (rev 2 f s).finish
/-- REVN (R392). -/
def execRevn (f : R1) (s : State) : Host.Outcome State Fault Refusal := (rev 4 f s).finish
/-- REVB (R392). -/
def execRevb (f : R1) (s : State) : Host.Outcome State Fault Refusal := (rev 8 f s).finish
/-- REVW (R392). -/
def execRevw (f : R1) (s : State) : Host.Outcome State Fault Refusal := (rev 16 f s).finish
/-- REVT (R392). -/
def execRevt (f : R1) (s : State) : Host.Outcome State Fault Refusal := (rev 32 f s).finish
/-- REVO (R392). -/
def execRevo (f : R1) (s : State) : Host.Outcome State Fault Refusal := (rev 64 f s).finish

/-! ## SX and ZX (R393, R394) -/

/-- A value sign-extended from a bit. -/
def sextFrom (b : Nat) (v : Word) : Word := (v <<< (63 - b)).sshiftRight (63 - b)
/-- A value zero-extended from a bit. -/
def zextFrom (b : Nat) (v : Word) : Word := v <<< (63 - b) >>> (63 - b)

/-- The target register extended in place. -/
def extended (rt : BitVec 6) (g : Word → Word) (s : State) : Res Unit :=
  (target rt s).bind fun _ s => finishWrite rt 3 (g (s.gpr rt)) s

/-- SX with an immediate bit number (R393). -/
def execSxImm (f : ExtImm) (s : State) : Host.Outcome State Fault Refusal :=
  ((require (!f.nt) .signControl s).bind fun _ s => extended f.rt (sextFrom f.imm.toNat) s).finish

/-- SX with a bit number from a register (R393). -/
def execSxReg (f : ExtReg) (s : State) : Host.Outcome State Fault Refusal :=
  ((require (!f.na && !f.nt) .signControl s).bind fun _ s =>
   (operand .a f.ra s).bind fun a s => extended f.rt (sextFrom (a.toNat % 64)) s).finish

/-- ZX (R394). -/
def execZx (f : ExtImm) (s : State) : Host.Outcome State Fault Refusal :=
  ((require (!f.nt) .signControl s).bind fun _ s => extended f.rt (zextFrom f.imm.toNat) s).finish

end Sys2Proof.Machine
end

