-- ==== Sys2Proof/Machine/MulDiv.lean ====
section
/-! DEFINITION. Multiply, divide, remainder and bit matrix multiply (spec/41_multiply_divide.md). -/

namespace Sys2Proof.Machine

/-- The product of the lanes with the second operation (R350, R357). The low half of a product does not depend on the
signs. -/
def multiplied (f : R3) (s : State) : Res Unit :=
  fused f (fun _ a b _ => neg f.na a * neg f.nb b) (fun _ => neg f.nt) s

/-- MUL (R357). -/
def execMul (f : R3) (s : State) : Host.Outcome State Fault Refusal := (multiplied f s).finish
/-- MULSU (R359). -/
def execMulsu (f : R3) (s : State) : Host.Outcome State Fault Refusal := (multiplied f s).finish
/-- MULU, whose Op4 = 9 names an immediate that no field holds (R360). -/
def execMulu (f : R3) (s : State) : Host.Outcome State Fault Refusal :=
  ((require (f.op4 != 9#4) .muluImmediate s).bind fun _ s => multiplied f s).finish

/-- The product with an immediate (R358, R361). -/
def multipliedImm (f : RIForm) (s : State) : Res Unit :=
  lanesImm (viewOf f) (viewOf f).sext (fun _ a i _ => neg (viewOf f).nt (neg (viewOf f).na a * i)) s

/-- MULI (R358). -/
def execMuli (f : RIForm) (s : State) : Host.Outcome State Fault Refusal := (multipliedImm f s).finish
/-- MULUI (R361). -/
def execMului (f : RIForm) (s : State) : Host.Outcome State Fault Refusal := (multipliedImm f s).finish

/-- The signed quotient does not fit: the most negative number by -1 (R351). -/
def divOverflows {w : Nat} (a b : BitVec w) : Bool := a == BitVec.intMin w && b == BitVec.allOnes w

/-- The signed quotient, rounded toward zero; free for a zero divisor and at the overflow (R351, R353). -/
def squot {w : Nat} (a b u : BitVec w) : BitVec w := if b == 0 || divOverflows a b then u else a.sdiv b
/-- The signed remainder, with the dividend's sign; free for a zero divisor and at the overflow (R351, R362). -/
def srmd {w : Nat} (a b u : BitVec w) : BitVec w := if b == 0 || divOverflows a b then u else a.srem b
/-- The unsigned quotient; free for a zero divisor (R355). -/
def uquot {w : Nat} (a b u : BitVec w) : BitVec w := if b == 0 then u else a / b
/-- The unsigned remainder; free for a zero divisor (R363). -/
def urmd {w : Nat} (a b u : BitVec w) : BitVec w := if b == 0 then u else a % b

/-- DIV and REM: a zero divisor in any lane raises Divide by zero and writes nothing (R351). -/
def dividedSigned (f : R3) (g : (w : Nat) → BitVec w → BitVec w → BitVec w → BitVec w) (s : State) : Res Unit :=
  (requireDefined (fuseDefined f.op4) s).bind fun _ s =>
  (operand .a f.ra s).bind fun a s =>
  (operand .b f.rb s).bind fun b s =>
  (operand .c f.rc s).bind fun c s =>
  (target f.rt s).bind fun _ s =>
  if anyLane f.prec (fun _ v => v == 0) b then raiseDivideByZero s
  else
    finishWrite f.rt 6
      (mapLanes f.prec (fun w a b c u => neg f.nt (fuse f.op4 f.nc (g w (neg f.na a) (neg f.nb b) u) c)) a b c
        (s.free slotResult)) s

/-- DIV (R353). -/
def execDiv (f : R3) (s : State) : Host.Outcome State Fault Refusal := (dividedSigned f (fun _ => squot) s).finish
/-- REM (R362). -/
def execRem (f : R3) (s : State) : Host.Outcome State Fault Refusal := (dividedSigned f (fun _ => srmd) s).finish

/-- DIVU (R355). -/
def execDivu (f : R3) (s : State) : Host.Outcome State Fault Refusal :=
  (fused f (fun _ a b u => uquot (neg f.na a) (neg f.nb b) u) (fun _ => neg f.nt) s).finish
/-- REMU (R363). -/
def execRemu (f : R3) (s : State) : Host.Outcome State Fault Refusal :=
  (fused f (fun _ a b u => urmd (neg f.na a) (neg f.nb b) u) (fun _ => neg f.nt) s).finish

/-- DIVI (R354). -/
def execDivi (f : RIForm) (s : State) : Host.Outcome State Fault Refusal :=
  (lanesImm (viewOf f) (viewOf f).sext (fun _ a i u => neg (viewOf f).nt (squot (neg (viewOf f).na a) i u)) s).finish
/-- DIVUI (R356). -/
def execDivui (f : RIForm) (s : State) : Host.Outcome State Fault Refusal :=
  (lanesImm (viewOf f) (viewOf f).sext (fun _ a i u => neg (viewOf f).nt (uquot (neg (viewOf f).na a) i u)) s).finish

/-- An element of a register read as an 8 by 8 bit matrix (R352). -/
def matrixBit (v : Word) (i j : Nat) : Bool := v.getLsbD (63 - (8 * i + j))

/-- The bit matrix product (R352). -/
def matrixProduct (a b : Word) : Word :=
  BitVec.ofFnLE fun (n : Fin 64) =>
    let i := (63 - n.val) / 8
    let j := (63 - n.val) % 8
    (List.range 8).any fun k => matrixBit a i k && matrixBit b k j

/-- BMM (R352). -/
def execBmm (f : Bmm) (s : State) : Host.Outcome State Fault Refusal :=
  ((require (f.op3 == 0#3) .drawnField s).bind fun _ s =>
   (operand .a f.ra s).bind fun a s =>
   (operand .b f.rb s).bind fun b s =>
   (target f.rt s).bind fun _ s =>
   finishWrite f.rt 6 (com f.nt (matrixProduct (com f.na a) (com f.nb b))) s).finish

end Sys2Proof.Machine
end

