-- ==== Sys2Proof/Machine/Reserved.lean ====
section
/-! DEFINITION. The reserved encodings that have a row of the opcode table: each raises Unimplemented Instruction, cause 4
(spec/30_encoding.md R260; spec/92_eei_decisions.md D9). -/

namespace Sys2Proof.Machine

/-- CSR_Op3_4: a reserved encoding, Unimplemented Instruction (R317). -/
def execCsrOp4 (s : State) : Host.Outcome State Fault Refusal := (raiseUnimplemented s).finish

/-- reserved_Func4_7: a reserved encoding, Unimplemented Instruction (R502). -/
def execReservedFunc4x7 (s : State) : Host.Outcome State Fault Refusal := (raiseUnimplemented s).finish

/-- reserved_Func4_15: a reserved encoding, Unimplemented Instruction (R502). -/
def execReservedFunc4x15 (s : State) : Host.Outcome State Fault Refusal := (raiseUnimplemented s).finish

/-- reserved__root_opcode_65__Prc2___3: a reserved encoding, Unimplemented Instruction (R633). -/
def execReservedLd65x3 (s : State) : Host.Outcome State Fault Refusal := (raiseUnimplemented s).finish

/-- reserved__root_opcode_40_48__Fn4___14: a reserved encoding, Unimplemented Instruction (R710). -/
def execReservedBcc40x14 (s : State) : Host.Outcome State Fault Refusal := (raiseUnimplemented s).finish

/-- reserved__root_opcode_40_48__Fn4___14___register_target: a reserved encoding, Unimplemented Instruction (R710). -/
def execReservedBcc48x14 (s : State) : Host.Outcome State Fault Refusal := (raiseUnimplemented s).finish

/-- reserved__root_opcode_41_49__Fn4___6: a reserved encoding, Unimplemented Instruction (R710). -/
def execReservedBcc41x6 (s : State) : Host.Outcome State Fault Refusal := (raiseUnimplemented s).finish

/-- reserved__root_opcode_41_49__Fn4___6___register_target: a reserved encoding, Unimplemented Instruction (R710). -/
def execReservedBcc49x6 (s : State) : Host.Outcome State Fault Refusal := (raiseUnimplemented s).finish

/-- reserved__root_opcode_41_49__Fn4___7: a reserved encoding, Unimplemented Instruction (R710). -/
def execReservedBcc41x7 (s : State) : Host.Outcome State Fault Refusal := (raiseUnimplemented s).finish

/-- reserved__root_opcode_41_49__Fn4___7___register_target: a reserved encoding, Unimplemented Instruction (R710). -/
def execReservedBcc49x7 (s : State) : Host.Outcome State Fault Refusal := (raiseUnimplemented s).finish

/-- reserved__root_opcode_41_49__Fn4___8: a reserved encoding, Unimplemented Instruction (R710). -/
def execReservedBcc41x8 (s : State) : Host.Outcome State Fault Refusal := (raiseUnimplemented s).finish

/-- reserved__root_opcode_41_49__Fn4___8___register_target: a reserved encoding, Unimplemented Instruction (R710). -/
def execReservedBcc49x8 (s : State) : Host.Outcome State Fault Refusal := (raiseUnimplemented s).finish

/-- reserved__root_opcode_41_49__Fn4___9: a reserved encoding, Unimplemented Instruction (R710). -/
def execReservedBcc41x9 (s : State) : Host.Outcome State Fault Refusal := (raiseUnimplemented s).finish

/-- reserved__root_opcode_41_49__Fn4___9___register_target: a reserved encoding, Unimplemented Instruction (R710). -/
def execReservedBcc49x9 (s : State) : Host.Outcome State Fault Refusal := (raiseUnimplemented s).finish

/-- reserved__root_opcode_41_49__Fn4___14: a reserved encoding, Unimplemented Instruction (R710). -/
def execReservedBcc41x14 (s : State) : Host.Outcome State Fault Refusal := (raiseUnimplemented s).finish

/-- reserved__root_opcode_41_49__Fn4___14___register_target: a reserved encoding, Unimplemented Instruction (R710). -/
def execReservedBcc49x14 (s : State) : Host.Outcome State Fault Refusal := (raiseUnimplemented s).finish

/-- reserved_root_opcode_12: a reserved encoding, Unimplemented Instruction (R878). -/
def execReservedRoot12 (s : State) : Host.Outcome State Fault Refusal := (raiseUnimplemented s).finish

/-- reserved_root_opcode_20: a reserved encoding, Unimplemented Instruction (R878). -/
def execReservedRoot20 (s : State) : Host.Outcome State Fault Refusal := (raiseUnimplemented s).finish

/-- reserved_root_opcode_56: a reserved encoding, Unimplemented Instruction (R878). -/
def execReservedRoot56 (s : State) : Host.Outcome State Fault Refusal := (raiseUnimplemented s).finish

/-- reserved_root_opcode_91: a reserved encoding, Unimplemented Instruction (R878). -/
def execReservedRoot91 (s : State) : Host.Outcome State Fault Refusal := (raiseUnimplemented s).finish

/-- reserved_root_opcode_110: a reserved encoding, Unimplemented Instruction (R878). -/
def execReservedRoot110 (s : State) : Host.Outcome State Fault Refusal := (raiseUnimplemented s).finish

/-- reserved_root_opcode_116: a reserved encoding, Unimplemented Instruction (R878). -/
def execReservedRoot116 (s : State) : Host.Outcome State Fault Refusal := (raiseUnimplemented s).finish

/-- reserved_root_opcode_117: a reserved encoding, Unimplemented Instruction (R878). -/
def execReservedRoot117 (s : State) : Host.Outcome State Fault Refusal := (raiseUnimplemented s).finish

/-- reserved_root_opcode_118: a reserved encoding, Unimplemented Instruction (R878). -/
def execReservedRoot118 (s : State) : Host.Outcome State Fault Refusal := (raiseUnimplemented s).finish

/-- reserved_root_opcode_119: a reserved encoding, Unimplemented Instruction (R878). -/
def execReservedRoot119 (s : State) : Host.Outcome State Fault Refusal := (raiseUnimplemented s).finish

/-- reserved_root_opcode_123: a reserved encoding, Unimplemented Instruction (R878). -/
def execReservedRoot123 (s : State) : Host.Outcome State Fault Refusal := (raiseUnimplemented s).finish

/-- reserved_root_opcode_125: a reserved encoding, Unimplemented Instruction (R878). -/
def execReservedRoot125 (s : State) : Host.Outcome State Fault Refusal := (raiseUnimplemented s).finish

/-- reserved_root_opcode_126: a reserved encoding, Unimplemented Instruction (R878). -/
def execReservedRoot126 (s : State) : Host.Outcome State Fault Refusal := (raiseUnimplemented s).finish

/-- reserved__root_opcode_16__48-bit: a reserved encoding, Unimplemented Instruction (R878). -/
def execReservedRoot1648 (s : State) : Host.Outcome State Fault Refusal := (raiseUnimplemented s).finish

/-- reserved__root_opcode_16__72-bit: a reserved encoding, Unimplemented Instruction (R878). -/
def execReservedRoot1672 (s : State) : Host.Outcome State Fault Refusal := (raiseUnimplemented s).finish

/-- reserved__root_opcode_16__96-bit: a reserved encoding, Unimplemented Instruction (R878). -/
def execReservedRoot1696 (s : State) : Host.Outcome State Fault Refusal := (raiseUnimplemented s).finish

end Sys2Proof.Machine
end

