-- ==== Sys2Proof/Machine/Shift.lean ====
section
/-! DEFINITION. Shifts, rotates and bit-fields (spec/45_shift_bitfield.md). -/

namespace Sys2Proof.Machine

/-- The slot of the upper half of a deposited pair. -/
def slotUpper : Nat := 7

/-- A mask range as the instruction gives it; `ok` is false where the control bits 7 or 15 of Rc are set (R504). -/
structure Range where
  mb : Nat
  me : Nat
  ok : Bool
deriving DecidableEq, Repr

/-- The range of an immediate form. -/
def rangeImm (f : ShiftI) : Range := ⟨f.mb.toNat, f.me.toNat, true⟩

/-- The range that the value of Rc packs (R504). -/
def rangeReg (c : Word) : Range :=
  ⟨(c.extractLsb' 0 7).toNat, (c.extractLsb' 8 7).toNat, !c.getLsbD 7 && !c.getLsbD 15⟩

/-- The range names bits of a pair of lanes of `w` bits (R505). -/
def Range.valid (r : Range) (w : Nat) : Bool := r.ok && r.mb ≤ r.me && r.me < w + w

/-- Ones in the bits of a range of a pair. -/
def Range.mask (r : Range) (w : Nat) : BitVec (w + w) :=
  (BitVec.allOnes (w + w) >>> (w + w - (r.me - r.mb + 1))) <<< r.mb

/-! ## Lanes: `p` is the pair, Ra in the low half (R504) -/

/-- The field of a range, zero-extended (R509). -/
def fieldZext {w : Nat} (r : Range) (p : BitVec (w + w)) : BitVec w := ((p &&& r.mask w) >>> r.mb).setWidth w

/-- The field of a range, sign-extended over the pair's width (R512). -/
def fieldSext {w : Nat} (r : Range) (p : BitVec (w + w)) : BitVec (w + w) :=
  (p <<< (w + w - 1 - r.me)).sshiftRight (w + w - 1 - r.me + r.mb)

/-- Right shift logical (R509). -/
def srlpLane (r : Range) {w : Nat} (p : BitVec (w + w)) : BitVec w := fieldZext r p
/-- Right shift arithmetic (R512). -/
def srapLane (r : Range) {w : Nat} (p : BitVec (w + w)) : BitVec w := (fieldSext r p).setWidth w
/-- Right shift arithmetic, rounded toward zero: an inexact negative result goes up by one (R514). -/
def sraprzLane (r : Range) {w : Nat} (p : BitVec (w + w)) : BitVec w :=
  let q := fieldSext r p
  (if q.msb && p.toNat % 2 ^ r.mb != 0 then q + 1 else q).setWidth w
/-- Right shift arithmetic, rounded up: the last bit shifted out is added (R515). -/
def srapruLane (r : Range) {w : Nat} (p : BitVec (w + w)) : BitVec w :=
  let q := fieldSext r p
  (if r.mb != 0 && p.getLsbD (r.mb - 1) then q + 1 else q).setWidth w

/-- Left shift of the pair, the upper half for `h`; free where the count reaches the pair's width (R506). -/
def sllpLane (h : Bool) (n : Nat) {w : Nat} (p : BitVec (w + w)) (u : BitVec w) : BitVec w :=
  if w + w ≤ n then u
  else if h then (p <<< n).extractLsb' w w
  else (p <<< n).setWidth w

/-! ## SLLP (R506) -/

/-- SLLP (R506). -/
def execSllp (f : ShiftH) (s : State) : Host.Outcome State Fault Refusal :=
  ((require (!f.nc) .signControl s).bind fun _ s =>
   (operand .a f.ra s).bind fun a s =>
   (operand .b f.rb s).bind fun b s =>
   (operand .c f.rc s).bind fun c s =>
   (target f.rt s).bind fun _ s =>
   finishWrite f.rt 6
     (mapLanes f.prec (fun _ a b _ u => com f.nt (sllpLane f.h (c.toNat % 128) (com f.nb b ++ com f.na a) u)) a b 0#64
       (s.free slotResult)) s).finish

/-- SLLPI (R506). -/
def execSllpi (f : ShiftHI) (s : State) : Host.Outcome State Fault Refusal :=
  ((operand .a f.ra s).bind fun a s =>
   (operand .b f.rb s).bind fun b s =>
   (target f.rt s).bind fun _ s =>
   finishWrite f.rt 6
     (mapLanes f.prec (fun _ a b _ u => com f.nt (sllpLane f.h f.imm.toNat (com f.nb b ++ com f.na a) u)) a b 0#64
       (s.free slotResult)) s).finish

/-! ## Right shifts (R509 to R515) -/

/-- A right shift of a pair by a range; free lanes where the range names no bits (R505). -/
def pairShift (p : Prec) (r : Range) (na nb nt : Bool) (rt : BitVec 6) (a b : Word)
    (g : Range → (w : Nat) → BitVec (w + w) → BitVec w) (s : State) : Res Unit :=
  finishWrite rt 6
    (mapLanes p (fun w a b _ u => com nt (if r.valid w then g r w (com nb b ++ com na a) else u)) a b 0#64
      (s.free slotResult)) s

/-- The register form: the range is read from Rc (R504). -/
def shiftReg (f : Shift) (g : Range → (w : Nat) → BitVec (w + w) → BitVec w) (s : State) : Res Unit :=
  (require (!f.nc) .signControl s).bind fun _ s =>
  (operand .a f.ra s).bind fun a s =>
  (operand .b f.rb s).bind fun b s =>
  (operand .c f.rc s).bind fun c s =>
  (target f.rt s).bind fun _ s => pairShift f.prec (rangeReg c) f.na f.nb f.nt f.rt a b g s

/-- The immediate form. -/
def shiftImm (f : ShiftI) (g : Range → (w : Nat) → BitVec (w + w) → BitVec w) (s : State) : Res Unit :=
  (operand .a f.ra s).bind fun a s =>
  (operand .b f.rb s).bind fun b s =>
  (target f.rt s).bind fun _ s => pairShift f.prec (rangeImm f) f.na f.nb f.nt f.rt a b g s

/-- SRLP (R509). -/
def execSrlp (f : Shift) (s : State) : Host.Outcome State Fault Refusal := (shiftReg f (fun r _ => srlpLane r) s).finish
/-- SRLPI (R509). -/
def execSrlpi (f : ShiftI) (s : State) : Host.Outcome State Fault Refusal := (shiftImm f (fun r _ => srlpLane r) s).finish
/-- SRAP (R512). -/
def execSrap (f : Shift) (s : State) : Host.Outcome State Fault Refusal := (shiftReg f (fun r _ => srapLane r) s).finish
/-- SRAPI (R512). -/
def execSrapi (f : ShiftI) (s : State) : Host.Outcome State Fault Refusal := (shiftImm f (fun r _ => srapLane r) s).finish
/-- SRAPRZ (R514). -/
def execSraprz (f : Shift) (s : State) : Host.Outcome State Fault Refusal :=
  (shiftReg f (fun r _ => sraprzLane r) s).finish
/-- SRAPRZI (R514). -/
def execSraprzi (f : ShiftI) (s : State) : Host.Outcome State Fault Refusal :=
  (shiftImm f (fun r _ => sraprzLane r) s).finish
/-- SRAPRU (R515). -/
def execSrapru (f : Shift) (s : State) : Host.Outcome State Fault Refusal :=
  (shiftReg f (fun r _ => srapruLane r) s).finish
/-- SRAPRUI (R515). -/
def execSraprui (f : ShiftI) (s : State) : Host.Outcome State Fault Refusal :=
  (shiftImm f (fun r _ => srapruLane r) s).finish

/-! ## Deposits (R516, R517) -/

/-- The pair `t`, Ra in the upper half, with a value deposited in a range, or exclusive-ored into it. Of a field wider than
a lane the bits past the value are free (R516, R517). -/
def depPair {w : Nat} (r : Range) (xor : Bool) (t : BitVec (w + w)) (v u : BitVec w) : BitVec (w + w) :=
  let bits := (((if r.me - r.mb < w then 0 else u) ++ v) <<< r.mb) &&& r.mask w
  if xor then t ^^^ bits else (t &&& ~~~(r.mask w)) ||| bits

/-- One half of the deposited pair; free where the range names no bits. -/
def depLane (r : Range) (xor nb upper : Bool) (w : Nat) (a t b u : BitVec w) : BitVec w :=
  if !r.valid w then u
  else
    let p := depPair r xor (a ++ t) (com nb b) u
    if upper then p.extractLsb' w w else p.setWidth w

/-- A deposit into the pair of Ra and Rt, which are both read and written (R516). -/
def deposit (p : Prec) (r : Range) (xor nb : Bool) (ra rt : BitVec 6) (b : Word) (s : State) : Res Unit :=
  (target ra s).bind fun _ s =>
  (target rt s).bind fun _ s =>
  let hi := mapLanes p (depLane r xor nb true) (s.gpr ra) (s.gpr rt) b (s.free slotUpper)
  let lo := mapLanes p (depLane r xor nb false) (s.gpr ra) (s.gpr rt) b (s.free slotResult)
  .ok () (((s.setGpr ra hi).setGpr rt lo).advance 6)

/-- The conditions on the fields of a deposit (R503, R516); a constant in place of Ra, which is written, has no stated
meaning. -/
def depositAllowed (na nt : Bool) (ra rt : BitVec 6) (s : State) : Res Unit :=
  (require (s.constant .a ra).isNone .pfx s).bind fun _ s =>
  (require (!na && !nt) .signControl s).bind fun _ s => require (s.physical ra != s.physical rt) .depSameRegister s

/-- The register form of a deposit. -/
def depositReg (xor : Bool) (f : Shift) (s : State) : Res Unit :=
  (require (!f.nc) .signControl s).bind fun _ s =>
  (depositAllowed f.na f.nt f.ra f.rt s).bind fun _ s =>
  (operand .b f.rb s).bind fun b s =>
  (operand .c f.rc s).bind fun c s => deposit f.prec (rangeReg c) xor f.nb f.ra f.rt b s

/-- The immediate form of a deposit. -/
def depositImm (xor : Bool) (f : ShiftI) (s : State) : Res Unit :=
  (depositAllowed f.na f.nt f.ra f.rt s).bind fun _ s =>
  (operand .b f.rb s).bind fun b s => deposit f.prec (rangeImm f) xor f.nb f.ra f.rt b s

/-- DEP (R516). -/
def execDep (f : Shift) (s : State) : Host.Outcome State Fault Refusal := (depositReg false f s).finish
/-- DEPI (R516). -/
def execDepi (f : ShiftI) (s : State) : Host.Outcome State Fault Refusal := (depositImm false f s).finish
/-- DEPXOR (R517). -/
def execDepxor (f : Shift) (s : State) : Host.Outcome State Fault Refusal := (depositReg true f s).finish
/-- DEPXORI (R517). -/
def execDepxori (f : ShiftI) (s : State) : Host.Outcome State Fault Refusal := (depositImm true f s).finish

end Sys2Proof.Machine
end

