-- ==== Sys2Proof/Machine/System.lean ====
section
/-! DEFINITION. Break, return from exception, the ATOM modifier, NOP (spec/48_branch_flow.md section 5; spec/
49_capability_system_modifiers.md sections 5 and 6). -/

namespace Sys2Proof.Machine

/-- `sr.dbg`, bit 18 (spec/10_state.md R36). -/
def srDbg : BitVec 32 := 0x00040000#32

/-- BRK: the trap entry of cause 0, after which the machine is in debug mode (R840). -/
def execBrk (s : State) : Host.Outcome State Fault Refusal :=
  let t := trapEntry (Trap.plain 0#8) s
  .next { t with sr := t.sr ||| srDbg }

/-- RTE (spec/48_branch_flow.md R764). -/
def execRte (offs : BitVec 4) (s : State) : Host.Outcome State Fault Refusal :=
  ((require (s.mode == 3#2) .rteMode s).bind fun _ s => .ok () (exceptionReturn offs s)).finish

/-- RTE, two-up: the stacks are popped twice, and what the second pop gives is used (R765). -/
def execRte2 (offs : BitVec 4) (s : State) : Host.Outcome State Fault Refusal :=
  ((require (s.mode == 3#2) .rteMode s).bind fun _ s =>
   .ok () (exceptionReturn offs { s with exc := s.exc.pop })).finish

/-- The levels of an ATOM mask, level 0 in its low three bits (R844). -/
def atomLevels {w : Nat} (mask : BitVec w) (n : Nat) : List (BitVec 3) :=
  (List.range n).map fun k => mask.extractLsb' (3 * k) 3

/-- ATOM (R844). -/
def execAtom (f : AtomForm) (s : State) : Host.Outcome State Fault Refusal :=
  match f with
  | .short m => .next ({ s with atom := atomLevels m 5 }.advance 3)
  | .long m => .next ({ s with atom := atomLevels m 11 }.advance 6)

/-- NOP (spec/48_branch_flow.md R755). -/
def execNop (s : State) : Host.Outcome State Fault Refusal := .next (s.advance 3)

end Sys2Proof.Machine
end

