-- ==== Sys2Proof/Machine/Dispatch.lean ====
section
/-! DEFINITION. Which meaning an instruction has: one arm for each constructor of `Instr`. -/

namespace Sys2Proof.Machine

def exec (i : Instr) (s : State) : Host.Outcome State Fault Refusal :=
  match i with
  | .zx f => Sys2Proof.Machine.execZx f s
  | .sxImm f => Sys2Proof.Machine.execSxImm f s
  | .sxReg f => Sys2Proof.Machine.execSxReg f s
  | .move f => Sys2Proof.Machine.execMove f s
  | .addi f => Sys2Proof.Machine.execAddi f s
  | .subfi f => Sys2Proof.Machine.execSubfi f s
  | .muli f => Sys2Proof.Machine.execMuli f s
  | .andi f => Sys2Proof.Machine.execAndi f s
  | .ori f => Sys2Proof.Machine.execOri f s
  | .eori f => Sys2Proof.Machine.execEori f s
  | .cmpi f => Sys2Proof.Machine.execCmpi f s
  | .divi f => Sys2Proof.Machine.execDivi f s
  | .mului f => Sys2Proof.Machine.execMului f s
  | .cmpui f => Sys2Proof.Machine.execCmpui f s
  | .divui f => Sys2Proof.Machine.execDivui f s
  | .add2ui f => Sys2Proof.Machine.execAdd2ui f s
  | .add4ui f => Sys2Proof.Machine.execAdd4ui f s
  | .add8ui f => Sys2Proof.Machine.execAdd8ui f s
  | .add16ui f => Sys2Proof.Machine.execAdd16ui f s
  | .auiip f => Sys2Proof.Machine.execAuiip f s
  | .opcode58 payload => Sys2Proof.Machine.execOpcode58 payload s
  | .seqi f => Sys2Proof.Machine.execSeqi f s
  | .zseqi f => Sys2Proof.Machine.execZseqi f s
  | .snei f => Sys2Proof.Machine.execSnei f s
  | .slti f => Sys2Proof.Machine.execSlti f s
  | .slei f => Sys2Proof.Machine.execSlei f s
  | .sgti f => Sys2Proof.Machine.execSgti f s
  | .sgei f => Sys2Proof.Machine.execSgei f s
  | .sltui f => Sys2Proof.Machine.execSltui f s
  | .sleui f => Sys2Proof.Machine.execSleui f s
  | .sgtui f => Sys2Proof.Machine.execSgtui f s
  | .sgeui f => Sys2Proof.Machine.execSgeui f s
  | .zsnei f => Sys2Proof.Machine.execZsnei f s
  | .zslti f => Sys2Proof.Machine.execZslti f s
  | .zslei f => Sys2Proof.Machine.execZslei f s
  | .zsgti f => Sys2Proof.Machine.execZsgti f s
  | .zsgei f => Sys2Proof.Machine.execZsgei f s
  | .zsltui f => Sys2Proof.Machine.execZsltui f s
  | .zsleui f => Sys2Proof.Machine.execZsleui f s
  | .zsgtui f => Sys2Proof.Machine.execZsgtui f s
  | .zsgeui f => Sys2Proof.Machine.execZsgeui f s
  | .csrrd f => Sys2Proof.Machine.execCsrrd f s
  | .csrrw f => Sys2Proof.Machine.execCsrrw f s
  | .csrrs f => Sys2Proof.Machine.execCsrrs f s
  | .csrrc f => Sys2Proof.Machine.execCsrrc f s
  | .csrrwImm f => Sys2Proof.Machine.execCsrrwImm f s
  | .csrrsImm f => Sys2Proof.Machine.execCsrrsImm f s
  | .csrrcImm f => Sys2Proof.Machine.execCsrrcImm f s
  | .chk f => Sys2Proof.Machine.execChk f s
  | .chku f => Sys2Proof.Machine.execChku f s
  | .and f => Sys2Proof.Machine.execAnd f s
  | .or f => Sys2Proof.Machine.execOr f s
  | .eor f => Sys2Proof.Machine.execEor f s
  | .cmp f => Sys2Proof.Machine.execCmp f s
  | .add f => Sys2Proof.Machine.execAdd f s
  | .cmpu f => Sys2Proof.Machine.execCmpu f s
  | .cpuid f => Sys2Proof.Machine.execCpuid f s
  | .cmov f => Sys2Proof.Machine.execCmov f s
  | .abs f => Sys2Proof.Machine.execAbs f s
  | .maj f => Sys2Proof.Machine.execMaj f s
  | .mul f => Sys2Proof.Machine.execMul f s
  | .div f => Sys2Proof.Machine.execDiv f s
  | .mulu f => Sys2Proof.Machine.execMulu f s
  | .divu f => Sys2Proof.Machine.execDivu f s
  | .mulsu f => Sys2Proof.Machine.execMulsu f s
  | .rem f => Sys2Proof.Machine.execRem f s
  | .remu f => Sys2Proof.Machine.execRemu f s
  | .min3 f => Sys2Proof.Machine.execMin3 f s
  | .mid3 f => Sys2Proof.Machine.execMid3 f s
  | .max3 f => Sys2Proof.Machine.execMax3 f s
  | .minu3 f => Sys2Proof.Machine.execMinu3 f s
  | .midu3 f => Sys2Proof.Machine.execMidu3 f s
  | .maxu3 f => Sys2Proof.Machine.execMaxu3 f s
  | .cntlz f => Sys2Proof.Machine.execCntlz f s
  | .cntlo f => Sys2Proof.Machine.execCntlo f s
  | .cntpop f => Sys2Proof.Machine.execCntpop f s
  | .sqrt f => Sys2Proof.Machine.execSqrt f s
  | .cnttz f => Sys2Proof.Machine.execCnttz f s
  | .revbit f => Sys2Proof.Machine.execRevbit f s
  | .revbitp f => Sys2Proof.Machine.execRevbitp f s
  | .revn f => Sys2Proof.Machine.execRevn f s
  | .revb f => Sys2Proof.Machine.execRevb f s
  | .revw f => Sys2Proof.Machine.execRevw f s
  | .revt f => Sys2Proof.Machine.execRevt f s
  | .revo f => Sys2Proof.Machine.execRevo f s
  | .ptrdif f => Sys2Proof.Machine.execPtrdif f s
  | .avgTrunc f => Sys2Proof.Machine.execAvgTrunc f s
  | .avgRound f => Sys2Proof.Machine.execAvgRound f s
  | .mux f => Sys2Proof.Machine.execMux f s
  | .bmm f => Sys2Proof.Machine.execBmm f s
  | .bmap f => Sys2Proof.Machine.execBmap f s
  | .bytendx f => Sys2Proof.Machine.execBytendx f s
  | .wydendx f => Sys2Proof.Machine.execWydendx f s
  | .tetrandx f => Sys2Proof.Machine.execTetrandx f s
  | .cmoveq f => Sys2Proof.Machine.execCmoveq f s
  | .cmovne f => Sys2Proof.Machine.execCmovne f s
  | .cmovlt f => Sys2Proof.Machine.execCmovlt f s
  | .cmovle f => Sys2Proof.Machine.execCmovle f s
  | .seq f => Sys2Proof.Machine.execSeq f s
  | .sne f => Sys2Proof.Machine.execSne f s
  | .slt f => Sys2Proof.Machine.execSlt f s
  | .sle f => Sys2Proof.Machine.execSle f s
  | .sltu f => Sys2Proof.Machine.execSltu f s
  | .sleu f => Sys2Proof.Machine.execSleu f s
  | .sltuCode100 f => Sys2Proof.Machine.execSltuCode100 f s
  | .sleuCode101 f => Sys2Proof.Machine.execSleuCode101 f s
  | .zseq f => Sys2Proof.Machine.execZseq f s
  | .zsne f => Sys2Proof.Machine.execZsne f s
  | .zslt f => Sys2Proof.Machine.execZslt f s
  | .zsle f => Sys2Proof.Machine.execZsle f s
  | .zsltu f => Sys2Proof.Machine.execZsltu f s
  | .zsleu f => Sys2Proof.Machine.execZsleu f s
  | .zseqCode120 f => Sys2Proof.Machine.execZseqCode120 f s
  | .zsneCode121 f => Sys2Proof.Machine.execZsneCode121 f s
  | .zsltCode122 f => Sys2Proof.Machine.execZsltCode122 f s
  | .zsleCode123 f => Sys2Proof.Machine.execZsleCode123 f s
  | .zsltuCode124 f => Sys2Proof.Machine.execZsltuCode124 f s
  | .zsleuCode125 f => Sys2Proof.Machine.execZsleuCode125 f s
  | .sllp f => Sys2Proof.Machine.execSllp f s
  | .srlp f => Sys2Proof.Machine.execSrlp f s
  | .srap f => Sys2Proof.Machine.execSrap f s
  | .sraprz f => Sys2Proof.Machine.execSraprz f s
  | .srapru f => Sys2Proof.Machine.execSrapru f s
  | .dep f => Sys2Proof.Machine.execDep f s
  | .depxor f => Sys2Proof.Machine.execDepxor f s
  | .sllpi f => Sys2Proof.Machine.execSllpi f s
  | .srlpi f => Sys2Proof.Machine.execSrlpi f s
  | .srapi f => Sys2Proof.Machine.execSrapi f s
  | .sraprzi f => Sys2Proof.Machine.execSraprzi f s
  | .sraprui f => Sys2Proof.Machine.execSraprui f s
  | .depi f => Sys2Proof.Machine.execDepi f s
  | .depxori f => Sys2Proof.Machine.execDepxori f s
  | .fma f => Sys2Proof.Machine.execFma f s
  | .fms f => Sys2Proof.Machine.execFms f s
  | .fadd f => Sys2Proof.Machine.execFadd f s
  | .fsub f => Sys2Proof.Machine.execFsub f s
  | .fsne f => Sys2Proof.Machine.execFsne f s
  | .fslt f => Sys2Proof.Machine.execFslt f s
  | .fcmp f => Sys2Proof.Machine.execFcmp f s
  | .fabs f => Sys2Proof.Machine.execFabs f s
  | .fnabs f => Sys2Proof.Machine.execFnabs f s
  | .fsqrt f => Sys2Proof.Machine.execFsqrt f s
  | .ftrunc f => Sys2Proof.Machine.execFtrunc f s
  | .fcos f => Sys2Proof.Machine.execFcos f s
  | .ldb f => Sys2Proof.Machine.execLdb f s
  | .ldw f => Sys2Proof.Machine.execLdw f s
  | .ldt f => Sys2Proof.Machine.execLdt f s
  | .ldo f => Sys2Proof.Machine.execLdo f s
  | .ldo24 f => Sys2Proof.Machine.execLdo24 f s
  | .ldbu f => Sys2Proof.Machine.execLdbu f s
  | .ldwu f => Sys2Proof.Machine.execLdwu f s
  | .ldtu f => Sys2Proof.Machine.execLdtu f s
  | .fldh f => Sys2Proof.Machine.execFldh f s
  | .flds f => Sys2Proof.Machine.execFlds f s
  | .fldd f => Sys2Proof.Machine.execFldd f s
  | .ldcapd f => Sys2Proof.Machine.execLdcapd f s
  | .cache f => Sys2Proof.Machine.execCache f s
  | .stb f => Sys2Proof.Machine.execStb f s
  | .stw f => Sys2Proof.Machine.execStw f s
  | .stt f => Sys2Proof.Machine.execStt f s
  | .sto f => Sys2Proof.Machine.execSto f s
  | .sto24 f => Sys2Proof.Machine.execSto24 f s
  | .stib f => Sys2Proof.Machine.execStib f s
  | .stiw f => Sys2Proof.Machine.execStiw f s
  | .stit f => Sys2Proof.Machine.execStit f s
  | .stio f => Sys2Proof.Machine.execStio f s
  | .fsth f => Sys2Proof.Machine.execFsth f s
  | .fsts f => Sys2Proof.Machine.execFsts f s
  | .fstd f => Sys2Proof.Machine.execFstd f s
  | .stcapd f => Sys2Proof.Machine.execStcapd f s
  | .stptr f => Sys2Proof.Machine.execStptr f s
  | .stptr24 f => Sys2Proof.Machine.execStptr24 f s
  | .loada f => Sys2Proof.Machine.execLoada f s
  | .beq f => Sys2Proof.Machine.execBeq f s
  | .beqReg f => Sys2Proof.Machine.execBeqReg f s
  | .bne f => Sys2Proof.Machine.execBne f s
  | .bneReg f => Sys2Proof.Machine.execBneReg f s
  | .bltu f => Sys2Proof.Machine.execBltu f s
  | .bltuReg f => Sys2Proof.Machine.execBltuReg f s
  | .bleu f => Sys2Proof.Machine.execBleu f s
  | .bleuReg f => Sys2Proof.Machine.execBleuReg f s
  | .bgeu f => Sys2Proof.Machine.execBgeu f s
  | .bgeuReg f => Sys2Proof.Machine.execBgeuReg f s
  | .bgtu f => Sys2Proof.Machine.execBgtu f s
  | .bgtuReg f => Sys2Proof.Machine.execBgtuReg f s
  | .bbc f => Sys2Proof.Machine.execBbc f s
  | .bbcReg f => Sys2Proof.Machine.execBbcReg f s
  | .bbs f => Sys2Proof.Machine.execBbs f s
  | .bbsReg f => Sys2Proof.Machine.execBbsReg f s
  | .bbcImm f => Sys2Proof.Machine.execBbcImm f s
  | .bbcImmReg f => Sys2Proof.Machine.execBbcImmReg f s
  | .bbsImm f => Sys2Proof.Machine.execBbsImm f s
  | .bbsImmReg f => Sys2Proof.Machine.execBbsImmReg f s
  | .bnandb f => Sys2Proof.Machine.execBnandb f s
  | .bnandbReg f => Sys2Proof.Machine.execBnandbReg f s
  | .bandb f => Sys2Proof.Machine.execBandb f s
  | .bandbReg f => Sys2Proof.Machine.execBandbReg f s
  | .bnorb f => Sys2Proof.Machine.execBnorb f s
  | .bnorbReg f => Sys2Proof.Machine.execBnorbReg f s
  | .borb f => Sys2Proof.Machine.execBorb f s
  | .borbReg f => Sys2Proof.Machine.execBorbReg f s
  | .benor f => Sys2Proof.Machine.execBenor f s
  | .benorReg f => Sys2Proof.Machine.execBenorReg f s
  | .beor f => Sys2Proof.Machine.execBeor f s
  | .beorReg f => Sys2Proof.Machine.execBeorReg f s
  | .blt f => Sys2Proof.Machine.execBlt f s
  | .bltReg f => Sys2Proof.Machine.execBltReg f s
  | .ble f => Sys2Proof.Machine.execBle f s
  | .bleReg f => Sys2Proof.Machine.execBleReg f s
  | .bge f => Sys2Proof.Machine.execBge f s
  | .bgeReg f => Sys2Proof.Machine.execBgeReg f s
  | .bgt f => Sys2Proof.Machine.execBgt f s
  | .bgtReg f => Sys2Proof.Machine.execBgtReg f s
  | .bnand f => Sys2Proof.Machine.execBnand f s
  | .bnandReg f => Sys2Proof.Machine.execBnandReg f s
  | .band f => Sys2Proof.Machine.execBand f s
  | .bandReg f => Sys2Proof.Machine.execBandReg f s
  | .bnor f => Sys2Proof.Machine.execBnor f s
  | .bnorReg f => Sys2Proof.Machine.execBnorReg f s
  | .bor f => Sys2Proof.Machine.execBor f s
  | .borReg f => Sys2Proof.Machine.execBorReg f s
  | .fbcc f => Sys2Proof.Machine.execFbcc f s
  | .fbccReg f => Sys2Proof.Machine.execFbccReg f s
  | .ibne f => Sys2Proof.Machine.execIbne f s
  | .ibneReg f => Sys2Proof.Machine.execIbneReg f s
  | .dbne f => Sys2Proof.Machine.execDbne f s
  | .dbneReg f => Sys2Proof.Machine.execDbneReg f s
  | .bra const => Sys2Proof.Machine.execBra const s
  | .bsr f => Sys2Proof.Machine.execBsr f s
  | .jmpDirect const => Sys2Proof.Machine.execJmpDirect const s
  | .jsrDirect f => Sys2Proof.Machine.execJsrDirect f s
  | .jmpIndirect f => Sys2Proof.Machine.execJmpIndirect f s
  | .jsrIndirect f => Sys2Proof.Machine.execJsrIndirect f s
  | .jmpScaled f => Sys2Proof.Machine.execJmpScaled f s
  | .jsrScaled f => Sys2Proof.Machine.execJsrScaled f s
  | .ret f => Sys2Proof.Machine.execRet f s
  | .rte offs => Sys2Proof.Machine.execRte offs s
  | .rte2 offs => Sys2Proof.Machine.execRte2 offs s
  | .cAndPerm f => Sys2Proof.Machine.execCAndPerm f s
  | .cAndPermi f => Sys2Proof.Machine.execCAndPermi f s
  | .cBuildCap f => Sys2Proof.Machine.execCBuildCap f s
  | .cClearTag f => Sys2Proof.Machine.execCClearTag f s
  | .cCmp f => Sys2Proof.Machine.execCCmp f s
  | .atom f => Sys2Proof.Machine.execAtom f s
  | .brk => Sys2Proof.Machine.execBrk s
  | .add24 => Sys2Proof.Machine.execAdd24 s
  | .csrOp4 => Sys2Proof.Machine.execCsrOp4 s
  | .absR1 => Sys2Proof.Machine.execAbsR1 s
  | .not => Sys2Proof.Machine.execNot s
  | .nnatrig => Sys2Proof.Machine.execNnatrig s
  | .nnastat => Sys2Proof.Machine.execNnastat s
  | .nnamfact => Sys2Proof.Machine.execNnamfact s
  | .mkbool => Sys2Proof.Machine.execMkbool s
  | .rex => Sys2Proof.Machine.execRex s
  | .sm3p0 => Sys2Proof.Machine.execSm3p0 s
  | .sm3p1 => Sys2Proof.Machine.execSm3p1 s
  | .aes64ds => Sys2Proof.Machine.execAes64ds s
  | .aes64dsm => Sys2Proof.Machine.execAes64dsm s
  | .aes64es => Sys2Proof.Machine.execAes64es s
  | .aes64esm => Sys2Proof.Machine.execAes64esm s
  | .aes64im => Sys2Proof.Machine.execAes64im s
  | .sha256sig0 => Sys2Proof.Machine.execSha256sig0 s
  | .sha256sig1 => Sys2Proof.Machine.execSha256sig1 s
  | .sha256sum0 => Sys2Proof.Machine.execSha256sum0 s
  | .sha256sum1 => Sys2Proof.Machine.execSha256sum1 s
  | .sha512sig0 => Sys2Proof.Machine.execSha512sig0 s
  | .sha512sig1 => Sys2Proof.Machine.execSha512sig1 s
  | .sha512sum0 => Sys2Proof.Machine.execSha512sum0 s
  | .sha512sum1 => Sys2Proof.Machine.execSha512sum1 s
  | .nand => Sys2Proof.Machine.execNand s
  | .nor => Sys2Proof.Machine.execNor s
  | .enor => Sys2Proof.Machine.execEnor s
  | .cmovnz => Sys2Proof.Machine.execCmovnz s
  | .divsu => Sys2Proof.Machine.execDivsu s
  | .mulw => Sys2Proof.Machine.execMulw s
  | .muluw => Sys2Proof.Machine.execMuluw s
  | .mulsuw => Sys2Proof.Machine.execMulsuw s
  | .modsu => Sys2Proof.Machine.execModsu s
  | .divmod => Sys2Proof.Machine.execDivmod s
  | .divmodu => Sys2Proof.Machine.execDivmodu s
  | .dif => Sys2Proof.Machine.execDif s
  | .nnamtwt => Sys2Proof.Machine.execNnamtwt s
  | .nnamtin => Sys2Proof.Machine.execNnamtin s
  | .nnamtbias => Sys2Proof.Machine.execNnamtbias s
  | .nnamtfb => Sys2Proof.Machine.execNnamtfb s
  | .nnamtmc => Sys2Proof.Machine.execNnamtmc s
  | .nnamtbc => Sys2Proof.Machine.execNnamtbc s
  | .v2bits => Sys2Proof.Machine.execV2bits s
  | .bits2v => Sys2Proof.Machine.execBits2v s
  | .vex => Sys2Proof.Machine.execVex s
  | .veins => Sys2Proof.Machine.execVeins s
  | .vgndx => Sys2Proof.Machine.execVgndx s
  | .vshlv => Sys2Proof.Machine.execVshlv s
  | .vshrv => Sys2Proof.Machine.execVshrv s
  | .vsetmask => Sys2Proof.Machine.execVsetmask s
  | .vshlvi => Sys2Proof.Machine.execVshlvi s
  | .vshrvi => Sys2Proof.Machine.execVshrvi s
  | .aes64k1i => Sys2Proof.Machine.execAes64k1i s
  | .aes64ks2 => Sys2Proof.Machine.execAes64ks2 s
  | .sm4ed => Sys2Proof.Machine.execSm4ed s
  | .sm4ks => Sys2Proof.Machine.execSm4ks s
  | .clmul => Sys2Proof.Machine.execClmul s
  | .mvvr => Sys2Proof.Machine.execMvvr s
  | .reservedFunc4x7 => Sys2Proof.Machine.execReservedFunc4x7 s
  | .reservedFunc4x15 => Sys2Proof.Machine.execReservedFunc4x15 s
  | .fconst => Sys2Proof.Machine.execFconst s
  | .fnop => Sys2Proof.Machine.execFnop s
  | .fmin => Sys2Proof.Machine.execFmin s
  | .fmax => Sys2Proof.Machine.execFmax s
  | .fsubCode5 => Sys2Proof.Machine.execFsubCode5 s
  | .fmul => Sys2Proof.Machine.execFmul s
  | .fdiv => Sys2Proof.Machine.execFdiv s
  | .fseq => Sys2Proof.Machine.execFseq s
  | .fsle => Sys2Proof.Machine.execFsle s
  | .fnxt => Sys2Proof.Machine.execFnxt s
  | .frem => Sys2Proof.Machine.execFrem s
  | .fsgnj => Sys2Proof.Machine.execFsgnj s
  | .fsgnjn => Sys2Proof.Machine.execFsgnjn s
  | .fsgnjx => Sys2Proof.Machine.execFsgnjx s
  | .fscaleb => Sys2Proof.Machine.execFscaleb s
  | .fneg => Sys2Proof.Machine.execFneg s
  | .ftoi => Sys2Proof.Machine.execFtoi s
  | .itof => Sys2Proof.Machine.execItof s
  | .fsign => Sys2Proof.Machine.execFsign s
  | .fsig => Sys2Proof.Machine.execFsig s
  | .fcvts2d => Sys2Proof.Machine.execFcvts2d s
  | .fcvts2q => Sys2Proof.Machine.execFcvts2q s
  | .fcvtd2q => Sys2Proof.Machine.execFcvtd2q s
  | .fcvth2s => Sys2Proof.Machine.execFcvth2s s
  | .fcvth2d => Sys2Proof.Machine.execFcvth2d s
  | .isnan => Sys2Proof.Machine.execIsnan s
  | .finite => Sys2Proof.Machine.execFinite s
  | .fcvtq2h => Sys2Proof.Machine.execFcvtq2h s
  | .fcvtq2s => Sys2Proof.Machine.execFcvtq2s s
  | .fcvtq2d => Sys2Proof.Machine.execFcvtq2d s
  | .fcvth2q => Sys2Proof.Machine.execFcvth2q s
  | .frsqrt => Sys2Proof.Machine.execFrsqrt s
  | .fres => Sys2Proof.Machine.execFres s
  | .fcvtd2s => Sys2Proof.Machine.execFcvtd2s s
  | .fclass => Sys2Proof.Machine.execFclass s
  | .fsin => Sys2Proof.Machine.execFsin s
  | .ftan => Sys2Proof.Machine.execFtan s
  | .fatan => Sys2Proof.Machine.execFatan s
  | .fsigmoid => Sys2Proof.Machine.execFsigmoid s
  | .reservedLd65x3 => Sys2Proof.Machine.execReservedLd65x3 s
  | .dfldd => Sys2Proof.Machine.execDfldd s
  | .dfldq => Sys2Proof.Machine.execDfldq s
  | .pldw => Sys2Proof.Machine.execPldw s
  | .pldt => Sys2Proof.Machine.execPldt s
  | .pldo => Sys2Proof.Machine.execPldo s
  | .ldcapq => Sys2Proof.Machine.execLdcapq s
  | .dfstd => Sys2Proof.Machine.execDfstd s
  | .pstw => Sys2Proof.Machine.execPstw s
  | .pstt => Sys2Proof.Machine.execPstt s
  | .psto => Sys2Proof.Machine.execPsto s
  | .stcapq => Sys2Proof.Machine.execStcapq s
  | .stptrt => Sys2Proof.Machine.execStptrt s
  | .reservedBcc40x14 => Sys2Proof.Machine.execReservedBcc40x14 s
  | .reservedBcc48x14 => Sys2Proof.Machine.execReservedBcc48x14 s
  | .irq40 => Sys2Proof.Machine.execIrq40 s
  | .irq48 => Sys2Proof.Machine.execIrq48 s
  | .irq41 => Sys2Proof.Machine.execIrq41 s
  | .irq49 => Sys2Proof.Machine.execIrq49 s
  | .reservedBcc41x6 => Sys2Proof.Machine.execReservedBcc41x6 s
  | .reservedBcc49x6 => Sys2Proof.Machine.execReservedBcc49x6 s
  | .reservedBcc41x7 => Sys2Proof.Machine.execReservedBcc41x7 s
  | .reservedBcc49x7 => Sys2Proof.Machine.execReservedBcc49x7 s
  | .reservedBcc41x8 => Sys2Proof.Machine.execReservedBcc41x8 s
  | .reservedBcc49x8 => Sys2Proof.Machine.execReservedBcc49x8 s
  | .reservedBcc41x9 => Sys2Proof.Machine.execReservedBcc41x9 s
  | .reservedBcc49x9 => Sys2Proof.Machine.execReservedBcc49x9 s
  | .reservedBcc41x14 => Sys2Proof.Machine.execReservedBcc41x14 s
  | .reservedBcc49x14 => Sys2Proof.Machine.execReservedBcc49x14 s
  | .dfbcc => Sys2Proof.Machine.execDfbcc s
  | .dfbccReg => Sys2Proof.Machine.execDfbccReg s
  | .pbcc => Sys2Proof.Machine.execPbcc s
  | .pbccReg => Sys2Proof.Machine.execPbccReg s
  | .cbcc => Sys2Proof.Machine.execCbcc s
  | .cbccReg => Sys2Proof.Machine.execCbccReg s
  | .cjmp34 => Sys2Proof.Machine.execCjmp34 s
  | .cjmp37 => Sys2Proof.Machine.execCjmp37 s
  | .cjmp39 => Sys2Proof.Machine.execCjmp39 s
  | .nop => Sys2Proof.Machine.execNop s
  | .cRetd => Sys2Proof.Machine.execCRetd s
  | .cInvoke => Sys2Proof.Machine.execCInvoke s
  | .cCopyType => Sys2Proof.Machine.execCCopyType s
  | .cIncOffs => Sys2Proof.Machine.execCIncOffs s
  | .cSeal => Sys2Proof.Machine.execCSeal s
  | .cSetAddr => Sys2Proof.Machine.execCSetAddr s
  | .cSetBounds => Sys2Proof.Machine.execCSetBounds s
  | .cSetFlags => Sys2Proof.Machine.execCSetFlags s
  | .cSetHigh => Sys2Proof.Machine.execCSetHigh s
  | .cSetOffs => Sys2Proof.Machine.execCSetOffs s
  | .cSpeicalRW => Sys2Proof.Machine.execCSpeicalRW s
  | .cUnseal => Sys2Proof.Machine.execCUnseal s
  | .cGetFlags => Sys2Proof.Machine.execCGetFlags s
  | .cGetHigh => Sys2Proof.Machine.execCGetHigh s
  | .cGetLen => Sys2Proof.Machine.execCGetLen s
  | .cGetOffs => Sys2Proof.Machine.execCGetOffs s
  | .cGetPerms => Sys2Proof.Machine.execCGetPerms s
  | .cGetTag => Sys2Proof.Machine.execCGetTag s
  | .cGetTop => Sys2Proof.Machine.execCGetTop s
  | .cGetType => Sys2Proof.Machine.execCGetType s
  | .cLoadTags => Sys2Proof.Machine.execCLoadTags s
  | .cAlignMsk => Sys2Proof.Machine.execCAlignMsk s
  | .cRoundLen => Sys2Proof.Machine.execCRoundLen s
  | .cSealEntry => Sys2Proof.Machine.execCSealEntry s
  | .cGetBase => Sys2Proof.Machine.execCGetBase s
  | .qext => Sys2Proof.Machine.execQext s
  | .pred => Sys2Proof.Machine.execPred s
  | .pfx => Sys2Proof.Machine.execPfx s
  | .r3x128 => Sys2Proof.Machine.execR3x128 s
  | .flt128 => Sys2Proof.Machine.execFlt128 s
  | .dflt => Sys2Proof.Machine.execDflt s
  | .pst => Sys2Proof.Machine.execPst s
  | .chksc => Sys2Proof.Machine.execChksc s
  | .stctx => Sys2Proof.Machine.execStctx s
  | .enter => Sys2Proof.Machine.execEnter s
  | .leave => Sys2Proof.Machine.execLeave s
  | .push => Sys2Proof.Machine.execPush s
  | .pop => Sys2Proof.Machine.execPop s
  | .blend => Sys2Proof.Machine.execBlend s
  | .bfind => Sys2Proof.Machine.execBfind s
  | .bcmp => Sys2Proof.Machine.execBcmp s
  | .block => Sys2Proof.Machine.execBlock s
  | .amo => Sys2Proof.Machine.execAmo s
  | .cas => Sys2Proof.Machine.execCas s
  | .stopOp => Sys2Proof.Machine.execStopOp s
  | .fence => Sys2Proof.Machine.execFence s
  | .pfi => Sys2Proof.Machine.execPfi s
  | .reservedRoot12 => Sys2Proof.Machine.execReservedRoot12 s
  | .reservedRoot20 => Sys2Proof.Machine.execReservedRoot20 s
  | .reservedRoot56 => Sys2Proof.Machine.execReservedRoot56 s
  | .reservedRoot91 => Sys2Proof.Machine.execReservedRoot91 s
  | .reservedRoot110 => Sys2Proof.Machine.execReservedRoot110 s
  | .reservedRoot116 => Sys2Proof.Machine.execReservedRoot116 s
  | .reservedRoot117 => Sys2Proof.Machine.execReservedRoot117 s
  | .reservedRoot118 => Sys2Proof.Machine.execReservedRoot118 s
  | .reservedRoot119 => Sys2Proof.Machine.execReservedRoot119 s
  | .reservedRoot123 => Sys2Proof.Machine.execReservedRoot123 s
  | .reservedRoot125 => Sys2Proof.Machine.execReservedRoot125 s
  | .reservedRoot126 => Sys2Proof.Machine.execReservedRoot126 s
  | .reservedRoot1648 => Sys2Proof.Machine.execReservedRoot1648 s
  | .reservedRoot1672 => Sys2Proof.Machine.execReservedRoot1672 s
  | .reservedRoot1696 => Sys2Proof.Machine.execReservedRoot1696 s

end Sys2Proof.Machine
end

