-- ==== Sys2Proof/Machine/Agents.lean ====
section
/-! DEFINITION. The agents beside the core's instructions: interrupt controller, timers, NMI and abort inputs, TLB replacement,
other cores and bus masters (spec/60_exceptions.md sections 3, 7, 8; log 16). -/

namespace Sys2Proof.Machine

/-- The interrupt enable bit of the current mode (spec/60_exceptions.md R921). -/
def State.irqEnabled (s : State) : Bool := s.sr.getLsbD s.mode.toNat

/-- The ATOM window lets an interrupt of a level through: its head is not 7, and `ATOM_LEVEL_MAP` does not mask the level
(R924; spec/49_capability_system_modifiers.md R844). -/
def State.atomPermits (s : State) (level : BitVec 6) : Bool :=
  match s.atom with
  | [] => true
  | l :: _ => l != 7#3 && !s.par.atomLevels.any fun e => e.1 == l && level.ule e.2

/-- An interrupt of a level is recognisable (R920). -/
def State.recognises (s : State) (level : BitVec 6) (swstk : BitVec 3) : Bool :=
  (srIpl s.sr).ult level && s.irqEnabled && srSwstk s.sr == swstk && s.atomPermits level

/-- This core is in the message's group and would take it (R920, R945). -/
def State.takes (s : State) (m : Msg) : Bool :=
  s.qic.reaches s.par.coreno m && s.recognises m.priority (s.qic.vectorSwstk m.mode m.vector)

/-- An exception of an agent: its saved address is that of the displaced instruction (R922 to R924). -/
def Trap.agent (cause : BitVec 8) (level : BitVec 6) : Trap := ⟨cause, none, none, none, false, level⟩

/-- The message is presented to this core, which takes it (R920, R943, R951). -/
def takeInterrupt (k : Nat) (m : Msg) (s : State) : Host.Outcome State Fault Refusal :=
  let t := trapEntry (Trap.agent 10#8 m.priority) { s with qic := s.qic.deliver k m }
  match s.par.irqDispatch with
  | .tvec => .next t
  | .qicAddress =>
    if s.qic.vectorAi m.mode m.vector then .refused .qicInstruction
    else .next (t.goto (s.qic.vectorAddress m.mode m.vector))

/-- The controller presents a held message: it is taken where the chain of R951 lets it through, and stays held
otherwise. -/
def present (k : Nat) (s : State) : Host.Outcome State Fault Refusal :=
  match s.qic.held[k]? with
  | none => .next s
  | some m =>
    if s.qic.deliverable m && s.takes m then takeInterrupt k m s else .next s

/-- A core other than this one is in the group of a message's vector (R945). -/
def Qic.reachesOther (q : Qic) (c : Word) (m : Msg) : Bool :=
  let group := Sparse.get q.afn (q.vectorGroup m.mode m.vector).toNat
  (List.range' 1 63).any fun k => k != c.toNat && group.getLsbD k

/-- The message is broadcast to every core of the group: bit 0 (R945). -/
def Qic.broadcast (q : Qic) (m : Msg) : Bool := (Sparse.get q.afn (q.vectorGroup m.mode m.vector).toNat).getLsbD 0

/-- Another core takes a held message: it must be deliverable to one, and a broadcast message is not lost for this core while it is
ready (R945, R951). -/
def takenElsewhere (k : Nat) (s : State) : State :=
  match s.qic.held[k]? with
  | none => s
  | some m =>
    if s.qic.deliverable m && s.qic.reachesOther s.par.coreno m && !(s.qic.broadcast m && s.takes m)
    then { s with qic := s.qic.deliver k m }
    else s

/-- A timer component posts its interrupt message (R964). DESIGN CHOICE: both components have the one set of parameters, so their
messages are alike (log 13). -/
def timerPost (second : Bool) (s : State) : State :=
  if (s.qit second).requests s.par then
    { s with qic := s.qic.receive (freeMessage (s.free slotMessage) s.par.qitVector s.par.qitMode s.par.qitPriority) }
  else s

/-- A store of another bus master or core: in a device that the cores share (R938), or in memory (spec/20_memory.md R113). -/
def otherStore (pa n : Nat) (v : Word) (s : State) : Host.Outcome State Fault Refusal :=
  if s.place pa == .memory || s.place pa == .nothing then .next (busStore s pa v n)
  else if [1, 2, 4, 8].contains n && pa % n == 0 then (deviceWrite (s.place pa) n v s).finish
  else .refused .misalignedDevice

/-- The slot of an access count (spec/21_memory_management.md R163). -/
def slotCount : Nat := 3

/-- A bit set in the byte `off` of an entry that stands in memory. -/
def State.setEntryBit (s : State) (entry : Option Nat) (off : Nat) (bit : Byte) : State :=
  match entry with
  | none => s
  | some pa => if s.place (pa + off) == .memory then s.storeByte (pa + off) (s.mem.byte (pa + off) ||| bit) else s

/-- Hardware writes what an access leaves in memory: bit A of the page table entry, and any access count (spec/
21_memory_management.md R161, R163, R170). -/
def pageUsed (k : Nat) (s : State) : State :=
  match s.tlb[k]? with
  | none => s
  | some e =>
    let s' := s.setEntryBit e.pte 6 0x80#8
    match e.pmte with
    | none => s'
    | some pa => busStore s' (pa + 8) (s.free slotCount) 4

/-- Hardware sets the bits M of a page stored to: bit 56 of its page table entry, bit 29 of its page management table entry
(spec/21_memory_management.md R161 to R163, R170). -/
def pageWritten (k : Nat) (s : State) : State :=
  match s.dirty[k]? with
  | none => s
  | some u => ({ s with dirty := s.dirty.eraseIdx k }.setEntryBit u.pte 7 0x01#8).setEntryBit u.pmte 3 0x20#8

/-- One move of an agent; the core's own turn is `step`'s. -/
def runEvent (e : Event) (s : State) : Host.Outcome State Fault Refusal :=
  match e with
  | .run => .next s
  | .message m => .next { s with qic := s.qic.receive m }
  | .present k => present k s
  | .takenElsewhere k => .next (takenElsewhere k s)
  | .queueFull => .next { s with qic := { s.qic with full := true } }
  | .queueStuck => .next { s with qic := { s.qic with stuck := true } }
  | .nmi => .next (trapEntry (Trap.agent 11#8 0#6) s)
  | .abort => .next (trapEntry (Trap.agent 9#8 0#6) s)
  | .tick unit n ext => .next (s.setQit unit ((s.qit unit).tick s.par n ext))
  | .timerPost unit => .next (timerPost unit s)
  | .evict k => .next { s with tlb := s.tlb.eraseIdx k }
  | .pageUsed k => .next (pageUsed k s)
  | .pageWritten k => .next (pageWritten k s)
  | .busStore pa n v => otherStore pa n v s
  | .configStore b off n v => (deviceWrite (.config b off) n v s).finish
  | .busErr pa err => .next { s with errs := Sparse.set s.errs pa (bit1 err) }
  | .sema v => .next { s with csr := { s.csr with sema := v } }

end Sys2Proof.Machine
end

