-- ==== Sys2Proof/Machine/Fetch.lean ====
section
/-! DEFINITION. Fetching an instruction and the immediate that follows it (spec/30_encoding.md R221, R222; spec/
49_capability_system_modifiers.md R852, R853). -/

namespace Sys2Proof.Machine

/-- The root opcode of a following immediate. -/
def postfixRoot : BitVec 7 := 124#7

/-- The bytes at an address read without raising (R852): where they cannot be read there is no postfix. The look is the model's
own: it sees memory as it is, a byte stored to since the last invalidate of the instruction cache too (spec/20_memory.md R142,
spec/70_reset_and_hazards.md R1024), and no device is read for it (log 28). -/
def peek (va : Word) (n : Nat) (s : State) : Option (BitVec 96) :=
  match spanOf .execute 0 va n s with
  | .ok sp s' =>
    if (List.range n).all fun k => s'.portOf va sp k == .memory then some (BitVec.ofNat 96 (s'.mem.value sp.addr n)) else none
  | .trap _ _ => none
  | .stop _ => none

/-- The immediate that a postfix word supplies: 13, 37 or 85 bits from bit 11 on, sign-extended (R852, R853). No form has 72
bits. -/
def postfixOf (w : BitVec 96) : Option Pfx :=
  match (fld w 0 2).toNat with
  | 0 => some ⟨fld w 9 2, (fld w 11 13).signExtend 59, 3⟩
  | 1 => some ⟨fld w 9 2, (fld w 11 37).signExtend 59, 6⟩
  | 2 => none
  | _ => some ⟨fld w 9 2, fld w 11 59, 12⟩

/-- The immediate that follows an instruction, where there is one (R852, R853). -/
def fetchPostfix (va : Word) (s : State) : Res (Option Pfx) :=
  match peek va 3 s with
  | none => .ok none s
  | some w =>
    if fld w 2 7 == postfixRoot then
      match s.par.pfxModel with
      | .refuse => .stop .pfx
      | .text =>
        (fetchBytes (wordLen w) va (wordLen w) s).bind fun v s =>
        match postfixOf (BitVec.ofNat 96 v) with
        | none => .stop .pfx
        | some p => .ok (some p) s
    else .ok none s

/-- The instruction at the instruction pointer (R221): its length is known from its first byte, which counts with the rest for a
region's granularity. The state then holds the
instruction's own bits and its postfix, and the ATOM window has moved on (R844). -/
def fetch (s : State) : Res (BitVec 96) :=
  (fetchBytes 0 s.ip 1 s).bind fun b s =>
  let len := wordLen (BitVec.ofNat 96 b)
  (fetchBytes len s.ip len s).bind fun v s =>
  (fetchPostfix (s.ip + BitVec.ofNat 64 len) s).bind fun p s =>
  .ok (BitVec.ofNat 96 v) { s with ir := BitVec.ofNat 96 v, pfx := p, atom := s.atom.tail }

/-! ## Decoding under the parameters (spec/93_implementation_defined.md U13, U22) -/

/-- A word under `BSR_LAYOUT`: the listed bits moved to where the decoder reads Lk2 and Const37 (spec/48_branch_flow.md R740). -/
def layoutWord (layout : List Nat) (w : BitVec 96) : BitVec 96 :=
  place 0 (fld w 0 9) |||
    place 9 (BitVec.ofNat 39 ((layout.zipIdx.map fun p => if w.getLsbD p.1 then 2 ^ p.2 else 0).sum))

/-- A shift word under `SRAPR_CODES = map`: Func4 3 and 4 stand for each other, and 11 and 12 (spec/45_shift_bitfield.md R502). -/
def swapShiftCodes (w : BitVec 96) : BitVec 96 := if (fld w 44 3).toNat ∈ [3, 4] then w ^^^ place 44 7#3 else w

/-- A float word under `FP_OPCODES = description`: 56 half, 57 single, 58 double (where `OP58_48` gives that root opcode to the float
group), 59 blank (spec/46_floating_point.md R552, R553; log 23). -/
def describedFloat (op58 : Op58) (w : BitVec 96) : Decoded :=
  match (fld w 2 7).toNat with
  | 56 => decodeFlt (w ^^^ place 2 1#7)
  | 57 => decodeFlt (w ^^^ place 2 3#7)
  | 58 => if op58 == .flt32 then decodeFlt (w ^^^ place 2 1#7) else decode w
  | _ => .unimplemented .function

/-- The decoder under the named parameters; with those of `Params.reset` it is `decode`. -/
def Params.decode (p : Params) (w : BitVec 96) : Decoded :=
  if fld w 0 2 = 1#2 then
    let root := (fld w 2 7).toNat
    if root ∈ [32, 33] then if p.bsrLayout == bsrDefault then Sys2Proof.decode w else Sys2Proof.decode (layoutWord p.bsrLayout w)
    else if root ∈ [80, 81, 82, 83] then
      match p.sraprCodes with
      | .description => Sys2Proof.decode w
      | .map => Sys2Proof.decode (swapShiftCodes w)
    else if root ∈ [56, 57, 58, 59] then
      match p.fpOpcodes with
      | .map => Sys2Proof.decode w
      | .description => describedFloat p.op58 w
    else Sys2Proof.decode w
  else Sys2Proof.decode w

/-- Single step or trace is on, and the model does not take it for plain storage (spec/60_exceptions.md R936). -/
def State.tracing (s : State) : Bool := s.par.debugTraps == .refuse && (srSsm s.sr || srTe s.sr)

/-- The end of a step: the free values of the next step are others. -/
def advanceDraws (o : Host.Outcome State Fault Refusal) : Host.Outcome State Fault Refusal :=
  match o with
  | .next s => .next { s with draws := s.draws + 1 }
  | .fault f => .fault f
  | .refused r => .refused r

/-- A byte put in memory where the fetch of a virtual address finds it, as one the instruction cache has not seen the old value
of. -/
def placeByte (s : State) (va : Word) (b : Byte) : State :=
  match translate .execute 0 va va s with
  | .ok pa _ => { s with mem := s.mem.setByte pa b, stale := Sparse.set s.stale pa 0#1 }
  | .trap _ _ => s
  | .stop _ => s

/-- The low `n` bytes of a number placed from an address on, and no other agent to move. -/
def placeBytes (s : State) (va : Word) (w : Nat) : Nat → State
  | 0 => { s with agenda := [] }
  | n + 1 => placeByte (placeBytes s va w n) (va + BitVec.ofNat 64 n) (BitVec.ofNat 8 (w / 2 ^ (8 * n)))

end Sys2Proof.Machine
end

