-- ==== Sys2Proof/Machine/Step.lean ====
section
/-! DEFINITION. One step of the machine: a move of another agent, or one instruction fetched, decoded and executed. -/

namespace Sys2Proof.Machine

/-- One instruction. The model runs with the hierarchical page table only (spec/21_memory_management.md R175). -/
def instruction (s : State) : Host.Outcome State Fault Refusal :=
  if s.tracing then .refused .debugTrace
  else if !s.ptw.hierarchical then .refused .hashedPageTable
  else
    match fetch s with
    | .trap t s' => advanceDraws (.next (trapEntry t s'))
    | .stop r => .refused r
    | .ok w s' =>
      match s.par.decode w with
      | .instr i => advanceDraws (exec i s')
      | .unimplemented _ => advanceDraws (raiseUnimplemented s').finish
      | .refused .sti24 => .refused .sti24
      | .refused .countingCondition => .refused .countingCondition

/-- One step: the core's turn, or a move of another agent, as the agenda says, and the core's turn where it says nothing (log 16);
the draws of a step are used up (log 15). -/
def step (s : State) : Host.Outcome State Fault Refusal :=
  match s.agenda with
  | [] => instruction s
  | .run :: rest => instruction { s with agenda := rest }
  | e :: rest => advanceDraws (runEvent e { s with agenda := rest })

/-- The state in which the next step runs the instruction of `nbits` bits `w`: its bytes, and zeros up to twelve bytes, stand in
memory where the fetch finds them, no other agent moves first, and they count as seen by the instruction cache (log 17). -/
def State.withFetchWord (s : State) (nbits w : Nat) : State :=
  placeBytes s s.ip (w % 2 ^ nbits) 12

end Sys2Proof.Machine
end

