-- ==== Sys2Proof/WellFormed.lean ====
section
/-! DEFINITION. Which terms of `Instr` are instructions: a field that selects the row holds the row's value, and a form
has only the lengths it is drawn with. -/

namespace Sys2Proof

/-- A 16-bit displacement: the only length drawn for LDCAPD and STCAPD (spec/49_capability_system_modifiers.md R804). -/
def Disp.is16 : Disp → Bool
  | .d16 _ => true | .d40 _ | .d64 _ => false

/-- AUIIP's long form has 72 or 96 bits (spec/46_floating_point.md R553). -/
def AuiipForm.wf : AuiipForm → Bool
  | .short _ => true
  | .long ⟨.i23 _, _, _⟩ => false
  | .long ⟨.i47 _, _, _⟩ | .long ⟨.i71 _, _, _⟩ => true

/-- RET's long form has 48 or 96 bits (spec/48_branch_flow.md R760). -/
def RetForm.wf : RetForm → Bool
  | .short _ => true
  | .long ⟨.i47 _, _, _, _⟩ => false
  | .long ⟨.i23 _, _, _, _⟩ | .long ⟨.i71 _, _, _, _⟩ => true

/-- The well-formed instructions. Rows that fix Op4 hold it in their operands; BSR and JSR name a link register
(spec/48_branch_flow.md R740, R746, R750); a float row has root opcode 57 or 59 (spec/46_floating_point.md R552). -/
def Instr.wf (i : Instr) : Bool :=
  match i with
  | .zx _ => true
  | .sxImm _ => true
  | .sxReg _ => true
  | .move _ => true
  | .addi _ => true
  | .subfi _ => true
  | .muli _ => true
  | .andi _ => true
  | .ori _ => true
  | .eori _ => true
  | .cmpi _ => true
  | .divi _ => true
  | .mului _ => true
  | .cmpui _ => true
  | .divui _ => true
  | .add2ui _ => true
  | .add4ui _ => true
  | .add8ui _ => true
  | .add16ui _ => true
  | .auiip f => f.wf
  | .opcode58 _ => true
  | .seqi _ => true
  | .zseqi _ => true
  | .snei _ => true
  | .slti _ => true
  | .slei _ => true
  | .sgti _ => true
  | .sgei _ => true
  | .sltui _ => true
  | .sleui _ => true
  | .sgtui _ => true
  | .sgeui _ => true
  | .zsnei _ => true
  | .zslti _ => true
  | .zslei _ => true
  | .zsgti _ => true
  | .zsgei _ => true
  | .zsltui _ => true
  | .zsleui _ => true
  | .zsgtui _ => true
  | .zsgeui _ => true
  | .csrrd _ => true
  | .csrrw _ => true
  | .csrrs _ => true
  | .csrrc _ => true
  | .csrrwImm _ => true
  | .csrrsImm _ => true
  | .csrrcImm _ => true
  | .chk _ => true
  | .chku _ => true
  | .and _ => true
  | .or _ => true
  | .eor _ => true
  | .cmp _ => true
  | .add _ => true
  | .cmpu _ => true
  | .cpuid _ => true
  | .cmov _ => true
  | .abs f => f.op4 == 3#4
  | .maj _ => true
  | .mul _ => true
  | .div _ => true
  | .mulu _ => true
  | .divu _ => true
  | .mulsu _ => true
  | .rem _ => true
  | .remu _ => true
  | .min3 f => f.op4 == 0#4
  | .mid3 f => f.op4 == 1#4
  | .max3 f => f.op4 == 2#4
  | .minu3 f => f.op4 == 0#4
  | .midu3 f => f.op4 == 1#4
  | .maxu3 f => f.op4 == 2#4
  | .cntlz _ => true
  | .cntlo _ => true
  | .cntpop _ => true
  | .sqrt _ => true
  | .cnttz _ => true
  | .revbit f => f.op4 == 0#4
  | .revbitp f => f.op4 == 1#4
  | .revn f => f.op4 == 2#4
  | .revb f => f.op4 == 3#4
  | .revw f => f.op4 == 4#4
  | .revt f => f.op4 == 5#4
  | .revo f => f.op4 == 6#4
  | .ptrdif f => f.op4 == 0#4 || f.op4 == 8#4
  | .avgTrunc f => f.op4 == 1#4 || f.op4 == 9#4
  | .avgRound f => f.op4 == 2#4 || f.op4 == 10#4
  | .mux _ => true
  | .bmm _ => true
  | .bmap _ => true
  | .bytendx _ => true
  | .wydendx _ => true
  | .tetrandx _ => true
  | .cmoveq _ => true
  | .cmovne _ => true
  | .cmovlt _ => true
  | .cmovle _ => true
  | .seq _ => true
  | .sne _ => true
  | .slt _ => true
  | .sle _ => true
  | .sltu _ => true
  | .sleu _ => true
  | .sltuCode100 _ => true
  | .sleuCode101 _ => true
  | .zseq _ => true
  | .zsne _ => true
  | .zslt _ => true
  | .zsle _ => true
  | .zsltu _ => true
  | .zsleu _ => true
  | .zseqCode120 _ => true
  | .zsneCode121 _ => true
  | .zsltCode122 _ => true
  | .zsleCode123 _ => true
  | .zsltuCode124 _ => true
  | .zsleuCode125 _ => true
  | .sllp _ => true
  | .srlp _ => true
  | .srap _ => true
  | .sraprz _ => true
  | .srapru _ => true
  | .dep _ => true
  | .depxor _ => true
  | .sllpi _ => true
  | .srlpi _ => true
  | .srapi _ => true
  | .sraprzi _ => true
  | .sraprui _ => true
  | .depi _ => true
  | .depxori _ => true
  | .fma f => f.fmt != .single
  | .fms f => f.fmt != .single
  | .fadd f => f.fmt != .single
  | .fsub f => f.fmt != .single
  | .fsne f => f.fmt != .single
  | .fslt f => f.fmt != .single
  | .fcmp f => f.fmt != .single
  | .fabs f => f.fmt != .single
  | .fnabs f => f.fmt != .single
  | .fsqrt f => f.fmt != .single
  | .ftrunc f => f.fmt != .single
  | .fcos f => f.fmt != .single
  | .ldb _ => true
  | .ldw _ => true
  | .ldt _ => true
  | .ldo _ => true
  | .ldo24 _ => true
  | .ldbu _ => true
  | .ldwu _ => true
  | .ldtu _ => true
  | .fldh _ => true
  | .flds _ => true
  | .fldd _ => true
  | .ldcapd f => f.disp.is16
  | .cache _ => true
  | .stb _ => true
  | .stw _ => true
  | .stt _ => true
  | .sto _ => true
  | .sto24 _ => true
  | .stib _ => true
  | .stiw _ => true
  | .stit _ => true
  | .stio _ => true
  | .fsth _ => true
  | .fsts _ => true
  | .fstd _ => true
  | .stcapd f => f.disp.is16
  | .stptr _ => true
  | .stptr24 _ => true
  | .loada _ => true
  | .beq _ => true
  | .beqReg _ => true
  | .bne _ => true
  | .bneReg _ => true
  | .bltu _ => true
  | .bltuReg _ => true
  | .bleu _ => true
  | .bleuReg _ => true
  | .bgeu _ => true
  | .bgeuReg _ => true
  | .bgtu _ => true
  | .bgtuReg _ => true
  | .bbc _ => true
  | .bbcReg _ => true
  | .bbs _ => true
  | .bbsReg _ => true
  | .bbcImm _ => true
  | .bbcImmReg _ => true
  | .bbsImm _ => true
  | .bbsImmReg _ => true
  | .bnandb _ => true
  | .bnandbReg _ => true
  | .bandb _ => true
  | .bandbReg _ => true
  | .bnorb _ => true
  | .bnorbReg _ => true
  | .borb _ => true
  | .borbReg _ => true
  | .benor _ => true
  | .benorReg _ => true
  | .beor _ => true
  | .beorReg _ => true
  | .blt _ => true
  | .bltReg _ => true
  | .ble _ => true
  | .bleReg _ => true
  | .bge _ => true
  | .bgeReg _ => true
  | .bgt _ => true
  | .bgtReg _ => true
  | .bnand _ => true
  | .bnandReg _ => true
  | .band _ => true
  | .bandReg _ => true
  | .bnor _ => true
  | .bnorReg _ => true
  | .bor _ => true
  | .borReg _ => true
  | .fbcc _ => true
  | .fbccReg _ => true
  | .ibne _ => true
  | .ibneReg _ => true
  | .dbne _ => true
  | .dbneReg _ => true
  | .bra _ => true
  | .bsr f => f.lk != 0#2
  | .jmpDirect _ => true
  | .jsrDirect f => f.lk != 0#2
  | .jmpIndirect _ => true
  | .jsrIndirect f => f.rt != 0#6
  | .jmpScaled _ => true
  | .jsrScaled f => f.rt != 0#6
  | .ret f => f.wf
  | .rte _ => true
  | .rte2 _ => true
  | .cAndPerm _ => true
  | .cAndPermi _ => true
  | .cBuildCap _ => true
  | .cClearTag _ => true
  | .cCmp _ => true
  | .atom _ => true
  | .brk => true
  | .add24 => true
  | .csrOp4 => true
  | .absR1 => true
  | .not => true
  | .nnatrig => true
  | .nnastat => true
  | .nnamfact => true
  | .mkbool => true
  | .rex => true
  | .sm3p0 => true
  | .sm3p1 => true
  | .aes64ds => true
  | .aes64dsm => true
  | .aes64es => true
  | .aes64esm => true
  | .aes64im => true
  | .sha256sig0 => true
  | .sha256sig1 => true
  | .sha256sum0 => true
  | .sha256sum1 => true
  | .sha512sig0 => true
  | .sha512sig1 => true
  | .sha512sum0 => true
  | .sha512sum1 => true
  | .nand => true
  | .nor => true
  | .enor => true
  | .cmovnz => true
  | .divsu => true
  | .mulw => true
  | .muluw => true
  | .mulsuw => true
  | .modsu => true
  | .divmod => true
  | .divmodu => true
  | .dif => true
  | .nnamtwt => true
  | .nnamtin => true
  | .nnamtbias => true
  | .nnamtfb => true
  | .nnamtmc => true
  | .nnamtbc => true
  | .v2bits => true
  | .bits2v => true
  | .vex => true
  | .veins => true
  | .vgndx => true
  | .vshlv => true
  | .vshrv => true
  | .vsetmask => true
  | .vshlvi => true
  | .vshrvi => true
  | .aes64k1i => true
  | .aes64ks2 => true
  | .sm4ed => true
  | .sm4ks => true
  | .clmul => true
  | .mvvr => true
  | .reservedFunc4x7 => true
  | .reservedFunc4x15 => true
  | .fconst => true
  | .fnop => true
  | .fmin => true
  | .fmax => true
  | .fsubCode5 => true
  | .fmul => true
  | .fdiv => true
  | .fseq => true
  | .fsle => true
  | .fnxt => true
  | .frem => true
  | .fsgnj => true
  | .fsgnjn => true
  | .fsgnjx => true
  | .fscaleb => true
  | .fneg => true
  | .ftoi => true
  | .itof => true
  | .fsign => true
  | .fsig => true
  | .fcvts2d => true
  | .fcvts2q => true
  | .fcvtd2q => true
  | .fcvth2s => true
  | .fcvth2d => true
  | .isnan => true
  | .finite => true
  | .fcvtq2h => true
  | .fcvtq2s => true
  | .fcvtq2d => true
  | .fcvth2q => true
  | .frsqrt => true
  | .fres => true
  | .fcvtd2s => true
  | .fclass => true
  | .fsin => true
  | .ftan => true
  | .fatan => true
  | .fsigmoid => true
  | .reservedLd65x3 => true
  | .dfldd => true
  | .dfldq => true
  | .pldw => true
  | .pldt => true
  | .pldo => true
  | .ldcapq => true
  | .dfstd => true
  | .pstw => true
  | .pstt => true
  | .psto => true
  | .stcapq => true
  | .stptrt => true
  | .reservedBcc40x14 => true
  | .reservedBcc48x14 => true
  | .irq40 => true
  | .irq48 => true
  | .irq41 => true
  | .irq49 => true
  | .reservedBcc41x6 => true
  | .reservedBcc49x6 => true
  | .reservedBcc41x7 => true
  | .reservedBcc49x7 => true
  | .reservedBcc41x8 => true
  | .reservedBcc49x8 => true
  | .reservedBcc41x9 => true
  | .reservedBcc49x9 => true
  | .reservedBcc41x14 => true
  | .reservedBcc49x14 => true
  | .dfbcc => true
  | .dfbccReg => true
  | .pbcc => true
  | .pbccReg => true
  | .cbcc => true
  | .cbccReg => true
  | .cjmp34 => true
  | .cjmp37 => true
  | .cjmp39 => true
  | .nop => true
  | .cRetd => true
  | .cInvoke => true
  | .cCopyType => true
  | .cIncOffs => true
  | .cSeal => true
  | .cSetAddr => true
  | .cSetBounds => true
  | .cSetFlags => true
  | .cSetHigh => true
  | .cSetOffs => true
  | .cSpeicalRW => true
  | .cUnseal => true
  | .cGetFlags => true
  | .cGetHigh => true
  | .cGetLen => true
  | .cGetOffs => true
  | .cGetPerms => true
  | .cGetTag => true
  | .cGetTop => true
  | .cGetType => true
  | .cLoadTags => true
  | .cAlignMsk => true
  | .cRoundLen => true
  | .cSealEntry => true
  | .cGetBase => true
  | .qext => true
  | .pred => true
  | .pfx => true
  | .r3x128 => true
  | .flt128 => true
  | .dflt => true
  | .pst => true
  | .chksc => true
  | .stctx => true
  | .enter => true
  | .leave => true
  | .push => true
  | .pop => true
  | .blend => true
  | .bfind => true
  | .bcmp => true
  | .block => true
  | .amo => true
  | .cas => true
  | .stopOp => true
  | .fence => true
  | .pfi => true
  | .reservedRoot12 => true
  | .reservedRoot20 => true
  | .reservedRoot56 => true
  | .reservedRoot91 => true
  | .reservedRoot110 => true
  | .reservedRoot116 => true
  | .reservedRoot117 => true
  | .reservedRoot118 => true
  | .reservedRoot119 => true
  | .reservedRoot123 => true
  | .reservedRoot125 => true
  | .reservedRoot126 => true
  | .reservedRoot1648 => true
  | .reservedRoot1672 => true
  | .reservedRoot1696 => true

end Sys2Proof
end

