-- ==== Sys2Proof/Safety.lean ====
section
/-! DEFINITION. The terms in which statements about the machine are made: the invariant of every step, when operands can be
read, what it is to write one register and nothing else, and what it is to take an exception. -/

namespace Sys2Proof.Machine

/-! ## The invariant -/

/-- What holds after reset and is kept by every step: the sparse tables in canonical form, x[0] zero (spec/10_state.md R21), the
reserved bit 23 of the status register and of its saved copies zero (R36), at most eleven levels in an ATOM window
(spec/49_capability_system_modifiers.md R844), the walker set to a supported table (spec/21_memory_management.md R197). -/
structure State.Inv (s : State) : Prop where
  mem : Memory.wf s.mem = true
  tags : Sparse.wf s.tags = true
  stale : Sparse.wf s.stale = true
  errs : Sparse.wf s.errs = true
  hct : Sparse.wf s.cards.hct = true
  afn : Sparse.wf s.qic.afn = true
  enable : Sparse.wf s.qic.enable = true
  pending : Sparse.wf s.qic.pending = true
  vectors : Sparse.wf s.qic.vt = true
  zero : s.regs[0] = Reg.zero
  reserved : s.sr &&& srDefined = s.sr
  saved : ∀ k : Fin 8, s.exc.sr[k] &&& srDefined = s.exc.sr[k]
  window : s.atom.length ≤ 11
  walker : ptAttrSupported s.ptw.attr = true
  root : s.ptw.base &&& 7#64 = 0#64

/-! ## Operands -/

/-- The value of a source operand: the constant that follows the instruction, or the register. -/
def State.value (s : State) (slot : Slot) (r : BitVec 6) : Word := (s.constant slot r).getD (s.gpr r)

/-- A source operand can be read: a constant, or a register that the mode may name (spec/10_state.md R24). -/
def State.readable (s : State) (slot : Slot) (r : BitVec 6) : Bool := (s.constant slot r).isSome || s.mayUse r

/-- A target can be written: a register that the mode may name, and no constant in its place. -/
def State.writable (s : State) (r : BitVec 6) : Bool := (s.constant .t r).isNone && s.mayUse r

/-- The three sources and the target of the register form. -/
def State.ready3 (s : State) (f : R3) : Bool :=
  s.readable .a f.ra && s.readable .b f.rb && s.readable .c f.rc && s.writable f.rt

/-- The base and index registers of the scaled indexed form. -/
def State.readyAddr (s : State) (f : LS) : Bool := s.readable .a f.ra && s.readable .b f.rb

/-- The address of the scaled indexed form (spec/47_load_store.md R631). -/
def State.address (s : State) (f : LS) : Word :=
  indexedAddr (s.value .a f.ra) (s.value .b f.rb) f.sc (dispSext f.disp)

/-! ## Frames -/

/-- Nothing but the general registers and the instruction pointer differs. -/
def State.sameButRegs (s t : State) : Prop :=
  t.sr = s.sr ∧ t.csr = s.csr ∧ t.exc = s.exc ∧ t.atom = s.atom ∧ t.mem = s.mem ∧ t.tags = s.tags ∧ t.stale = s.stale ∧
    t.cards = s.cards ∧ t.tlb = s.tlb ∧ t.tlbCount = s.tlbCount ∧ t.ptw = s.ptw ∧ t.rgn = s.rgn ∧ t.qic = s.qic ∧
    t.qit1 = s.qit1 ∧ t.qit2 = s.qit2 ∧ t.cfg = s.cfg ∧ t.agenda = s.agenda ∧ t.par = s.par ∧ t.ir = s.ir ∧
    t.pfx = s.pfx ∧ t.draws = s.draws ∧ t.errs = s.errs ∧ t.dirty = s.dirty

/-- Every general register but one, and its tag, is as before. -/
def State.sameRegsBut (s t : State) (r : BitVec 6) : Prop :=
  ∀ i, i ≠ s.physical r → t.gprPhys i = s.gprPhys i ∧ t.tagPhys i = s.tagPhys i

/-- The register that `rt` names holds `v` with a tag, unless it is x[0], which stays zero (spec/10_state.md R21). -/
def State.holds (s t : State) (rt : BitVec 6) (v : Word) (tag : Bool) : Prop :=
  t.gprPhys (s.physical rt) = (if rt = 0#6 then 0#64 else v) ∧
    t.tagPhys (s.physical rt) = (if rt = 0#6 then false else tag)

/-- An instruction of `len` bytes wrote `v` to the register that `rt` names, cleared its tag, moved the instruction pointer past
itself, and changed nothing else (spec/10_state.md R28, R31). -/
def State.wrote (s t : State) (rt : BitVec 6) (v : Word) (len : Nat) : Prop :=
  s.holds t rt v false ∧ s.sameRegsBut t rt ∧ s.sameButRegs t ∧ t.ip = s.nextIp len

/-- The machine went to an address and changed nothing else. -/
def State.wentTo (s t : State) (a : Word) : Prop := t.regs = s.regs ∧ s.sameButRegs t ∧ t.ip = a

/-! ## Accesses that succeed -/

/-- The physical address that an entry gives a virtual address of its page (spec/21_memory_management.md R200). -/
def TlbEntry.physAddr (e : TlbEntry) (va : Word) : Nat := e.ppn.toNat * 2 ^ 13 + va.toNat % 2 ^ 13

/-- An aligned access of `n` bytes goes to memory through the TLB entry `e`: the entry translates its page, its rights are
known and allow it, and memory answers every byte. -/
def State.canAccess (s : State) (acc : Access) (va : Word) (n : Nat) (e : TlbEntry) : Bool :=
  s.tlbFind (vpnOf va) == some e && e.pmtValid && s.permits acc e && s.granular acc e va n && isAligned va n &&
    (List.range n).all fun k => s.port (va + BitVec.ofNat 64 k) (e.physAddr va + k) == .memory

/-- The `n` bytes that memory holds from a physical address on, the lowest one lowest (spec/20_memory.md R102, R104). -/
def State.bytes (s : State) (pa n : Nat) : Word := BitVec.ofNat 64 (s.mem.value (pa + ·) n)

/-- An instruction of `len` bytes stored the low `n` bytes of `v` for address `va` at physical address `pa`, and nothing else: the
bytes of memory, the tags of the granules they lie in (spec/20_memory.md R108), the record that they may be stale for a fetch (R142)
and that their page was stored to (spec/21_memory_management.md R163; log 36), and the instruction pointer. -/
def State.stored (s t : State) (va : Word) (pa n : Nat) (v : Word) (len : Nat) : Prop :=
  (∀ k, k < n → t.mem.byte (pa + k) = v.extractLsb' (8 * k) 8) ∧
    (∀ a, (a < pa ∨ pa + n ≤ a) → t.mem.byte a = s.mem.byte a) ∧
    (∀ g, Sparse.get t.tags g = if pa / 8 ≤ g ∧ g ≤ (pa + n - 1) / 8 then 0#1 else Sparse.get s.tags g) ∧
    (∀ a, Sparse.get t.stale a = if pa ≤ a ∧ a < pa + n then 1#1 else Sparse.get s.stale a) ∧
    t.regs = s.regs ∧ t.sr = s.sr ∧ t.csr = s.csr ∧ t.exc = s.exc ∧ t.atom = s.atom ∧ t.cards = s.cards ∧ t.tlb = s.tlb ∧
    t.tlbCount = s.tlbCount ∧ t.ptw = s.ptw ∧ t.rgn = s.rgn ∧ t.qic = s.qic ∧ t.qit1 = s.qit1 ∧ t.qit2 = s.qit2 ∧
    t.cfg = s.cfg ∧ t.agenda = s.agenda ∧ t.par = s.par ∧ t.ip = s.nextIp len ∧ t.errs = s.errs ∧
    t.dirty = (s.noteStore va n).dirty ∧ t.ir = s.ir ∧ t.pfx = s.pfx ∧ t.draws = s.draws

/-- A byte's address translates through the TLB entry `e` and is answered, by memory or by a device: what CACHE asks of its address
(spec/47_load_store.md R634, spec/60_exceptions.md R930). -/
def State.canName (s : State) (va : Word) (e : TlbEntry) : Bool :=
  s.tlbFind (vpnOf va) == some e && e.pmtValid && s.permits .read e && s.port va (e.physAddr va) != .nothing

/-- The byte `va` of an access of `n` bytes that starts at `start` translates through the TLB entry `e`, whose rights are known and
allow it (spec/21_memory_management.md R200). -/
def State.canPass (s : State) (acc : Access) (start va : Word) (n : Nat) (e : TlbEntry) : Bool :=
  s.tlbFind (vpnOf va) == some e && e.pmtValid && s.permits acc e && s.granular acc e start n

/-- Memory answers each of the `n` bytes from virtual address `va` on, at physical addresses from `pa` on. -/
def State.allMemory (s : State) (va : Word) (pa n : Nat) : Bool :=
  (List.range n).all fun k => s.port (va + BitVec.ofNat 64 k) (pa + k) == .memory

/-- Memory holds an octa where the walker reads it. -/
def State.holdsOcta (s : State) (pa : Nat) (v : Word) : Bool :=
  ((List.range 8).all fun k => s.place (pa + k) == .memory) && s.bytes pa 8 == v

/-- A walk for the page of `va` gave the entry `p`, whose page rights are not yet known, and the TLB of `t` holds it (spec/
21_memory_management.md R172, R191). -/
def State.walkedTo (s t : State) (va : Word) (p : TlbEntry) : Prop :=
  p.valid = true ∧ p.vpn = vpnOf va ∧ p.asid = s.csr.asid ∧ p.count = s.tlbCount ∧ p.pmtValid = false ∧ t = s.tlbInsert p ∧
    t.tlbFind (vpnOf va) = some p

/-- An aligned access of `n` bytes goes to device place `p` through the TLB entry `e`. -/
def State.canReach (s : State) (acc : Access) (va : Word) (n : Nat) (e : TlbEntry) (p : Place) : Bool :=
  s.tlbFind (vpnOf va) == some e && e.pmtValid && s.permits acc e && s.granular acc e va n && isAligned va n &&
    s.port va (e.physAddr va) == p && p != .memory &&
    (List.range n).all fun k => s.port (va + BitVec.ofNat 64 k) (e.physAddr va + k) != .nothing

/-! ## Turns -/

/-- The state in which the core executes an instruction in this step: with no turn to come, or with its own taken off the agenda; none
where another agent moves (log 16). -/
def State.turn (s : State) : Option State :=
  match s.agenda with
  | [] => some s
  | .run :: rest => some { s with agenda := rest }
  | _ => none

/-- Nothing keeps the core from executing an instruction: no tracing that is refused, and a page table of the supported kind (spec/
60_exceptions.md R936, spec/21_memory_management.md R175). -/
def State.canRun (s : State) : Bool := !s.tracing && s.ptw.hierarchical

/-! ## What an instruction of a form computes: where its operands can be used, it completes with this result -/

/-- The register form: lane function `g` of the operands, where `ok` holds of the fields and the state. -/
def computes3 (mk : R3 → Instr) (ok : R3 → State → Bool) (g : R3 → LaneFn) : Prop :=
  ∀ f s, s.ready3 f = true → ok f s = true →
    ∃ t, exec (mk f) s = .next t ∧
      s.wrote t f.rt
        (mapLanes f.prec (g f) (s.value .a f.ra) (s.value .b f.rb) (s.value .c f.rc) (s.free slotResult)) 6

/-- The one-operand form. -/
def computes1 (mk : R1 → Instr) (ok : R1 → Bool) (g : R1 → (w : Nat) → BitVec w → BitVec w) : Prop :=
  ∀ f s, s.readable .a f.ra = true → s.writable f.rt = true → ok f = true →
    ∃ t, exec (mk f) s = .next t ∧
      s.wrote t f.rt (mapLanes f.prec (fun w a _ _ _ => g f w a) (s.value .a f.ra) 0#64 0#64 0#64) 6

/-- The register-immediate form of every length, with the immediate as `ext` extends it. -/
def computesImm (mk : RIForm → Instr) (ext : ImmView → Word)
    (g : ImmView → (w : Nat) → BitVec w → BitVec w → BitVec w → BitVec w) : Prop :=
  ∀ f s, s.readable .a (viewOf f).ra = true → s.writable (viewOf f).rt = true →
    ∃ t, exec (mk f) s = .next t ∧
      s.wrote t (viewOf f).rt
        (mapLanes (viewOf f).prec (fun w a _ _ u => g (viewOf f) w a ((ext (viewOf f)).setWidth w) u)
          (s.value .a (viewOf f).ra) 0#64 0#64 (s.free slotResult)) (viewOf f).len

/-- A conditional move: Rc where the relation holds between Ra and Rb, else, for N4 = 8, the old lane of the target, else N4
sign-extended (spec/44_comparison.md R448); sign control on what is written but an old lane, with which it is not used. -/
def selects (mk : R3 → Instr) (ok : State → Bool) (r : Rel) : Prop :=
  ∀ f s, s.ready3 f = true →
    (f.op4 ≠ 8#4 ∨ f.nt = false ∨ allLanes r f (s.value .a f.ra) (s.value .b f.rb) = true) → ok s = true →
    ∃ t, exec (mk f) s = .next t ∧
      s.wrote t f.rt
        (mapLanes f.prec (fun w a b c old =>
            if r.holds (neg f.na a) (neg f.nb b) then neg f.nt (neg f.nc c)
            else if f.op4 = 8#4 then old else neg f.nt (f.op4.signExtend w))
          (s.value .a f.ra) (s.value .b f.rb) (s.value .c f.rc) (s.gpr f.rt)) 6

/-- Set on an immediate: 1 where the relation holds, else the old lane, or 0 for a Z form (spec/44_comparison.md R453,
R454). -/
def setsImm (mk : RI → Instr) (ok : State → Bool) (r : Rel) (zero : Bool) : Prop :=
  ∀ f s, s.readable .a f.ra = true → s.writable f.rt = true → ok s = true →
    ∃ t, exec (mk f) s = .next t ∧
      s.wrote t f.rt
        (mapLanes f.prec (fun w a _ _ old =>
            if r.holds (neg f.na a) ((immSext f.imm).setWidth w) then neg f.nt 1
            else if zero then neg f.nt 0 else old)
          (s.value .a f.ra) 0#64 0#64 (s.gpr f.rt)) (immBytes f.imm)

/-- A right shift of the pair of Rb, high, and Ra, low, by the range in Rc: lane function `g`, free lanes where the range names no
bits of the pair (spec/45_shift_bitfield.md R504, R505). -/
def shiftsReg (mk : Shift → Instr) (g : Range → (w : Nat) → BitVec (w + w) → BitVec w) : Prop :=
  ∀ f s, s.readable .a f.ra = true → s.readable .b f.rb = true → s.readable .c f.rc = true → s.writable f.rt = true →
    f.nc = false →
    ∃ t, exec (mk f) s = .next t ∧
      s.wrote t f.rt
        (mapLanes f.prec (fun w a b _ u =>
            com f.nt (if (rangeReg (s.value .c f.rc)).valid w
              then g (rangeReg (s.value .c f.rc)) w (com f.nb b ++ com f.na a) else u))
          (s.value .a f.ra) (s.value .b f.rb) 0#64 (s.free slotResult)) 6

/-- The same with an immediate range. -/
def shiftsImm (mk : ShiftI → Instr) (g : Range → (w : Nat) → BitVec (w + w) → BitVec w) : Prop :=
  ∀ f s, s.readable .a f.ra = true → s.readable .b f.rb = true → s.writable f.rt = true →
    ∃ t, exec (mk f) s = .next t ∧
      s.wrote t f.rt
        (mapLanes f.prec (fun w a b _ u =>
            com f.nt (if (rangeImm f).valid w then g (rangeImm f) w (com f.nb b ++ com f.na a) else u))
          (s.value .a f.ra) (s.value .b f.rb) 0#64 (s.free slotResult)) 6

/-- A branch precision has a meaning (spec/48_branch_flow.md R704). -/
def State.precisionOk (s : State) (prc : BitVec 2) : Bool := prc == 3#2 || s.par.brPrc == .narrow

/-- Where a conditional branch of 6 bytes goes (spec/48_branch_flow.md R703, R707). -/
def State.branchGoes (s : State) (taken : Bool) (target : Word) : Word := if taken then target else s.nextIp 6

/-- A conditional branch with a displacement or address: it goes where its condition says, and changes nothing else. -/
def branches (mk : Br → Instr) (c : Cond) : Prop :=
  ∀ f s, s.precisionOk f.prc = true → s.readable .a f.ra = true → s.readable .b f.rb = true →
    ∃ t, exec (mk f) s = .next t ∧
      s.wentTo t (s.branchGoes (condAt f.prc c (s.value .a f.ra) (s.value .b f.rb) s.freeBit)
        (branchTarget s.ip (srAb s.sr) f.tgt))

/-- A conditional branch to a register. -/
def branchesReg (mk : BrReg → Instr) (c : Cond) : Prop :=
  ∀ f s, s.precisionOk f.prc = true → s.readable .a f.ra = true → s.readable .b f.rb = true →
    s.readable .c f.rc = true → f.tgt = 0#15 →
    ∃ t, exec (mk f) s = .next t ∧
      s.wentTo t (s.branchGoes (condAt f.prc c (s.value .a f.ra) (s.value .b f.rb) s.freeBit) (s.value .c f.rc))

/-- A load of `n` bytes in the scaled indexed form: the target receives what `g` makes of them. -/
def loads (mk : LS → Instr) (n : Nat) (g : State → Word → Word) : Prop :=
  ∀ f s e, s.readyAddr f = true → s.writable f.rt = true → s.canAccess .read (s.address f) n e = true →
    ∃ t, exec (mk f) s = .next t ∧
      s.wrote t f.rt (g s (s.bytes (e.physAddr (s.address f)) n)) (dispBytes f.disp)

/-- A store of the low `n` bytes of what `v` gives, where `ok` holds of the field that names the data. -/
def stores (mk : LS → Instr) (n : Nat) (ok : State → BitVec 6 → Bool) (v : State → BitVec 6 → Word) : Prop :=
  ∀ f s e, s.Inv → s.readyAddr f = true → ok s f.rt = true → s.canAccess .write (s.address f) n e = true →
    ∃ t, exec (mk f) s = .next t ∧
      s.stored t (s.address f) (e.physAddr (s.address f)) n (v s f.rt) (dispBytes f.disp)

/-! ## The numbers that floats stand for (spec/46_floating_point.md R551) -/

/-- The number 1, in the unit in which `fScaled` counts: the least positive number of the format. -/
def fUnit (fmt : FFmt) : Int := 2 ^ (2 ^ (ffmtExp fmt - 1) - 2 + ffmtFrac fmt)

/-- The number of a float, in units of the least positive number of its format: the fraction, with the hidden bit and moved up by the
exponent where the exponent is not zero. An infinity counts as the number past the greatest. -/
def fScaled (fmt : FFmt) (v : Word) : Int :=
  let m := v.toNat % 2 ^ (ffmtWidth fmt - 1)
  let frac := m % 2 ^ ffmtFrac fmt
  let exp := m / 2 ^ ffmtFrac fmt
  let n : Nat := if exp = 0 then frac else (2 ^ ffmtFrac fmt + frac) * 2 ^ (exp - 1)
  if v.getLsbD (ffmtWidth fmt - 1) then -(n : Int) else n

/-- The bits of a NaN: the exponent all ones, the fraction not zero. -/
def fNanBits (fmt : FFmt) (v : Word) : Bool :=
  let m := v.toNat % 2 ^ (ffmtWidth fmt - 1)
  m / 2 ^ ffmtFrac fmt == 2 ^ ffmtExp fmt - 1 && m % 2 ^ ffmtFrac fmt != 0

/-! ## Exceptions -/

/-- What taking an exception with a cause and a saved address leaves, as spec/60_exceptions.md R910 to R912 have it: the mode,
the mask level, the three stacks, the cause, the instruction pointer; and what it does not touch. -/
def State.tookException (s t : State) (cause : BitVec 8) (eip : Word) : Prop :=
  t.exc.sr[0] = s.sr ∧ t.exc.eip[0] = eip ∧ t.exc.mc[0] = 0#64 ∧ t.mode = 3#2 ∧
    (t.csr.cause[3]).setWidth 8 = cause ∧ (cause ≠ 10#8 → srIpl t.sr = 63#6) ∧
    t.ip = s.csr.tvec[3] + 8#64 * (vectorOf s.par.vectorRule cause).setWidth 64 ∧
    t.atom = [] ∧ t.regs = s.regs ∧ t.mem = s.mem ∧ t.tags = s.tags ∧ t.cards = s.cards ∧ t.stale = s.stale ∧ t.errs = s.errs ∧
    t.dirty = s.dirty ∧ t.tlb = s.tlb ∧ t.tlbCount = s.tlbCount ∧ t.ptw = s.ptw ∧ t.rgn = s.rgn ∧ t.qit1 = s.qit1 ∧
    t.qit2 = s.qit2 ∧ t.cfg = s.cfg ∧ t.par = s.par ∧
    t.csr = { s.csr with cause := t.csr.cause, badAddr := t.csr.badAddr, badInstr := t.csr.badInstr }

/-- An instruction takes an exception that saves its own address. -/
def raises (i : Instr) (s : State) (cause : BitVec 8) : Prop := ∃ t, exec i s = .next t ∧ s.tookException t cause s.ip

/-! ## Instructions without an effect -/

/-- Part 1 of `reservedInstrs`. -/
def reservedInstrs1 : List Instr :=
  [.csrOp4, .reservedFunc4x7, .reservedFunc4x15, .reservedLd65x3, .reservedBcc40x14, .reservedBcc48x14,
   .reservedBcc41x6, .reservedBcc49x6, .reservedBcc41x7, .reservedBcc49x7, .reservedBcc41x8, .reservedBcc49x8,
   .reservedBcc41x9, .reservedBcc49x9, .reservedBcc41x14, .reservedBcc49x14]

/-- Part 2 of `reservedInstrs`. -/
def reservedInstrs2 : List Instr :=
  [.reservedRoot12, .reservedRoot20, .reservedRoot56, .reservedRoot91, .reservedRoot110, .reservedRoot116,
   .reservedRoot117, .reservedRoot118, .reservedRoot119, .reservedRoot123, .reservedRoot125, .reservedRoot126,
   .reservedRoot1648, .reservedRoot1672, .reservedRoot1696]

/-- The reserved encodings that have a row of the opcode table (spec/92_eei_decisions.md D9). -/
def reservedInstrs : List Instr :=
  reservedInstrs1 ++ reservedInstrs2

/-- Part 1 of `mapOnlyInstrs`. -/
def mapOnlyInstrs1 : List Instr :=
  [.absR1, .not, .nnatrig, .nnastat, .nnamfact, .mkbool, .rex, .sm3p0, .sm3p1, .aes64ds, .aes64dsm, .aes64es,
   .aes64esm, .aes64im, .sha256sig0, .sha256sig1]

/-- Part 2 of `mapOnlyInstrs`. -/
def mapOnlyInstrs2 : List Instr :=
  [.sha256sum0, .sha256sum1, .sha512sig0, .sha512sig1, .sha512sum0, .sha512sum1, .nand, .nor, .enor, .cmovnz,
   .divsu, .mulw, .muluw, .mulsuw, .modsu, .divmod]

/-- Part 3 of `mapOnlyInstrs`. -/
def mapOnlyInstrs3 : List Instr :=
  [.divmodu, .dif, .nnamtwt, .nnamtin, .nnamtbias, .nnamtfb, .nnamtmc, .nnamtbc, .v2bits, .bits2v, .vex, .veins,
   .vgndx, .vshlv, .vshrv, .vsetmask]

/-- Part 4 of `mapOnlyInstrs`. -/
def mapOnlyInstrs4 : List Instr :=
  [.vshlvi, .vshrvi, .aes64k1i, .aes64ks2, .sm4ed, .sm4ks, .clmul, .mvvr, .fconst, .fnop, .fmin, .fmax, .fsubCode5,
   .fmul, .fdiv, .fseq]

/-- Part 5 of `mapOnlyInstrs`. -/
def mapOnlyInstrs5 : List Instr :=
  [.fsle, .fnxt, .frem, .fsgnj, .fsgnjn, .fsgnjx, .fscaleb, .fneg, .ftoi, .itof, .fsign, .fsig, .fcvts2d, .fcvts2q,
   .fcvtd2q, .fcvth2s]

/-- Part 6 of `mapOnlyInstrs`. -/
def mapOnlyInstrs6 : List Instr :=
  [.fcvth2d, .isnan, .finite, .fcvtq2h, .fcvtq2s, .fcvtq2d, .fcvth2q, .frsqrt, .fres, .fcvtd2s, .fclass, .fsin,
   .ftan, .fatan, .fsigmoid, .dfldd]

/-- Part 7 of `mapOnlyInstrs`. -/
def mapOnlyInstrs7 : List Instr :=
  [.dfldq, .pldw, .pldt, .pldo, .dfstd, .pstw, .pstt, .psto, .stptrt, .cRetd, .cInvoke, .cCopyType, .cIncOffs,
   .cSeal, .cSetAddr, .cSetBounds]

/-- Part 8 of `mapOnlyInstrs`. -/
def mapOnlyInstrs8 : List Instr :=
  [.cSetFlags, .cSetHigh, .cSetOffs, .cSpeicalRW, .cUnseal, .cGetFlags, .cGetHigh, .cGetLen, .cGetOffs, .cGetPerms,
   .cGetTag, .cGetTop, .cGetType, .cLoadTags, .cAlignMsk, .cRoundLen]

/-- Part 9 of `mapOnlyInstrs`. -/
def mapOnlyInstrs9 : List Instr :=
  [.cSealEntry, .cGetBase, .dflt, .pst, .chksc, .enter, .leave, .push, .pop, .blend, .bfind, .bcmp, .block,
   .amo, .cas]

/-- Part 10 of `mapOnlyInstrs`. -/
def mapOnlyInstrs10 : List Instr :=
  [.stopOp, .fence, .pfi]

/-- The instructions that the spec names in an opcode map and gives no meaning (spec/49_capability_system_modifiers.md R860), and FCONST
(spec/46_floating_point.md R566), but for STCTX, of which the 24-bit word is reserved, and for the register set family of R862, which
runs under `SET_BY_ANALOGY = pattern` (log 20). -/
def mapOnlyInstrs : List Instr :=
  mapOnlyInstrs1 ++ mapOnlyInstrs2 ++ mapOnlyInstrs3 ++ mapOnlyInstrs4 ++ mapOnlyInstrs5 ++
  mapOnlyInstrs6 ++ mapOnlyInstrs7 ++ mapOnlyInstrs8 ++ mapOnlyInstrs9 ++ mapOnlyInstrs10

/-! ## Runs -/

/-- A safe run of `n` steps: every step answers a next state, and the invariant holds throughout. -/
def State.safeFor (s : State) : Nat → Prop
  | 0 => s.Inv
  | n + 1 => s.Inv ∧ ∃ t, step s = .next t ∧ t.safeFor n

end Sys2Proof.Machine
end

