-- ==== Sys2Proof/Certificates/Slice0/Obligations.lean ====
section
/-! DEFINITION. The statements for the provers. -/

open Sys2Proof Sys2Proof.Machine

/-! ## Encodings -/

/-- The bytes of a well-formed instruction, whatever bytes follow them, decode to that instruction, with every operand at every
value. -/
def Obligations.EncodedInstructionsDecodeBack : Prop :=
  ∀ (i : Instr) (rest : List Byte), i.wf = true → decodeBytes (encodeBytes i ++ rest) = .instr i

/-- The two low bits of a word give its length (spec/30_encoding.md R221). A following immediate has 13 or 37 bits, sign-extended, or
85, of which the lowest 59 count; with the low five bits of the register field it makes the constant that stands for the register whose
position it names, and for no other. How such a constant is read is the model's choice (log 28; spec/49_capability_system_modifiers.md
R852, R853). -/
def Obligations.LengthCodeGivesBytes : Prop :=
  (∀ w : BitVec 96,
    (fld w 0 2 = 0#2 → wordLen w = 3) ∧ (fld w 0 2 = 1#2 → wordLen w = 6) ∧ (fld w 0 2 = 2#2 → wordLen w = 9) ∧
      (fld w 0 2 = 3#2 → wordLen w = 12)) ∧
  (∀ (w : BitVec 96) (r : BitVec 6),
    (fld w 0 2 = 0#2 → ∃ p, postfixOf w = some p ∧ p.bytes = 3 ∧ p.abc = fld w 9 2 ∧
      (p.imm ++ r.setWidth 5 : Word).toInt = (fld w 11 13).toInt * 32 + (r.toNat % 32 : Nat)) ∧
    (fld w 0 2 = 1#2 → ∃ p, postfixOf w = some p ∧ p.bytes = 6 ∧ p.abc = fld w 9 2 ∧
      (p.imm ++ r.setWidth 5 : Word).toInt = (fld w 11 37).toInt * 32 + (r.toNat % 32 : Nat)) ∧
    (fld w 0 2 = 2#2 → postfixOf w = none) ∧
    (fld w 0 2 = 3#2 → ∃ p, postfixOf w = some p ∧ p.bytes = 12 ∧ p.abc = fld w 9 2 ∧
      (p.imm ++ r.setWidth 5 : Word) = BitVec.ofNat 64 ((w >>> 11).toNat * 32 + r.toNat % 32))) ∧
  ∀ (s : State) (slot : Slot) (r : BitVec 6),
    (s.pfx = none → s.constant slot r = none ∧ s.value slot r = s.gpr r ∧ s.readable slot r = s.mayUse r) ∧
    ∀ p, s.pfx = some p →
      (p.abc = slot.code → s.value slot r = p.imm ++ r.setWidth 5 ∧ s.readable slot r = true) ∧
      (p.abc ≠ slot.code → s.constant slot r = none)

/-! ## Steps -/

/-- A step in which it is the core's turn, and whose bytes at the instruction pointer decode to an instruction, is `exec` of that
instruction on the fetched state; only the number of the next free values moves on. Fetching reads the first byte, then the bytes of the
length it gives, then looks for a postfix after them; it leaves the instruction, its postfix (none with the default parameters) and the
rest of the ATOM window in the state. The turns of the agents stand in an agenda, the model's form (log 16). With the default parameters
the decoder is the plain one; with a page table of another kind, or with tracing on and refused, no instruction runs. -/
def Obligations.StepRunsDecodedInstruction : Prop :=
  (∀ (s u t : State) (w : BitVec 96) (i : Instr), s.turn = some u → u.canRun = true → fetch u = .ok w t →
    u.par.decode w = .instr i →
    t.ir = w ∧ t.atom = u.atom.tail ∧ t.ip = u.ip ∧ (u.par.pfxModel = .refuse → t.pfx = none) ∧
    (∃ b n x y z, fetchBytes 0 u.ip 1 u = .ok b x ∧
      let len := wordLen (BitVec.ofNat 96 b)
      fetchBytes len u.ip len x = .ok n y ∧ w = BitVec.ofNat 96 n ∧
      fetchPostfix (u.ip + BitVec.ofNat 64 len) y = .ok t.pfx z ∧ t = { z with ir := w, pfx := t.pfx, atom := u.atom.tail }) ∧
    (∀ v, exec i t = .next v → step s = .next { v with draws := v.draws + 1 }) ∧
    (∀ r, exec i t = .refused r → step s = .refused r)) ∧
  (∀ s u : State, s.turn = some u →
    (u.tracing = true → step s = .refused .debugTrace) ∧
    (u.tracing = false → u.ptw.hierarchical = false → step s = .refused .hashedPageTable)) ∧
  (∀ s : State, s.agenda = [] → s.turn = some s) ∧
  (∀ (s : State) (rest : List Event), s.agenda = .run :: rest → s.turn = some { s with agenda := rest }) ∧
  ∀ (p : Params) (w : BitVec 96), p.bsrLayout = bsrDefault → p.sraprCodes = .description → p.fpOpcodes = .map →
    p.decode w = decode w

/-- In the core's turn a word that encodes no instruction raises Unimplemented Instruction, and a fetch that raises takes its exception
at the instruction pointer (spec/30_encoding.md R260, spec/21_memory_management.md R201). -/
def Obligations.StepTakesFetchAndDecodeExceptions : Prop :=
  (∀ (s u t : State) (w : BitVec 96) (why : Reserved), s.turn = some u → u.canRun = true → fetch u = .ok w t →
    u.par.decode w = .unimplemented why → ∃ v, step s = .next v ∧ t.tookException v 4#8 u.ip) ∧
  (∀ (s u t : State) (e : Trap), s.turn = some u → u.canRun = true → fetch u = .trap e t →
    ∃ v, step s = .next v ∧ t.tookException v e.cause u.ip ∧ t.ip = u.ip)

/-! ## Reset -/

/-- What reset leaves, as spec/70_reset_and_hazards.md R1001 and spec/21_memory_management.md R197 give it: machine mode, mask
level 63, machine interrupts disabled, the vector base, the cause, an empty ATOM window, the instruction pointer at the reset vector,
and the walker's registers. -/
def Obligations.ResetGivesStatedValues : Prop :=
  State.reset.mode = 3#2 ∧ srIpl State.reset.sr = 63#6 ∧ State.reset.sr.getLsbD 3 = false ∧
    State.reset.csr.tvec[3] = 0xFFFFFFFFFFFFFC00#64 ∧ (State.reset.csr.cause[3]).setWidth 8 = 12#8 ∧
    State.reset.ip = 0xFFFFFFFFFFFFFC60#64 ∧ State.reset.ip = State.reset.csr.tvec[3] + 8#64 * 12#64 ∧
    State.reset.atom = [] ∧ State.reset.ptw.base = 0xFFFFFFFFFFF80000#64 ∧ State.reset.ptw.attr = 0x1FFF081#64

/-- The invariant holds after reset. -/
def Obligations.InvariantHoldsAtReset : Prop := State.reset.Inv

/-- Every step keeps the invariant, from every state that has it. -/
def Obligations.EveryStepKeepsInvariant : Prop := ∀ s t : State, s.Inv → step s = .next t → t.Inv

/-- No step changes the parameters of the run. -/
def Obligations.NoStepChangesParameters : Prop := ∀ s t : State, step s = .next t → t.par = s.par

/-- Below machine mode no instruction changes a bit of the status register above the user, supervisor and hypervisor interrupt
enables, unless it takes an exception, which saves that status and enters machine mode. -/
def Obligations.LowerModesKeepPrivilegedStatus : Prop :=
  ∀ (i : Instr) (s t : State), s.mode ≠ 3#2 → exec i s = .next t →
    t.sr &&& 0xFFFFFFF8#32 = s.sr &&& 0xFFFFFFF8#32 ∨
      (t.mode = 3#2 ∧ t.exc.sr[0] &&& 0xFFFFFFF8#32 = s.sr &&& 0xFFFFFFF8#32 ∧ t.atom = [])

/-! ## Registers -/

/-- Register 0 reads zero and discards writes; register 31 is the stack pointer of the operating mode; a register is forbidden
exactly below the lowest mode of its row in the table of spec/10_state.md R24 (R21, R23, R24). -/
def Obligations.RegisterFileByMode : Prop :=
  ∀ (s : State) (v : Word),
    s.gpr 0#6 = 0#64 ∧ s.setGpr 0#6 v = s ∧
    (s.physical 31#6).toNat = 32 + s.mode.toNat ∧ (∀ r, r ≠ 31#6 → s.physical r = r) ∧
    (∀ r, r ≠ 0#6 → (s.setGpr r v).gpr r = v ∧ (s.setGpr r v).gprTag r = false ∧
      ∀ i, i ≠ s.physical r → (s.setGpr r v).gprPhys i = s.gprPhys i) ∧
    (∀ r : BitVec 6, r.toNat ≤ 32 ∨ 41 ≤ r.toNat → s.mayUse r = true) ∧
    (s.mayUse 33#6 = true ↔ 1 ≤ s.mode.toNat) ∧ (s.mayUse 34#6 = true ↔ 2 ≤ s.mode.toNat) ∧
    (s.mayUse 35#6 = true ↔ s.mode.toNat = 3) ∧
    ∀ r : BitVec 6, 36 ≤ r.toNat → r.toNat ≤ 40 → (s.mayUse r = true ↔ 2 ≤ s.mode.toNat)

/-- An instruction whose source or target register the mode may not name raises Privilege Violation and writes no register
(spec/10_state.md R24). Stated of AND, ADD, MUL, DIVU and CMP, of ADDI, ANDI and CMPI, of LDO, STO, LOADA and the scaled JSR, of BEQ and
BLT. -/
def Obligations.ForbiddenRegistersRaise : Prop :=
  (∀ f s, fuseDefined f.op4 = true → s.pfx = none →
    (s.mayUse f.ra && s.mayUse f.rb && s.mayUse f.rc && s.mayUse f.rt) = false →
    raises (.and f) s 5#8 ∧ raises (.add f) s 5#8 ∧ raises (.mul f) s 5#8 ∧ raises (.divu f) s 5#8 ∧ raises (.cmp f) s 5#8) ∧
  (∀ f s, s.pfx = none → (s.mayUse (viewOf f).ra && s.mayUse (viewOf f).rt) = false →
    raises (.addi f) s 5#8 ∧ raises (.andi f) s 5#8 ∧ raises (.cmpi f) s 5#8) ∧
  (∀ f s, s.pfx = none → (s.mayUse f.ra && s.mayUse f.rb && s.mayUse f.rt) = false →
    raises (.ldo f) s 5#8 ∧ raises (.sto f) s 5#8 ∧ raises (.loada f) s 5#8 ∧ raises (.jsrScaled f) s 5#8) ∧
  (∀ f s, s.pfx = none → s.precisionOk f.prc = true → (s.mayUse f.ra && s.mayUse f.rb) = false →
    raises (.beq f) s 5#8 ∧ raises (.blt f) s 5#8)

/-- A control register number above the current mode raises Privilege Violation (spec/10_state.md R34). -/
def Obligations.ForbiddenControlRegistersRaise : Prop :=
  (∀ (f : Csr) (s : State), s.mode.toNat < (f.regno.extractLsb' 12 2).toNat →
    raises (.csrrd f) s 5#8 ∧ raises (.csrrw f) s 5#8 ∧ raises (.csrrs f) s 5#8 ∧ raises (.csrrc f) s 5#8) ∧
  (∀ (f : CsrImm) (s : State), s.mode.toNat < (f.regno.extractLsb' 12 2).toNat →
    raises (.csrrwImm f) s 5#8 ∧ raises (.csrrsImm f) s 5#8 ∧ raises (.csrrcImm f) s 5#8)

/-! ## Exceptions -/

/-- Taking an exception pushes the three stacks, whose oldest entries are lost, enters machine mode at the mask level the cause
gives, writes cause, address and instruction registers, empties the ATOM window and goes to the vector; every other field of the state,
and every other control register, is as it was (spec/60_exceptions.md R905, R906, R910). -/
def Obligations.ExceptionEntryPushesAndVectors : Prop :=
  ∀ (e : Trap) (s : State),
    let t := trapEntry e s
    t.exc.sr[0] = s.sr ∧ t.exc.mc[0] = 0#64 ∧ t.exc.eip[0] = e.eip.getD s.ip ∧
    (∀ k : Fin 7, t.exc.sr[k.val + 1] = s.exc.sr[k.val] ∧ t.exc.mc[k.val + 1] = s.exc.mc[k.val] ∧
      t.exc.eip[k.val + 1] = s.exc.eip[k.val]) ∧
    t.mode = 3#2 ∧ srIpl t.sr = (if e.cause = 10#8 then e.level else 63#6) ∧
    t.sr &&& 0xFFFF981F#32 = s.sr &&& 0xFFFF981F#32 ∧
    (t.csr.cause[3]).setWidth 8 = e.cause ∧ (∀ i, e.info = some i → (t.csr.cause[3]).extractLsb' 8 8 = i) ∧
    (∀ m : Fin 3, t.csr.cause[m.val] = s.csr.cause[m.val]) ∧
    t.csr.badAddr = e.badAddr.getD s.csr.badAddr ∧
    t.csr.badInstr = (if e.badInstr then s.ir.setWidth 64 else s.csr.badInstr) ∧
    (s.par.vectorRule = .direct → t.ip = s.csr.tvec[3] + 8#64 * e.cause.setWidth 64) ∧
    (s.par.vectorRule = .alternate → e.cause.toNat ≤ 15 → t.ip = s.csr.tvec[3] + 8#64 * e.cause.setWidth 64) ∧
    (s.par.vectorRule = .alternate → 15 < e.cause.toNat → t.ip = s.csr.tvec[3] + 8#64 * 13#64) ∧
    t.atom = [] ∧
    (t.csr.scratch = s.csr.scratch ∧ t.csr.repbuf = s.csr.repbuf ∧ t.csr.asid = s.csr.asid ∧ t.csr.keys = s.csr.keys ∧
      t.csr.tick = s.csr.tick ∧ t.csr.sema = s.csr.sema ∧ t.csr.tvec = s.csr.tvec ∧ t.csr.ios = s.csr.ios ∧
      t.csr.cfgs = s.csr.cfgs) ∧
    (t.regs = s.regs ∧ t.mem = s.mem ∧ t.tags = s.tags ∧ t.stale = s.stale ∧ t.errs = s.errs ∧ t.dirty = s.dirty ∧
      t.cards = s.cards ∧ t.tlb = s.tlb ∧ t.tlbCount = s.tlbCount ∧ t.ptw = s.ptw ∧ t.rgn = s.rgn ∧ t.qic = s.qic ∧
      t.qit1 = s.qit1 ∧ t.qit2 = s.qit2 ∧ t.cfg = s.cfg ∧ t.agenda = s.agenda ∧ t.par = s.par ∧ t.ir = s.ir ∧ t.pfx = s.pfx ∧
      t.draws = s.draws)

/-- A return undoes an exception: status, address and the stacks are as before it, but for the oldest entries, which the push
lost (spec/48_branch_flow.md R764, spec/10_state.md R60). -/
def Obligations.ReturnUndoesException : Prop :=
  ∀ (e : Trap) (s : State) (offs : BitVec 4), s.sr &&& srDefined = s.sr →
    let t := exceptionReturn offs (trapEntry e s)
    t.sr = s.sr ∧ t.ip = e.eip.getD s.ip + 3#64 * offs.setWidth 64 ∧ t.mode = s.mode ∧ t.regs = s.regs ∧
    ∀ k : Fin 7, t.exc.sr[k.val] = s.exc.sr[k.val] ∧ t.exc.mc[k.val] = s.exc.mc[k.val] ∧
      t.exc.eip[k.val] = s.exc.eip[k.val]

/-- RTE and its two-up form pop the stacks in machine mode; in every other mode they are refused (spec/48_branch_flow.md R764,
R765). -/
def Obligations.ReturnsPopTheStacks : Prop :=
  ∀ (offs : BitVec 4) (s : State),
    (s.mode = 3#2 →
      (∃ t, exec (.rte offs) s = .next t ∧ t.sr = s.exc.sr[0] &&& srDefined ∧
        t.ip = s.exc.eip[0] + 3#64 * offs.setWidth 64 ∧
        (∀ k : Fin 7, t.exc.sr[k.val] = s.exc.sr[k.val + 1] ∧ t.exc.mc[k.val] = s.exc.mc[k.val + 1] ∧
          t.exc.eip[k.val] = s.exc.eip[k.val + 1]) ∧
        t.regs = s.regs ∧ t.csr = s.csr ∧ t.mem = s.mem ∧ t.tags = s.tags ∧ t.atom = s.atom) ∧
      ∃ t, exec (.rte2 offs) s = .next t ∧ t.sr = s.exc.sr[1] &&& srDefined ∧
        t.ip = s.exc.eip[1] + 3#64 * offs.setWidth 64 ∧
        (∀ k : Fin 6, t.exc.sr[k.val] = s.exc.sr[k.val + 2] ∧ t.exc.mc[k.val] = s.exc.mc[k.val + 2] ∧
          t.exc.eip[k.val] = s.exc.eip[k.val + 2]) ∧
        t.regs = s.regs ∧ t.csr = s.csr ∧ t.mem = s.mem ∧ t.tags = s.tags ∧ t.atom = s.atom) ∧
    (s.mode ≠ 3#2 → exec (.rte offs) s = .refused .rteMode ∧ exec (.rte2 offs) s = .refused .rteMode)

/-- BRK takes the exception of cause 0 and sets `sr.dbg` (spec/49_capability_system_modifiers.md R840); ATOM sets the window from
its mask, level 0 in the low bits, and moves past itself (R844). -/
def Obligations.BreakAndAtom : Prop :=
  (∀ s : State, ∃ t, exec .brk s = .next t ∧ s.tookException t 0#8 s.ip ∧ t.sr.getLsbD 18 = true ∧
    (srMode t.sr = 3#2 ∧ srIpl t.sr = 63#6 ∧ ∀ i, i ≠ 18 → i < 5 ∨ 14 < i → t.sr.getLsbD i = s.sr.getLsbD i)) ∧
  (∀ (m : BitVec 15) (s : State), ∃ t, exec (.atom (.short m)) s = .next t ∧ t.atom.length = 5 ∧
    (∀ k, k < 5 → t.atom[k]? = some (m.extractLsb' (3 * k) 3)) ∧ t = { s with atom := t.atom, ip := s.nextIp 3 }) ∧
  ∀ (m : BitVec 33) (s : State), ∃ t, exec (.atom (.long m)) s = .next t ∧ t.atom.length = 11 ∧
    (∀ k, k < 11 → t.atom[k]? = some (m.extractLsb' (3 * k) 3)) ∧ t = { s with atom := t.atom, ip := s.nextIp 6 }

/-- Every 24-bit word with root opcode 127, whatever its other bits, is NOP, which moves past itself and changes nothing else; a longer
word with that root opcode is unimplemented (spec/48_branch_flow.md R755). -/
def Obligations.NopDoesNothing : Prop :=
  (∀ w : BitVec 96, fld w 2 7 = 127#7 →
    (fld w 0 2 = 0#2 → decode w = .instr .nop) ∧ (fld w 0 2 ≠ 0#2 → ∃ why, decode w = .unimplemented why)) ∧
  ∀ s : State, ∃ t, exec .nop s = .next t ∧ s.wentTo t (s.nextIp 3)

/-- The reserved encodings that have a row of the opcode table raise Unimplemented Instruction (spec/30_encoding.md R260). -/
def Obligations.ReservedEncodingsRaise : Prop := ∀ i ∈ reservedInstrs, ∀ s : State, raises i s 4#8

/-! ## Interrupts -/

/-- The controller's registers (spec/60_exceptions.md R944 to R947, R951): what is written is read back in the bits there are, a write
of a pending register clears a bit, or with the top bit set posts a message for the vector of that bit, and every access is of 64 bits.
The controller presents a message: where the mask level, the enable bit of the mode, the software stack or the ATOM window
keeps it out, the step changes nothing but the agenda; where it is taken, the core enters cause 10 at the level of the message. The
non-maskable interrupt and the abort input are taken whatever the mask level, the enables and the window (spec/60_exceptions.md R920 to
R924). -/
def Obligations.InterruptsAreRecognisedByRule : Prop :=
  (∀ (s : State) (rest : List Event) (k : Nat) (m : Msg), s.agenda = .present k :: rest → s.qic.held[k]? = some m →
    s.par.irqDispatch = .tvec →
    ((m.priority.toNat ≤ (srIpl s.sr).toNat ∨ s.sr.getLsbD s.mode.toNat = false ∨
        srSwstk s.sr ≠ s.qic.vectorSwstk m.mode m.vector ∨ s.atom.head? = some 7#3) →
      step s = .next { s with agenda := rest, draws := s.draws + 1 }) ∧
    (s.qic.deliverable m = true → s.qic.reaches s.par.coreno m = true →
      s.recognises m.priority (s.qic.vectorSwstk m.mode m.vector) = true →
      ∃ t, step s = .next t ∧ s.tookException t 10#8 s.ip ∧ srIpl t.sr = m.priority ∧
        t.qic.held = s.qic.held.eraseIdx k)) ∧
  (∀ (s : State) (rest : List Event),
    (s.agenda = .nmi :: rest → ∃ t, step s = .next t ∧ s.tookException t 11#8 s.ip ∧ t.agenda = rest) ∧
    (s.agenda = .abort :: rest → ∃ t, step s = .next t ∧ s.tookException t 9#8 s.ip ∧ t.agenda = rest)) ∧
  (∀ (q : Qic) (v f g : Word), Sparse.wf q.afn = true → Sparse.wf q.enable = true → Sparse.wf q.pending = true →
    (∀ m : BitVec 2, (q.write (8 * m.toNat) v f).read (8 * m.toNat) g = v ∧ (q.write (8 * m.toNat) v f).base m = v) ∧
    (q.write 0x020 v f).read 0x020 g = v ∧ (q.write 0x380 v f).read 0x380 g = v &&& 1#64 ∧
    (q.write 0x390 v f).read 0x390 g = v &&& 63#64 ∧
    (∀ k, k < 256 → (q.write (0x800 + 8 * k) v f).read (0x800 + 8 * k) g = v ∧
      ∀ j, j < 256 → j ≠ k → (q.write (0x800 + 8 * k) v f).read (0x800 + 8 * j) g = q.read (0x800 + 8 * j) g) ∧
    (∀ k, k < 128 → (q.write (0x1000 + 8 * k) v f).read (0x1000 + 8 * k) g = v ∧
      ∀ j, j < 128 → j ≠ k → (q.write (0x1000 + 8 * k) v f).read (0x1000 + 8 * j) g = q.read (0x1000 + 8 * j) g) ∧
    (∀ k, k < 128 → v.getLsbD 63 = false → ∀ j i, j < 128 → i < 64 →
      ((q.write (0x1400 + 8 * k) v f).read (0x1400 + 8 * j) g).getLsbD i =
        ((q.read (0x1400 + 8 * j) g).getLsbD i && !(j == k && i == v.toNat % 64))) ∧
    (∀ k, k < 128 → v.getLsbD 63 = true → ∃ m, (q.write (0x1400 + 8 * k) v f).held = q.held ++ [m] ∧
      m.mode.toNat = k / 32 ∧ m.vector.toNat = 64 * (k % 32) + v.toNat % 64)) ∧
  ∀ (s : State) (off n : Nat) (v : Word),
    (deviceRead (.qic off) 8 s = .ok (s.qic.read off (s.free (Place.qic off).slot)) s ∧
      ∃ f, deviceWrite (.qic off) 8 v s = .ok () { s with qic := s.qic.write off v f }) ∧
    (n ≠ 8 → deviceRead (.qic off) n s = .stop .narrowDevice ∧ deviceWrite (.qic off) n v s = .stop .narrowDevice)

/-- A timer that counts goes down by one, and at zero requests an interrupt and reloads or stops (spec/60_exceptions.md R962). Its
registers (R960, R961, R963 to R965): the count is read-only; a limit, an on-time or control bits written are read back and take effect
when the timer's bit is written to SYNC; the global registers; a timer that does not exist; accesses of another width. -/
def Obligations.TimersCountDown : Prop :=
  (∀ (p : Params) (q : Qit) (n : Fin 32) (ext : Bool),
    p.hasTimer n = true → q.timers[n].ctrl.getLsbD 1 = true → q.gate.getLsbD n = true →
    (q.timers[n].ctrl.getLsbD 4 = false ∨ ext = true) →
    (q.timers[n].cc ≠ 0#64 →
      (q.tick p n ext).timers[n].cc = p.counter (q.timers[n].cc - 1#64) ∧ (q.tick p n ext).ustat = q.ustat) ∧
    (q.timers[n].cc = 0#64 →
      (q.tick p n ext).ustat.getLsbD n = true ∧
      (q.timers[n].ctrl.getLsbD 2 = true → (q.tick p n ext).timers[n].cc = q.timers[n].mc ∧
        (q.tick p n ext).timers[n].ctrl.getLsbD 1 = true) ∧
      (q.timers[n].ctrl.getLsbD 2 = false → (q.tick p n ext).timers[n].ctrl.getLsbD 1 = false)) ∧
    ∀ k : Fin 32, k ≠ n → (q.tick p n ext).timers[k] = q.timers[k]) ∧
  (∀ (p : Params) (q : Qit) (n : Fin 32) (v f : Word), p.hasTimer n = true →
    q.write p (32 * n) v = q ∧ q.read p (32 * n) f = q.timers[n].cc ∧
    (let t := (q.write p (32 * n + 8) v)
     t.timers[n] = { q.timers[n] with mcNew := p.counter v } ∧ t.read p (32 * n + 8) f = p.counter v) ∧
    (let t := (q.write p (32 * n + 16) v)
     t.timers[n] = { q.timers[n] with otNew := p.counter v } ∧ t.read p (32 * n + 16) f = p.counter v) ∧
    (let t := (q.write p (32 * n + 24) v)
     let kept := v &&& (if n.val < 4 then 0x1F#64 else 7#64)
     t.timers[n] = { q.timers[n] with ctrlNew := kept.setWidth 5 } ∧ t.read p (32 * n + 24) f = kept) ∧
    (let t := q.write p 0x808 v
     (v.getLsbD n = true → t.timers[n].mc = q.timers[n].mcNew ∧ t.timers[n].ot = q.timers[n].otNew ∧
       t.timers[n].cc = (if q.timers[n].ctrlNew.getLsbD 0 then q.timers[n].mcNew else q.timers[n].cc) ∧
       t.timers[n].ctrl = q.timers[n].ctrlNew &&& 0x1E#5 ∧ t.read p (32 * n + 24) f = (q.timers[n].ctrlNew &&& 0x1E#5).setWidth 64) ∧
     (v.getLsbD n = false → t.timers[n] = q.timers[n]))) ∧
  (∀ (p : Params) (q : Qit) (n : Fin 32) (k : Fin 4) (v f : Word), p.hasTimer n = false →
    q.write p (32 * n + 8 * k) v = q ∧ q.read p (32 * n + 8 * k) f = 0#64) ∧
  (∀ (p : Params) (q : Qit) (v f : Word),
    (q.write p 0x800 v).read p 0x800 f = q.ustat &&& ~~~v ∧ (q.write p 0x810 v).read p 0x810 f = p.timerBits v ∧
    (q.write p 0x818 v).read p 0x818 f = v ∧ q.write p 0x820 v = q ∧ q.read p 0x820 f = q.ostat ∧
    (q.write p 0x828 v).read p 0x828 f = p.timerBits v ∧ (q.write p 0x830 v).read p 0x828 f = q.gate ||| p.timerBits v ∧
    (q.write p 0x838 v).read p 0x828 f = q.gate &&& ~~~v ∧
    q.read p 0x808 f = 0#64 ∧ q.read p 0x830 f = 0#64 ∧ q.read p 0x838 f = 0#64 ∧
    (q.requests p = true ↔ p.qitGlobalIe = true ∧ ∃ n, n < 64 ∧ q.ustat.getLsbD n = true ∧ q.ie.getLsbD n = true)) ∧
  ∀ (s : State) (second : Bool) (off n : Nat) (v : Word),
    (deviceRead (.timers second off) 8 s = .ok ((s.qit second).read s.par off (s.free (Place.timers second off).slot)) s ∧
      deviceWrite (.timers second off) 8 v s = .ok () (s.setQit second ((s.qit second).write s.par off v))) ∧
    (n ≠ 8 → deviceRead (.timers second off) n s = .stop .narrowDevice ∧
      deviceWrite (.timers second off) n v s = .stop .narrowDevice)

/-! ## Translation and memory -/

/-- An address whose page is in the TLB with its rights known translates to the entry's page (spec/21_memory_management.md R200);
where a right, the key or the privilege level is missing the access raises Privilege Violation with the address. -/
def Obligations.TranslationChecksRights : Prop :=
  ∀ (acc : Access) (n : Nat) (va : Word) (s : State) (e : TlbEntry), s.tlbFind (vpnOf va) = some e → e.pmtValid = true →
    (s.permits acc e = true → s.granular acc e va n = true →
      translate acc n va va s = .ok (e.ppn.toNat * 2 ^ 13 + va.toNat % 2 ^ 13) s) ∧
    (s.permits acc e = false → ∃ t, translate acc n va va s = .trap t s ∧ t.cause = 5#8 ∧ t.badAddr = some va) ∧
    (s.permits acc e = true →
      e.rwx.getLsbD acc.bit = true ∧ (e.rights (s.accessMode acc)).getLsbD acc.bit = true ∧
      (e.group (s.accessMode acc)).getLsbD acc.bit = true ∧ (s.accessMode acc = 0#2 → e.u = true) ∧
      (e.key = 0#24 ∨ e.key ∈ s.csr.keys.toList))

/-- An address past the limit of the root table raises Page Fault, and the walker keeps the address and the address space (spec/
21_memory_management.md R172, R201). A walk that ends in a page table entry, in the root or one table below it, or in a shortcut
pointer, gives the translation, which the TLB then holds (R170 to R173); an entry of level 0, and a page past a shortcut's limit,
raise Page Fault. At the first use of a translation the page's rights are read from the page management table of its region (R160,
R161). -/
def Obligations.WalkPastTheRootFaults : Prop :=
  (∀ (acc : Access) (n : Nat) (va : Word) (s : State), s.tlbFind (vpnOf va) = none → s.ptw.hierarchical = true →
    s.ptw.limit < va.toNat / 2 ^ (13 + 10 * (s.ptw.rootLevel - 1)) →
    ∃ t e, translate acc n va va s = .trap e t ∧ e.cause = 6#8 ∧ e.badAddr = some va ∧ t.ptw.pfAddr = va ∧
      t.ptw.pfAsid = s.csr.asid ∧ t.regs = s.regs ∧ t.mem = s.mem ∧ t.ip = s.ip ∧ t.tlb = s.tlb) ∧
  (∀ (acc : Access) (va : Word) (s : State) (e : Word), s.tlbFind (vpnOf va) = none → s.ptw.hierarchical = true →
    let idx := va.toNat / 2 ^ (13 + 10 * (s.ptw.rootLevel - 1))
    let level := (e.extractLsb' 61 3).toNat
    idx ≤ s.ptw.limit → s.holdsOcta (s.ptw.base.toNat / 8 * 8 + 8 * idx) e = true →
    (level = 0 → ∃ x t, lookup acc va s = .trap x t ∧ x.cause = 6#8 ∧ x.badAddr = some va ∧ t.ptw.pfAddr = va) ∧
    (level = 1 → ∃ p t, lookup acc va s = .ok p t ∧ s.walkedTo t va p ∧ p.ppn = (e.extractLsb' 0 45).setWidth 57 ∧
      p.rwx = e.extractLsb' 45 3 ∧ p.u = e.getLsbD 48 ∧ p.rgn = e.extractLsb' 57 3) ∧
    (2 ≤ level → level ≤ 4 → e.getLsbD 60 = true →
      let block := 2 ^ (10 * (level - 1))
      (e.toNat % block < (vpnOf va).toNat % block →
        ∃ x t, lookup acc va s = .trap x t ∧ x.cause = 6#8 ∧ x.badAddr = some va) ∧
      ((vpnOf va).toNat % block ≤ e.toNat % block →
        ∃ p t, lookup acc va s = .ok p t ∧ s.walkedTo t va p ∧
          p.ppn.toNat = e.toNat % 2 ^ 57 / block * block + (vpnOf va).toNat % block)) ∧
    (4 < level → e.getLsbD 60 = true → lookup acc va s = .stop .shortcutLevel) ∧
    (2 ≤ level → e.getLsbD 60 = false → s.ptw.rootLevel = 2 → ∀ e' : Word,
      s.holdsOcta (e.toNat % 2 ^ 57 * 2 ^ 13 + 8 * (va.toNat / 2 ^ 13 % 1024)) e' = true → e'.extractLsb' 61 3 = 1#3 →
      ∃ p t, lookup acc va s = .ok p t ∧ s.walkedTo t va p ∧ p.ppn = e.extractLsb' 45 12 ++ e'.extractLsb' 0 45 ∧
        p.rwx = e'.extractLsb' 45 3 ∧ p.u = e'.getLsbD 48 ∧ p.rgn = e'.extractLsb' 57 3)) ∧
  ∀ (acc : Access) (va : Word) (s : State) (e : TlbEntry) (lo hi : Word), e.pmtValid = false →
    let pa := (s.rgn[e.rgn.toNat]'e.rgn.isLt).pmt.toNat + 16 * e.ppn.toNat
    s.holdsOcta pa lo = true → s.holdsOcta (pa + 8) hi = true →
    ∃ p t, loadRights acc va e s = .ok p t ∧ t = s.tlbInsert p ∧ p.pmtValid = true ∧ p.ppn = e.ppn ∧ p.vpn = e.vpn ∧
      p.urwx = lo.extractLsb' 0 3 ∧ p.srwx = lo.extractLsb' 3 3 ∧ p.hrwx = lo.extractLsb' 6 3 ∧ p.mrwx = lo.extractLsb' 9 3 ∧
      p.n = lo.getLsbD 30 ∧ p.key = hi.extractLsb' 32 24 ∧ p.pl = hi.extractLsb' 56 8 ∧
      p.attr = (s.rgn[e.rgn.toNat]'e.rgn.isLt).attr

/-- What is stored is what is then loaded, byte for byte little-endian, and every other byte of memory is as it was (spec/
20_memory.md R102, R104, R105); misaligned accesses too under `MISALIGNED_DATA = bytewise`, across a page boundary through both pages,
while `fault` raises Address Error and `refuse` stops (R109). Where nothing answers a byte, or its response carries `Err`, a load raises
Bus Error for the lowest such byte, and a store does or loses that byte, a free choice (R137; spec/60_exceptions.md R930; log 41). An
access that reaches a device is one access of that device (R112). Two clauses state choices of the model, which the spec does not make:
that a misaligned access raises or stops whatever its translation would do (log 45), and that the region table, the walker and the
configuration registers answer accesses of every width (log 43). -/
def Obligations.LoadsSeeStores : Prop :=
  (∀ (s : State) (va v : Word) (n : Nat) (e : TlbEntry), (n = 1 ∨ n = 2 ∨ n = 4 ∨ n = 8) → s.Inv →
    s.canAccess .write va n e = true → s.canAccess .read va n e = true →
    ∃ sp t, storeAt va n v s = .ok sp t ∧ load va n t = .ok (zextLow n v) t ∧
      (∀ k, k < n → t.mem.byte (e.physAddr va + k) = v.extractLsb' (8 * k) 8) ∧
      ∀ a, (a < e.physAddr va ∨ e.physAddr va + n ≤ a) → t.mem.byte a = s.mem.byte a) ∧
  (∀ (s : State) (va v : Word) (n : Nat) (e : TlbEntry), 0 < n → n ≤ 8 → s.Inv → s.par.misaligned = .bytewise →
    va.toNat % 2 ^ 13 + n ≤ 2 ^ 13 → s.canPass .write va va n e = true → s.canPass .read va va n e = true →
    s.allMemory va (e.physAddr va) n = true →
    ∃ sp t, storeAt va n v s = .ok sp t ∧ load va n t = .ok (zextLow n v) t ∧
      (∀ k, k < n → t.mem.byte (e.physAddr va + k) = v.extractLsb' (8 * k) 8) ∧
      ∀ a, (a < e.physAddr va ∨ e.physAddr va + n ≤ a) → t.mem.byte a = s.mem.byte a) ∧
  (∀ (s : State) (va : Word) (n c : Nat) (e e' : TlbEntry), n ≤ 8 → s.par.misaligned = .bytewise → 0 < c → c < n →
    va.toNat % 2 ^ 13 + c = 2 ^ 13 → s.canPass .read va va n e = true →
    s.canPass .read va (va + BitVec.ofNat 64 c) n e' = true → s.allMemory va (e.physAddr va) c = true →
    s.allMemory (va + BitVec.ofNat 64 c) (e'.physAddr (va + BitVec.ofNat 64 c)) (n - c) = true →
    load va n s = .ok (BitVec.ofNat 64 (s.mem.value (fun k =>
      if k < c then e.physAddr va + k else e'.physAddr (va + BitVec.ofNat 64 c) + (k - c)) n)) s) ∧
  (∀ (s : State) (va v : Word) (n : Nat), isAligned va n = false →
    (s.par.misaligned = .fault →
      (∃ x, load va n s = .trap x s ∧ x.cause = 3#8 ∧ x.badAddr = some va) ∧
      ∃ x, storeAt va n v s = .trap x s ∧ x.cause = 3#8 ∧ x.badAddr = some va) ∧
    (s.par.misaligned = .refuse → load va n s = .stop .misalignedData ∧ storeAt va n v s = .stop .misalignedData)) ∧
  (∀ (s : State) (va v : Word) (n k : Nat) (e : TlbEntry), (n = 1 ∨ n = 2 ∨ n = 4 ∨ n = 8) → isAligned va n = true → k < n →
    (∀ j, j < k → s.port (va + BitVec.ofNat 64 j) (e.physAddr va + j) ≠ .nothing) →
    s.port (va + BitVec.ofNat 64 k) (e.physAddr va + k) = .nothing →
    (s.canPass .read va va n e = true →
      ∃ x, load va n s = .trap x s ∧ x.cause = 2#8 ∧ x.badAddr = some (va + BitVec.ofNat 64 k)) ∧
    (s.canPass .write va va n e = true → s.Inv → (∀ j, j < n → j ≠ k → s.port (va + BitVec.ofNat 64 j) (e.physAddr va + j) = .memory) →
      if (s.free slotStore).getLsbD 0 = true then
        ∃ x, storeAt va n v s = .trap x s ∧ x.cause = 2#8 ∧ x.badAddr = some (va + BitVec.ofNat 64 k)
      else ∃ sp t, storeAt va n v s = .ok sp t ∧ ∀ a, t.mem.byte a =
        if e.physAddr va ≤ a ∧ a < e.physAddr va + n ∧ a ≠ e.physAddr va + k then v.extractLsb' (8 * (a - e.physAddr va)) 8
        else s.mem.byte a)) ∧
  (∀ (s : State) (va : Word) (pa : Nat), Sparse.get s.errs pa = 1#1 → s.port va pa = .nothing ∧ s.place pa = .nothing) ∧
  (∀ (s : State) (va v : Word) (n : Nat) (e : TlbEntry) (p : Place), (n = 1 ∨ n = 2 ∨ n = 4 ∨ n = 8) →
    (s.canReach .read va n e p = true → load va n s = deviceRead p n s) ∧
    (s.canReach .write va n e p = true → ∀ t, deviceWrite p n v s = .ok () t →
      ∃ sp, storeAt va n v s = .ok sp (t.noteStore va n))) ∧
  ∀ (s : State) (p : Place) (n : Nat) (v : Word),
    (n = 8 ∨ ∀ off second, p ≠ .qic off ∧ p ≠ .timers second off) →
    (∃ x, deviceRead p n s = .ok x s) ∧ ((∀ off, p ≠ .walker off) → ∃ t, deviceWrite p n v s = .ok () t)

/-! ## Lanes and results -/

/-- Each lane of a result is computed from the same lanes of the operands and from nothing else (spec/30_encoding.md R231). -/
def Obligations.LanesAreIndependent : Prop :=
  ∀ (f : (w : Nat) → BitVec w → BitVec w → BitVec w → BitVec w → BitVec w) (a b c u : Word),
    mapLanes .octa f a b c u = f 64 a b c u ∧
    (∀ k, k < 2 → fld (mapLanes .tetra f a b c u) (32 * k) 32 =
      f 32 (fld a (32 * k) 32) (fld b (32 * k) 32) (fld c (32 * k) 32) (fld u (32 * k) 32)) ∧
    (∀ k, k < 4 → fld (mapLanes .wyde f a b c u) (16 * k) 16 =
      f 16 (fld a (16 * k) 16) (fld b (16 * k) 16) (fld c (16 * k) 16) (fld u (16 * k) 16)) ∧
    ∀ k, k < 8 → fld (mapLanes .byte f a b c u) (8 * k) 8 =
      f 8 (fld a (8 * k) 8) (fld b (8 * k) 8) (fld c (8 * k) 8) (fld u (8 * k) 8)

/-- The bits of a compare result, from bit 0: EQ NE LT LE GE GT BC BS (spec/44_comparison.md R441); of a range check: GEL GELE GL GLE
and their complements (R442); of a float comparison, by the numbers that the operands stand for (spec/46_floating_point.md R551,
R565). -/
def Obligations.CompareResultBits : Prop :=
  (∀ (w : Nat) (a b u : BitVec w) (signed : Bool), 8 ≤ w →
    (cmpVector signed a b u).getLsbD 0 = decide (a = b) ∧
    (cmpVector signed a b u).getLsbD 1 = decide (a ≠ b) ∧
    ((cmpVector true a b u).getLsbD 2 = decide (a.toInt < b.toInt)) ∧
    ((cmpVector true a b u).getLsbD 3 = decide (a.toInt ≤ b.toInt)) ∧
    ((cmpVector true a b u).getLsbD 4 = decide (b.toInt ≤ a.toInt)) ∧
    ((cmpVector true a b u).getLsbD 5 = decide (b.toInt < a.toInt)) ∧
    ((cmpVector false a b u).getLsbD 2 = decide (a.toNat < b.toNat)) ∧
    ((cmpVector false a b u).getLsbD 3 = decide (a.toNat ≤ b.toNat)) ∧
    ((cmpVector false a b u).getLsbD 4 = decide (b.toNat ≤ a.toNat)) ∧
    ((cmpVector false a b u).getLsbD 5 = decide (b.toNat < a.toNat)) ∧
    (b.toNat < w → (cmpVector signed a b u).getLsbD 6 = !a.getLsbD b.toNat) ∧
    (b.toNat < w → (cmpVector signed a b u).getLsbD 7 = a.getLsbD b.toNat) ∧
    ∀ k, 8 ≤ k → (cmpVector signed a b u).getLsbD k = false) ∧
  (∀ (w : Nat) (a b c : BitVec w) (signed : Bool), 8 ≤ w →
    let x : Int := if signed then a.toInt else a.toNat
    let lo : Int := if signed then b.toInt else b.toNat
    let hi : Int := if signed then c.toInt else c.toNat
    let r := rangeVector signed a b c
    r.getLsbD 0 = decide (lo ≤ x ∧ x < hi) ∧ r.getLsbD 1 = decide (lo ≤ x ∧ x ≤ hi) ∧ r.getLsbD 2 = decide (lo < x ∧ x < hi) ∧
    r.getLsbD 3 = decide (lo < x ∧ x ≤ hi) ∧ (∀ k, k < 4 → r.getLsbD (4 + k) = !r.getLsbD k) ∧
    ∀ k, 8 ≤ k → r.getLsbD k = false) ∧
  ∀ (fmt : FFmt) (a b u : Word),
    let x := fScaled fmt a
    let y := fScaled fmt b
    let r := fcmpVector fmt a b u
    (r.getLsbD 13 = (fNanBits fmt a || fNanBits fmt b) ∧ r.getLsbD 12 = !r.getLsbD 13 ∧ ∀ k, 14 ≤ k → r.getLsbD k = false) ∧
    (r.getLsbD 13 = true → r.getLsbD 0 = false ∧ r.getLsbD 1 = true ∧ r.getLsbD 5 = true ∧ r.getLsbD 7 = true ∧
      r.getLsbD 8 = false ∧ r.getLsbD 9 = true ∧ r.getLsbD 11 = true) ∧
    (r.getLsbD 13 = false → r.getLsbD 0 = decide (x = y) ∧ r.getLsbD 1 = decide (x ≠ y) ∧ r.getLsbD 5 = decide (y ≤ x) ∧
      r.getLsbD 7 = decide (x < y) ∧ r.getLsbD 8 = decide (x ≤ y) ∧ r.getLsbD 9 = decide (x ≤ y) ∧
      r.getLsbD 11 = decide (x ≠ y)) ∧
    ((fIsInf fmt a || fIsInf fmt b) = false →
      r.getLsbD 2 = (!r.getLsbD 13 && decide (y < x)) ∧ r.getLsbD 3 = (r.getLsbD 13 || decide (y < x)) ∧
      r.getLsbD 4 = (!r.getLsbD 13 && decide (y ≤ x)) ∧ r.getLsbD 6 = (!r.getLsbD 13 && decide (x < y)) ∧
      r.getLsbD 10 = (!r.getLsbD 13 && decide (x ≠ y)))

/-- The square root of an unsigned lane is the largest number whose square does not exceed it (spec/40_arithmetic.md R323). -/
def Obligations.SquareRootIsFloor : Prop :=
  ∀ (w : Nat) (v : BitVec w), (w = 8 ∨ w = 16 ∨ w = 32 ∨ w = 64) →
    (isqrt v).toNat ^ 2 ≤ v.toNat ∧ v.toNat < ((isqrt v).toNat + 1) ^ 2

/-- A right shift takes the bits MB to ME of the pair to the bottom of the lane, with zeros or the field's top bit above (spec/
45_shift_bitfield.md R504, R509, R512). Rounding toward zero it is the quotient of the bits ME to 0, as a signed number, by 2 to the
power MB, truncated (R514); rounding up, one more where the last bit shifted out is 1 (R515). -/
def Obligations.RightShiftsTakeTheField : Prop :=
  (∀ (w : Nat) (r : Range) (p : BitVec (w + w)) (i : Nat), r.valid w = true → i < w →
    (srlpLane r p).getLsbD i = (decide (i ≤ r.me - r.mb) && p.getLsbD (r.mb + i)) ∧
    (srapLane r p).getLsbD i = p.getLsbD (if i ≤ r.me - r.mb then r.mb + i else r.me)) ∧
  ∀ (w : Nat) (r : Range) (p : BitVec (w + w)), r.valid w = true →
    let x := (p.setWidth (r.me + 1)).toInt
    srapLane r p = BitVec.ofInt w (x / 2 ^ r.mb) ∧
    sraprzLane r p = BitVec.ofInt w (x.tdiv (2 ^ r.mb)) ∧
    (r.mb = 0 → srapruLane r p = BitVec.ofInt w x) ∧
    (0 < r.mb → srapruLane r p = BitVec.ofInt w ((x + 2 ^ (r.mb - 1)) / 2 ^ r.mb))

/-- A control register that is plain storage reads what was written to it, in the bits it has, and writing it changes no other of
them (spec/10_state.md R41 to R62). A view of the status register below machine mode shows and writes the enable bits of its own and lower
modes and nothing else (R37, R38). The registers of the page table walker (spec/21_memory_management.md R195 to R197; what software
writes to the fault registers stays, log 11) and of the region table (R151). That M_IOS and M_CFGS keep all 64 bits is the model's choice
(log 46). -/
def Obligations.ControlRegistersReadBack : Prop :=
  (∀ (s : State) (v : Word),
    (∀ m, (s.csrSet (.scratch m) v).csrValue (.scratch m) = v) ∧
    (∀ m, (s.csrSet (.cause m) v).csrValue (.cause m) = v &&& 0xFFFF#64) ∧
    ((s.csrSet .asid v).csrValue .asid = v &&& 0xFFFF#64) ∧
    (∀ k, (s.csrSet (.key k) v).csrValue (.key k) = v &&& 0xFFFFFF#64) ∧
    (∀ k, (s.csrSet (.tvec k) v).csrValue (.tvec k) = v) ∧
    (∀ k, (s.csrSet (.eip k) v).csrValue (.eip k) = v) ∧
    (∀ k, (s.csrSet (.mcStack k) v).csrValue (.mcStack k) = v) ∧
    (∀ k, (s.csrSet (.srStack k) v).csrValue (.srStack k) = v &&& 0xFF7FFFFF#64) ∧
    ((s.csrSet .badAddr v).csrValue .badAddr = v) ∧ ((s.csrSet .badInstr v).csrValue .badInstr = v) ∧
    ((s.csrSet .sema v).csrValue .sema = v) ∧ ((s.csrSet .ios v).csrValue .ios = v) ∧
    ((s.csrSet .cfgs v).csrValue .cfgs = v) ∧ ((s.csrSet .repbuf v).csrValue .repbuf = v) ∧
    ((s.csrSet (.sr 3#2) v).csrValue (.sr 3#2) = v &&& 0xFF7FFFFF#64) ∧
    (∀ c d, c ≠ d → (∀ m, c ≠ .sr m) → d ≠ .absent → d ≠ .seed → d ≠ .tick → (s.csrSet c v).csrValue d = s.csrValue d) ∧
    ((s.csrSet .coreno v) = s ∧ (s.csrSet .tick v) = s ∧ (s.csrSet .seed v) = s ∧ (s.csrSet .absent v) = s)) ∧
  (∀ (s : State) (v : Word) (view : BitVec 2) (i : Nat), view.toNat < 3 →
    ((s.csrSet (.sr view) v).csrValue (.sr view)).getLsbD i = (decide (i ≤ view.toNat) && v.getLsbD i) ∧
    (s.csrSet (.sr view) v).sr.getLsbD i = (if i ≤ view.toNat then v.getLsbD i else s.sr.getLsbD i)) ∧
  (∀ (s : State) (v : Word),
    (∃ t, deviceWrite (.walker 0xFF00) 8 v s = .ok () t ∧ t = { s with ptw := { s.ptw with pfAddr := v } }) ∧
    (∃ t, deviceWrite (.walker 0xFF10) 8 v s = .ok () t ∧ t = { s with ptw := { s.ptw with pfAsid := v.setWidth 16 } }) ∧
    (∃ t, deviceWrite (.walker 0xFF20) 8 v s = .ok () t ∧ t = { s with ptw := { s.ptw with base := v &&& ~~~7#64 } }) ∧
    (v.extractLsb' 6 2 = 2#2 ∧ v.getLsbD 3 = false →
      ∃ t, deviceWrite (.walker 0xFF30) 8 v s = .ok () t ∧ t = { s with ptw := { s.ptw with attr := v } }) ∧
    (v.extractLsb' 6 2 ≠ 2#2 ∨ v.getLsbD 3 = true → deviceWrite (.walker 0xFF30) 8 v s = .stop .ptAttr) ∧
    deviceRead (.walker 0xFF00) 8 s = .ok s.ptw.pfAddr s ∧ deviceRead (.walker 0xFF10) 8 s = .ok (s.ptw.pfAsid.setWidth 64) s ∧
    deviceRead (.walker 0xFF20) 8 s = .ok s.ptw.base s ∧ deviceRead (.walker 0xFF30) 8 s = .ok s.ptw.attr s) ∧
  ∀ (s : State) (v : Word) (k k' : Fin 8) (j j' : Fin 3) (h h' : Bool),
    let off := fun (k : Fin 8) (j : Fin 3) (h : Bool) => 0x40 * k.val + 16 * j.val + if h then 8 else 0
    ∃ t, deviceWrite (.regions (off k j h)) 8 v s = .ok () t ∧ t = { s with rgn := t.rgn } ∧
      deviceRead (.regions (off k j h)) 8 t = .ok v t ∧
      ((k', j', h') ≠ (k, j, h) →
        ∃ x, deviceRead (.regions (off k' j' h')) 8 s = .ok x s ∧ deviceRead (.regions (off k' j' h')) 8 t = .ok x t) ∧
      (t.rgn[k].pmt.setWidth 64 = if j = 0 ∧ h = false then v else s.rgn[k].pmt.setWidth 64) ∧
      (t.rgn[k].attr.extractLsb' 64 64 = if j = 2 ∧ h = true then v else s.rgn[k].attr.extractLsb' 64 64)

/-! ## What the instructions compute -/

/-- AND, OR, EOR and MAJ: the bitwise operation under sign control, with the second operation on Rc where Op4 names one, and the
majority for OR's Op4 = 15; AND and OR with another Op4 are unimplemented (spec/43_logical.md R421, R423, R425, spec/
40_arithmetic.md R322). -/
def Obligations.LogicalInstructions : Prop :=
  computes3 .and (fun f _ => fuseDefined f.op4)
    (fun f _ a b c _ => com f.nt (fuse f.op4 f.nc (com f.na a &&& com f.nb b) c)) ∧
  (∀ (f : R3) (s : State), 4 ≤ f.op4.toNat → raises (.and f) s 4#8) ∧
  computes3 .or (fun f _ => fuseDefined f.op4)
    (fun f _ a b c _ => com f.nt (fuse f.op4 f.nc (com f.na a ||| com f.nb b) c)) ∧
  computes3 .or (fun f _ => f.op4 == 15#4)
    (fun f _ a b c _ => com f.nt (com f.na a &&& com f.nb b ||| com f.na a &&& com f.nc c ||| com f.nb b &&& com f.nc c)) ∧
  (∀ (f : R3) (s : State), 4 ≤ f.op4.toNat → f.op4 ≠ 15#4 → raises (.or f) s 4#8) ∧
  computes3 .eor (fun f _ => fuseDefined f.op4)
    (fun f _ a b c _ => com f.nt (fuse f.op4 f.nc (com f.na a ^^^ com f.nb b) c)) ∧
  computes3 .maj (fun _ _ => true)
    (fun f _ a b c _ => com f.nt (com f.na a &&& com f.nb b ||| com f.na a &&& com f.nc c ||| com f.nb b &&& com f.nc c))

/-- An Op4 value that a register form does not define raises Unimplemented Instruction (spec/40_arithmetic.md R303, spec/
43_logical.md R421), but for ADDGC, which is refused (R303); DIV and REM raise Divide by zero, and write nothing, where a lane of the
divisor is zero (spec/41_multiply_divide.md R351). -/
def Obligations.RegisterFormsThatRaise : Prop :=
  (∀ (f : R3) (s : State), 4 ≤ f.op4.toNat →
    (f.op4 ≠ 11#4 → raises (.add f) s 4#8) ∧ (f.op4 = 11#4 → exec (.add f) s = .refused .addgc) ∧
    raises (.mul f) s 4#8 ∧ raises (.div f) s 4#8 ∧ raises (.abs f) s 4#8 ∧
    (f.op4 ≠ 15#4 → raises (.eor f) s 4#8 ∧ raises (.cmp f) s 4#8 ∧ raises (.cmpu f) s 4#8) ∧
    (f.op4 = 9#4 → exec (.mulu f) s = .refused .muluImmediate)) ∧
  ∀ (f : R3) (s : State), s.ready3 f = true → fuseDefined f.op4 = true →
    anyLane f.prec (fun _ v => v == 0) (s.value .b f.rb) = true → raises (.div f) s 64#8 ∧ raises (.rem f) s 64#8

/-- The compares: the compare vector, or for Op4 = 15 the range vector (spec/44_comparison.md R441, R442, R445). -/
def Obligations.CompareInstructions : Prop :=
  computes3 .cmp (fun f _ => fuseDefined f.op4)
    (fun f _ a b c u => neg f.nt (fuse f.op4 f.nc (cmpVector true (neg f.na a) (neg f.nb b) u) c)) ∧
  computes3 .cmpu (fun f _ => fuseDefined f.op4)
    (fun f _ a b c u => neg f.nt (fuse f.op4 f.nc (cmpVector false (neg f.na a) (neg f.nb b) u) c)) ∧
  computes3 .cmp (fun f _ => f.op4 == 15#4)
    (fun f _ a b c _ => neg f.nt (rangeVector true (neg f.na a) (neg f.nb b) (neg f.nc c))) ∧
  computes3 .cmpu (fun f _ => f.op4 == 15#4)
    (fun f _ a b c _ => neg f.nt (rangeVector false (neg f.na a) (neg f.nb b) (neg f.nc c)))

/-- Sums, absolute values, the parity of three lanes, products, quotients and remainders; a quotient by zero that raises nothing, and
the signed quotient that does not fit, are free; the 24-bit word that ADD and AND claim, its operands read from the word
being executed (log 34), under either value of `OP16_SHORT` that gives it an effect (spec/40_arithmetic.md
R301 to R303, spec/43_logical.md R423, spec/41_multiply_divide.md R351 to R363). -/
def Obligations.SumsProductsAndQuotients : Prop :=
  computes3 .add (fun f _ => fuseDefined f.op4)
    (fun f _ a b c _ => neg f.nt (fuse f.op4 f.nc (neg f.na a + neg f.nb b) c)) ∧
  computes3 .abs (fun f _ => f.op4 == 3#4)
    (fun f _ a b c _ => neg f.nt (absLane (neg f.na a + neg f.nb b + neg f.nc c))) ∧
  computes3 .eor (fun f _ => f.op4 == 15#4)
    (fun f w a b c _ =>
      com f.nt ((bit1 (parity (com f.na a) ^^ parity (com f.nb b) ^^ parity (com f.nc c))).setWidth w)) ∧
  computes3 .mul (fun f _ => fuseDefined f.op4)
    (fun f _ a b c _ => neg f.nt (fuse f.op4 f.nc (neg f.na a * neg f.nb b) c)) ∧
  computes3 .mulu (fun f _ => fuseDefined f.op4)
    (fun f _ a b c _ => neg f.nt (fuse f.op4 f.nc (neg f.na a * neg f.nb b) c)) ∧
  computes3 .mulsu (fun f _ => fuseDefined f.op4)
    (fun f _ a b c _ => neg f.nt (fuse f.op4 f.nc (neg f.na a * neg f.nb b) c)) ∧
  computes3 .div (fun f s => fuseDefined f.op4 && !anyLane f.prec (fun _ v => v == 0) (s.value .b f.rb))
    (fun f _ a b c u => neg f.nt (fuse f.op4 f.nc (squot (neg f.na a) (neg f.nb b) u) c)) ∧
  computes3 .rem (fun f s => fuseDefined f.op4 && !anyLane f.prec (fun _ v => v == 0) (s.value .b f.rb))
    (fun f _ a b c u => neg f.nt (fuse f.op4 f.nc (srmd (neg f.na a) (neg f.nb b) u) c)) ∧
  computes3 .divu (fun f _ => fuseDefined f.op4)
    (fun f _ a b c u => neg f.nt (fuse f.op4 f.nc (uquot (neg f.na a) (neg f.nb b) u) c)) ∧
  computes3 .remu (fun f _ => fuseDefined f.op4)
    (fun f _ a b c u => neg f.nt (fuse f.op4 f.nc (urmd (neg f.na a) (neg f.nb b) u) c)) ∧
  (∀ f s, s.readable .a f.ra = true → s.readable .b f.rb = true → s.writable f.rt = true → f.op3 = 0#3 →
    ∃ t, exec (.bmm f) s = .next t ∧
      s.wrote t f.rt (com f.nt (matrixProduct (com f.na (s.value .a f.ra)) (com f.nb (s.value .b f.rb)))) 6) ∧
  ∀ s : State,
    let f : R24 := ⟨fld s.ir 19 5, fld s.ir 14 5, fld s.ir 9 5⟩
    s.readable .a (f.ra.setWidth 6) = true → s.readable .b (f.rb.setWidth 6) = true → s.writable (f.rt.setWidth 6) = true →
    (s.par.op16 = .add → ∃ t, exec .add24 s = .next t ∧
      s.wrote t (f.rt.setWidth 6) (s.value .a (f.ra.setWidth 6) + s.value .b (f.rb.setWidth 6)) 3) ∧
    (s.par.op16 = .and → ∃ t, exec .add24 s = .next t ∧
      s.wrote t (f.rt.setWidth 6) (s.value .a (f.ra.setWidth 6) &&& s.value .b (f.rb.setWidth 6)) 3)

/-- The three-operand minimum, middle and maximum, and the selections by a register (spec/42_data_movement.md R381 to
R390). -/
def Obligations.SelectionInstructions : Prop :=
  computes3 .min3 (fun _ _ => true)
    (fun f _ a b c _ => neg f.nt (minLane true (neg f.na a) (minLane true (neg f.nb b) (neg f.nc c)))) ∧
  computes3 .max3 (fun _ _ => true)
    (fun f _ a b c _ => neg f.nt (maxLane true (neg f.na a) (maxLane true (neg f.nb b) (neg f.nc c)))) ∧
  computes3 .minu3 (fun _ _ => true)
    (fun f _ a b c _ => neg f.nt (minLane false (neg f.na a) (minLane false (neg f.nb b) (neg f.nc c)))) ∧
  computes3 .maxu3 (fun _ _ => true)
    (fun f _ a b c _ => neg f.nt (maxLane false (neg f.na a) (maxLane false (neg f.nb b) (neg f.nc c)))) ∧
  computes3 .mid3 (fun _ s => s.par.mid3 == .median)
    (fun f _ a b c _ => neg f.nt (medianLane true (neg f.na a) (neg f.nb b) (neg f.nc c))) ∧
  computes3 .midu3 (fun _ s => s.par.mid3 == .median)
    (fun f _ a b c _ => neg f.nt (medianLane false (neg f.na a) (neg f.nb b) (neg f.nc c))) ∧
  computes3 .mid3 (fun _ s => s.par.mid3 == .printed)
    (fun f _ a b c _ => neg f.nt (printedMid true (neg f.na a) (neg f.nb b) (neg f.nc c))) ∧
  computes3 .midu3 (fun _ s => s.par.mid3 == .printed)
    (fun f _ a b c _ => neg f.nt (printedMid false (neg f.na a) (neg f.nb b) (neg f.nc c))) ∧
  computes3 .cmov (fun _ _ => true)
    (fun f _ a b c _ => neg f.nt (if neg f.na a ≠ 0 then neg f.nb b else neg f.nc c)) ∧
  computes3 .mux (fun f _ => f.op4 == 0#4)
    (fun f _ a b c _ => com f.nt (if com f.na a ≠ 0 then com f.nb b else com f.nc c)) ∧
  computes3 .mux (fun f _ => f.op4 == 1#4 && f.prec == .octa)
    (fun f _ a b c _ => com f.nt ((com f.na a &&& com f.nb b) ||| (~~~com f.na a &&& com f.nc c)))

/-- The conditional moves and the register forms of the set family; the latter, by analogy, under `SET_BY_ANALOGY = pattern`, the
model's choice at reset (log 20, log 31; spec/44_comparison.md R448 to R455). -/
def Obligations.ConditionalMovesAndSets : Prop :=
  selects .cmoveq (fun _ => true) .eq ∧ selects .cmovne (fun _ => true) .ne ∧ selects .cmovlt (fun _ => true) .lt ∧
  selects .cmovle (fun _ => true) .le ∧
  selects .seq (fun s => s.par.setByAnalogy == .pattern) .eq ∧ selects .sne (fun s => s.par.setByAnalogy == .pattern) .ne ∧
  selects .slt (fun s => s.par.setByAnalogy == .pattern) .lt ∧ selects .sle (fun s => s.par.setByAnalogy == .pattern) .le ∧
  selects .sltu (fun s => s.par.setByAnalogy == .pattern) .ltu ∧
  selects .sleu (fun s => s.par.setByAnalogy == .pattern) .leu ∧
  selects .sltuCode100 (fun s => s.par.setByAnalogy == .pattern) .ltu ∧
  selects .sleuCode101 (fun s => s.par.setByAnalogy == .pattern) .leu ∧
  (∀ e ∈ [(Instr.zseq, Rel.eq), (.zsne, .ne), (.zslt, .lt), (.zsle, .le), (.zsltu, .ltu), (.zsleu, .leu),
      (.zseqCode120, .eq), (.zsneCode121, .ne), (.zsltCode122, .lt), (.zsleCode123, .le), (.zsltuCode124, .ltu),
      (.zsleuCode125, .leu)],
    computes3 e.1 (fun _ s => s.par.setByAnalogy == .pattern)
      (fun f _ a b c _ => neg f.nt (if e.2.holds (neg f.na a) (neg f.nb b) then neg f.nc c else 0)))

/-- Set on an immediate: SEQI and ZSEQI as the spec gives them, the other rows by analogy under `SET_BY_ANALOGY = pattern`, the
model's choice at reset (log 20; spec/44_comparison.md R453 to R455); their 24-bit words are undefined encodings. -/
def Obligations.SetOnImmediate : Prop :=
  setsImm .seqi (fun _ => true) .eq false ∧ setsImm .zseqi (fun _ => true) .eq true ∧
  (∀ e ∈ [(Instr.snei, Rel.ne), (.slti, .lt), (.slei, .le), (.sgti, .gt), (.sgei, .ge), (.sltui, .ltu), (.sleui, .leu),
      (.sgtui, .gtu), (.sgeui, .geu)],
    setsImm (fun f => e.1 (.long f)) (fun s => s.par.setByAnalogy == .pattern) e.2 false ∧
    ∀ (p : BitVec 15) (s : State), s.par.setByAnalogy = .pattern → raises (e.1 (.short p)) s 4#8) ∧
  (∀ e ∈ [(Instr.zsnei, Rel.ne), (.zslti, .lt), (.zslei, .le), (.zsgti, .gt), (.zsgei, .ge), (.zsltui, .ltu), (.zsleui, .leu),
      (.zsgtui, .gtu), (.zsgeui, .geu)],
    setsImm (fun f => e.1 (.long f)) (fun s => s.par.setByAnalogy == .pattern) e.2 true ∧
    ∀ (p : BitVec 15) (s : State), s.par.setByAnalogy = .pattern → raises (e.1 (.short p)) s 4#8)

/-- The register-immediate instructions: the immediate sign-extended in the arithmetic ones, zero-extended in ADD2UI to ADD16UI, ORI
and EORI, extended with ones in ANDI (spec/40_arithmetic.md R304 to R308, R329, spec/41_multiply_divide.md R354 to R361, spec/
43_logical.md R422 to R426, spec/44_comparison.md R446, R447). -/
def Obligations.ImmediateInstructions : Prop :=
  computesImm .addi ImmView.sext (fun v _ a i _ => neg v.nt (neg v.na a + i)) ∧
  computesImm .subfi ImmView.sext (fun v _ a i _ => neg v.nt (i - neg v.na a)) ∧
  computesImm .muli ImmView.sext (fun v _ a i _ => neg v.nt (neg v.na a * i)) ∧
  computesImm .mului ImmView.sext (fun v _ a i _ => neg v.nt (neg v.na a * i)) ∧
  computesImm .divi ImmView.sext (fun v _ a i u => neg v.nt (squot (neg v.na a) i u)) ∧
  computesImm .divui ImmView.sext (fun v _ a i u => neg v.nt (uquot (neg v.na a) i u)) ∧
  computesImm .cmpi ImmView.sext (fun v _ a i u => neg v.nt (cmpVector true (neg v.na a) i u)) ∧
  computesImm .cmpui ImmView.sext (fun v _ a i u => neg v.nt (cmpVector false (neg v.na a) i u)) ∧
  computesImm .andi ImmView.ones (fun v _ a i _ => com v.nt (com v.na a &&& i)) ∧
  computesImm .ori ImmView.zext (fun v _ a i _ => com v.nt (com v.na a ||| i)) ∧
  computesImm .eori ImmView.zext (fun v _ a i _ => com v.nt (com v.na a ^^^ i)) ∧
  computesImm .add2ui ImmView.zext (fun v _ a i _ => neg v.nt (neg v.na a <<< 1 + i)) ∧
  computesImm .add4ui ImmView.zext (fun v _ a i _ => neg v.nt (neg v.na a <<< 2 + i)) ∧
  computesImm .add8ui ImmView.zext (fun v _ a i _ => neg v.nt (neg v.na a <<< 3 + i)) ∧
  computesImm .add16ui ImmView.zext (fun v _ a i _ => neg v.nt (neg v.na a <<< 4 + i))

/-- The counts, the square root and the reversals (spec/40_arithmetic.md R313 to R323, spec/42_data_movement.md R392). -/
def Obligations.OneOperandInstructions : Prop :=
  computes1 .cntlz (fun f => f.op4 == 0#4) (fun f w a => neg f.nt (BitVec.ofNat w (leading false (com f.na a)))) ∧
  computes1 .cntlo (fun f => f.op4 == 0#4) (fun f w a => neg f.nt (BitVec.ofNat w (leading true (com f.na a)))) ∧
  computes1 .cntpop (fun f => f.op4 == 0#4) (fun f w a => neg f.nt (BitVec.ofNat w (population (com f.na a)))) ∧
  computes1 .cnttz (fun f => f.op4 == 0#4) (fun f w a => neg f.nt (BitVec.ofNat w (trailingZeros (com f.na a)))) ∧
  computes1 .sqrt (fun f => f.op4 == 0#4) (fun f _ a => neg f.nt (isqrt (neg f.na a))) ∧
  ∀ e ∈ [(Instr.revbit, 1), (.revbitp, 2), (.revn, 4), (.revb, 8), (.revw, 16), (.revt, 32), (.revo, 64)],
    computes1 e.1 (fun _ => true) (fun f _ a => com f.nt (revLane e.2 (com f.na a)))

/-- PTRDIF and the averages, whose count is the Rc field itself or the low six bits of the lane of Rc; the character index; the byte
map. A map that names one target byte twice gives it a free value, the model's choice (log 35), and the Rb field, which BMAP ignores, is
not checked against the mode (log 39) (spec/40_arithmetic.md R310, R311, R321, spec/42_data_movement.md R380). -/
def Obligations.ScaledIndexAndMap : Prop :=
  (∀ e ∈ [(Instr.ptrdif, (fun (w : Nat) (a b : BitVec w) (n : Nat) => absLane (a - b) >>> n)),
      (.avgTrunc, fun _ a b n => (a + b).sshiftRight n),
      (.avgRound, fun w a b n => (a + b + BitVec.ofNat w (2 ^ n - 1)).sshiftRight n)],
    ∀ f s, s.readable .a f.ra = true → s.readable .b f.rb = true → s.writable f.rt = true →
      (f.op4.getLsbD 3 = true ∨ s.readable .c f.rc = true) →
      ∃ t, exec (e.1 f) s = .next t ∧
        s.wrote t f.rt
          (mapLanes f.prec (fun w a b c _ => neg f.nt (e.2 w (neg f.na a) (neg f.nb b)
              (if f.op4.getLsbD 3 then f.rc.toNat else (neg f.nc c).toNat % 64)))
            (s.value .a f.ra) (s.value .b f.rb) (s.value .c f.rc) 0#64) 6) ∧
  (∀ e ∈ [(Instr.bytendx, 8), (.wydendx, 16), (.tetrandx, 32)],
    ∀ f s, s.readable .a f.ra = true → s.readable .b f.rb = true → s.writable f.rt = true → f.bi = false →
      ∃ t, exec (e.1 f) s = .next t ∧
        s.wrote t f.rt (neg f.nt (ndxFind e.2 f.op2 f.mask (neg f.na (s.value .a f.ra))
          ((neg f.nb (s.value .b f.rb)).setWidth e.2))) 6) ∧
  ∀ f s, s.readable .a f.ra = true → s.readable .c f.rc = true → s.writable f.rt = true → f.op4 = 0#4 → f.prec = .octa →
    ∃ t, exec (.bmap f) s = .next t ∧
      s.wrote t f.rt (com f.nt (byteMap (com f.na (s.value .a f.ra)) ((com f.nc (s.value .c f.rc)).setWidth 32)
        (s.free slotResult))) 6

/-- SX, ZX and MOVE; MOVE with its A bit names the safe stack pointer by 31, which user mode may
not (spec/42_data_movement.md R388, R393, R394). -/
def Obligations.ExtendAndMove : Prop :=
  (∀ f s, s.writable f.rt = true → f.nt = false →
    (∃ t, exec (.zx f) s = .next t ∧ s.wrote t f.rt (zextFrom f.imm.toNat (s.gpr f.rt)) 3) ∧
    ∃ t, exec (.sxImm f) s = .next t ∧ s.wrote t f.rt (sextFrom f.imm.toNat (s.gpr f.rt)) 3) ∧
  (∀ f s, s.readable .a f.ra = true → s.writable f.rt = true → f.na = false → f.nt = false →
    ∃ t, exec (.sxReg f) s = .next t ∧
      s.wrote t f.rt (sextFrom ((s.value .a f.ra).toNat % 64) (s.gpr f.rt)) 3) ∧
  (∀ f s, (f.a = false ∨ f.ra ≠ 31#6 ∧ f.rt ≠ 31#6) → s.readable .a f.ra = true → s.writable f.rt = true → f.na = false →
    f.nt = false → ∃ t, exec (.move f) s = .next t ∧ s.wrote t f.rt (s.value .a f.ra) 3) ∧
  (∀ f s, s.pfx = none → s.mode = 0#2 → f.a = true → f.ra = 31#6 ∨ f.rt = 31#6 → raises (.move f) s 5#8) ∧
  ∀ f s, s.pfx = none → s.mode ≠ 0#2 → f.na = false → f.nt = false → f.a = true →
    (f.ra = 31#6 → f.rt ≠ 31#6 → s.mayUse f.rt = true →
      ∃ t, exec (.move f) s = .next t ∧ s.wrote t f.rt (s.gprPhys 31#6) 3) ∧
    (f.rt = 31#6 → f.ra ≠ 31#6 → s.mayUse f.ra = true →
      ∃ t, exec (.move f) s = .next t ∧ t.gprPhys 31#6 = s.gpr f.ra ∧ t.tagPhys 31#6 = false ∧ t.ip = s.nextIp 3 ∧
        (∀ i, i ≠ 31#6 → t.gprPhys i = s.gprPhys i ∧ t.tagPhys i = s.tagPhys i) ∧ s.sameButRegs t)

/-- The CSR instructions: the old value to Rt, named by the old mode, and the new value to the register (spec/40_arithmetic.md
R317). -/
def Obligations.ControlRegisterInstructions : Prop :=
  (∀ (f : Csr) (s : State), (f.regno.extractLsb' 12 2).toNat ≤ s.mode.toNat → s.readable .a f.ra = true →
    s.writable f.rt = true → f.na = false → f.nt = false →
    let c := csrName f.regno
    let old := s.csrValue c
    let u := (s.csrAfterRead c).setGpr f.rt old
    exec (.csrrd f) s = .next (u.advance 6) ∧
    exec (.csrrw f) s = .next ((u.csrSet c (s.value .a f.ra)).advance 6) ∧
    exec (.csrrs f) s = .next ((u.csrSet c (old ||| s.value .a f.ra)).advance 6) ∧
    exec (.csrrc f) s = .next ((u.csrSet c (old &&& ~~~s.value .a f.ra)).advance 6)) ∧
  ∀ (f : CsrImm) (s : State), (f.regno.extractLsb' 12 2).toNat ≤ s.mode.toNat → s.writable f.rt = true → f.nt = false →
    let c := csrName f.regno
    let old := s.csrValue c
    let u := (s.csrAfterRead c).setGpr f.rt old
    exec (.csrrwImm f) s = .next ((u.csrSet c (f.uimm.setWidth 64)).advance 6) ∧
    exec (.csrrsImm f) s = .next ((u.csrSet c (old ||| f.uimm.setWidth 64)).advance 6) ∧
    exec (.csrrcImm f) s = .next ((u.csrSet c (old &&& ~~~(f.uimm.setWidth 64))).advance 6)

/-- CHK and CHKU: where the test of Op4 holds nothing happens, where it fails the check exception is taken with the type as its info
and the saved address `offs` parcels on (spec/40_arithmetic.md R312); the code of the exception is a free choice of the
implementation (log 24). -/
def Obligations.ChecksPassOrRaise : Prop :=
  ∀ (f : Chk) (s : State) (signed : Bool), s.readable .a f.ra = true → s.readable .b f.rb = true →
    s.readable .c f.rc = true → f.op4.toNat < 11 →
    let i := if signed then Instr.chk f else Instr.chku f
    let pass := chkPasses signed f.op4 (neg f.na (s.value .a f.ra)) (neg f.nb (s.value .b f.rb)) (neg f.nc (s.value .c f.rc))
      ((srCpl s.sr).setWidth 64) (s.gprPhys 53#6)
    (pass = some true → ∃ t, exec i s = .next t ∧ s.wentTo t (s.nextIp 6)) ∧
    (pass = some false → ∃ t, exec i s = .next t ∧
      s.tookException t Config.causeChk (s.ip + 3#64 * f.offs.setWidth 64) ∧
      (t.csr.cause[3]).extractLsb' 8 8 = f.op4.setWidth 8) ∧
    pass ≠ none

/-- CPUID, LOADA, AUIIP under each value of `AUIIP_EXT`, and the 48-bit word with root opcode 58 under each value of `OP58_48`: refused,
AUIIP, or the single precision instruction of its fields (spec/40_arithmetic.md R309, R316, R320, spec/46_floating_point.md R552,
R553). -/
def Obligations.AddressAndIdentity : Prop :=
  (∀ f s, s.readable .a f.ra = true → s.readable .b f.rb = true → s.writable f.rt = true → f.nt = false →
    ∃ t, exec (.cpuid f) s = .next t ∧
      s.wrote t f.rt (cpuInfo s.par
        (f.uimm.setWidth 64 + neg f.na (s.value .a f.ra) + neg f.nb (s.value .b f.rb))) 6) ∧
  (∀ f s, s.readyAddr f = true → s.writable f.rt = true →
    ∃ t, exec (.loada f) s = .next t ∧ s.wrote t f.rt (s.address f) (dispBytes f.disp)) ∧
  (∀ f s, s.writable f.rt = true →
    (s.par.auiipExt = .zero → ∃ t, exec (.auiip (.long f)) s = .next t ∧
      s.wrote t f.rt (neg f.nt (s.ip + immZext f.imm)) (immBytes f.imm)) ∧
    (s.par.auiipExt = .sign → ∃ t, exec (.auiip (.long f)) s = .next t ∧
      s.wrote t f.rt (neg f.nt (s.ip + immSext f.imm)) (immBytes f.imm)) ∧
    (s.par.auiipExt = .refuse → immTop f.imm = true → exec (.auiip (.long f)) s = .refused .auiipExtension) ∧
    (s.par.auiipExt = .refuse → immTop f.imm = false → ∃ t, exec (.auiip (.long f)) s = .next t ∧
      s.wrote t f.rt (neg f.nt (s.ip + immZext f.imm)) (immBytes f.imm))) ∧
  (∀ f s, s.writable (f.rt.setWidth 6) = true →
    (s.par.auiipExt = .zero → ∃ t, exec (.auiip (.short f)) s = .next t ∧
      s.wrote t (f.rt.setWidth 6) (s.ip + f.imm.setWidth 64) 3) ∧
    (s.par.auiipExt = .sign → ∃ t, exec (.auiip (.short f)) s = .next t ∧
      s.wrote t (f.rt.setWidth 6) (s.ip + f.imm.signExtend 64) 3) ∧
    (s.par.auiipExt = .refuse → f.imm.msb = true → exec (.auiip (.short f)) s = .refused .auiipExtension) ∧
    (s.par.auiipExt = .refuse → f.imm.msb = false → ∃ t, exec (.auiip (.short f)) s = .next t ∧
      s.wrote t (f.rt.setWidth 6) (s.ip + f.imm.setWidth 64) 3)) ∧
  (∀ (p : BitVec 39) (s : State), s.par.op58 = .refuse → exec (.opcode58 p) s = .refused .contestedOpcode) ∧
  (∀ (p : BitVec 39) (s : State), s.par.op58 = .auiip →
    let w := opcode58Word p
    let f : Auiip := ⟨.i23 (fld w 25 23), flag w 15, fld w 9 6⟩
    exec (.opcode58 p) s = exec (.auiip (.long f)) s ∧
    (s.writable f.rt = true →
      (s.par.auiipExt = .zero → ∃ t, exec (.opcode58 p) s = .next t ∧
        s.wrote t f.rt (neg f.nt (s.ip + (fld w 25 23).setWidth 64)) 6) ∧
      (s.par.auiipExt = .sign → ∃ t, exec (.opcode58 p) s = .next t ∧
        s.wrote t f.rt (neg f.nt (s.ip + (fld w 25 23).signExtend 64)) 6) ∧
      (s.par.auiipExt = .refuse → w.getLsbD 47 = false → ∃ t, exec (.opcode58 p) s = .next t ∧
        s.wrote t f.rt (neg f.nt (s.ip + (fld w 25 23).setWidth 64)) 6)) ∧
    (s.par.auiipExt = .refuse → w.getLsbD 47 = true → exec (.opcode58 p) s = .refused .auiipExtension)) ∧
  (∀ (p : BitVec 39) (s : State), s.par.op58 = .flt32 →
    let w := opcode58Word p
    (∀ f, (decodeFlt w = .instr (.fma f) → exec (.opcode58 p) s = exec (.fma f) s) ∧
      (decodeFlt w = .instr (.fms f) → exec (.opcode58 p) s = exec (.fms f) s)) ∧
    (∀ f, (decodeFlt w = .instr (.fadd f) → exec (.opcode58 p) s = exec (.fadd f) s) ∧
      (decodeFlt w = .instr (.fsub f) → exec (.opcode58 p) s = exec (.fsub f) s)) ∧
    (∀ f, (decodeFlt w = .instr (.fsne f) → exec (.opcode58 p) s = exec (.fsne f) s) ∧
      (decodeFlt w = .instr (.fslt f) → exec (.opcode58 p) s = exec (.fslt f) s) ∧
      (decodeFlt w = .instr (.fcmp f) → exec (.opcode58 p) s = exec (.fcmp f) s)) ∧
    (∀ f, (decodeFlt w = .instr (.fabs f) → exec (.opcode58 p) s = exec (.fabs f) s) ∧
      (decodeFlt w = .instr (.fnabs f) → exec (.opcode58 p) s = exec (.fnabs f) s)) ∧
    (∀ f, (decodeFlt w = .instr (.fsqrt f) → exec (.opcode58 p) s = exec (.fsqrt f) s) ∧
      (decodeFlt w = .instr (.ftrunc f) → exec (.opcode58 p) s = exec (.ftrunc f) s)) ∧
    (∀ f, decodeFlt w = .instr (.fcos f) → exec (.opcode58 p) s = exec (.fcos f) s) ∧
    ∀ why, decodeFlt w = .unimplemented why → raises (.opcode58 p) s 4#8) ∧
  ∀ w : BitVec 96, fld w 2 7 = 58#7 → FFmt.ofWord w = .single

/-- The shifts of a pair: right by the range that Rc or the fields give, left by Rc or a field (spec/45_shift_bitfield.md R504 to
R515). A left shift moves the pair's bits up and takes its upper or lower half (R506). -/
def Obligations.ShiftInstructions : Prop :=
  shiftsReg .srlp (fun r _ => srlpLane r) ∧ shiftsImm .srlpi (fun r _ => srlpLane r) ∧
  shiftsReg .srap (fun r _ => srapLane r) ∧ shiftsImm .srapi (fun r _ => srapLane r) ∧
  shiftsReg .sraprz (fun r _ => sraprzLane r) ∧ shiftsImm .sraprzi (fun r _ => sraprzLane r) ∧
  shiftsReg .srapru (fun r _ => srapruLane r) ∧ shiftsImm .sraprui (fun r _ => srapruLane r) ∧
  (∀ f s, s.readable .a f.ra = true → s.readable .b f.rb = true → s.readable .c f.rc = true → s.writable f.rt = true →
    f.nc = false →
    ∃ t, exec (.sllp f) s = .next t ∧
      s.wrote t f.rt
        (mapLanes f.prec (fun _ a b _ u =>
            com f.nt (sllpLane f.h ((s.value .c f.rc).toNat % 128) (com f.nb b ++ com f.na a) u))
          (s.value .a f.ra) (s.value .b f.rb) 0#64 (s.free slotResult)) 6) ∧
  (∀ f s, s.readable .a f.ra = true → s.readable .b f.rb = true → s.writable f.rt = true →
    ∃ t, exec (.sllpi f) s = .next t ∧
      s.wrote t f.rt
        (mapLanes f.prec (fun _ a b _ u => com f.nt (sllpLane f.h f.imm.toNat (com f.nb b ++ com f.na a) u))
          (s.value .a f.ra) (s.value .b f.rb) 0#64 (s.free slotResult)) 6) ∧
  ∀ (w : Nat) (n i : Nat) (p : BitVec (w + w)) (u : BitVec w), n < w + w → i < w →
    (sllpLane false n p u).getLsbD i = (decide (n ≤ i) && p.getLsbD (i - n)) ∧
    (sllpLane true n p u).getLsbD i = (decide (n ≤ w + i) && p.getLsbD (w + i - n))

/-- The deposits: the pair of Ra, high, and Rt, low, receives Rb in a range, replacing the old bits or exclusive-ored with them, and
both registers are written, with their tags cleared (spec/45_shift_bitfield.md R516 to R520, spec/10_state.md R28). A bit of a deposited
pair: in the range, that of the value, or its exclusive or with the old one; outside it, the old one. -/
def Obligations.DepositInstructions : Prop :=
  (∀ (f : Shift) (s : State) (x : Bool), s.pfx = none → f.na = false → f.nt = false → f.nc = false →
    s.mayUse f.ra = true → s.mayUse f.rb = true → s.mayUse f.rc = true → s.mayUse f.rt = true → f.ra ≠ 0#6 → f.rt ≠ 0#6 →
    s.physical f.ra ≠ s.physical f.rt →
    let half := fun upper u => mapLanes f.prec (depLane (rangeReg (s.gpr f.rc)) x f.nb upper) (s.gpr f.ra) (s.gpr f.rt) (s.gpr f.rb) u
    ∃ t, exec (if x then .depxor f else .dep f) s = .next t ∧ s.holds t f.ra (half true (s.free slotUpper)) false ∧
      s.holds t f.rt (half false (s.free slotResult)) false ∧
      (∀ i, i ≠ s.physical f.ra → i ≠ s.physical f.rt → t.gprPhys i = s.gprPhys i ∧ t.tagPhys i = s.tagPhys i) ∧
      s.sameButRegs t ∧ t.ip = s.nextIp 6) ∧
  (∀ (f : ShiftI) (s : State) (x : Bool), s.pfx = none → f.na = false → f.nt = false →
    s.mayUse f.ra = true → s.mayUse f.rb = true → s.mayUse f.rt = true → f.ra ≠ 0#6 → f.rt ≠ 0#6 →
    s.physical f.ra ≠ s.physical f.rt →
    let half := fun upper u => mapLanes f.prec (depLane (rangeImm f) x f.nb upper) (s.gpr f.ra) (s.gpr f.rt) (s.gpr f.rb) u
    ∃ t, exec (if x then .depxori f else .depi f) s = .next t ∧ s.holds t f.ra (half true (s.free slotUpper)) false ∧
      s.holds t f.rt (half false (s.free slotResult)) false ∧
      (∀ i, i ≠ s.physical f.ra → i ≠ s.physical f.rt → t.gprPhys i = s.gprPhys i ∧ t.tagPhys i = s.tagPhys i) ∧
      s.sameButRegs t ∧ t.ip = s.nextIp 6) ∧
  ∀ (w : Nat) (r : Range) (x nb : Bool) (a t b u u' : BitVec w) (i : Nat), r.valid w = true → i < w + w → i - r.mb < w →
    (depLane r x nb true w a t b u ++ depLane r x nb false w a t b u' : BitVec (w + w)).getLsbD i =
      if r.mb ≤ i ∧ i ≤ r.me then (com nb b).getLsbD (i - r.mb) ^^ (x && (a ++ t : BitVec (w + w)).getLsbD i)
      else (a ++ t : BitVec (w + w)).getLsbD i

/-- Float arithmetic: the result of the operation at the rounding mode of the field, in its box (spec/46_floating_point.md R555 to
R572). The operations themselves are functions of format, rounding mode and operands of which nothing more is known (log 26).
Truncation and the comparisons (R565, R570, R571, R573): truncation keeps the sign, gives the whole number next toward zero, and leaves
infinities and NaNs; the sign of a truncated zero is the model's choice (log 26). -/
def Obligations.FloatArithmeticAndComparisons : Prop :=
  (∀ (f : Flt3) (s : State) (rm : BitVec 3) (sub : Bool), roundingMode s.par.fcrRm f.rm = some rm →
    s.readable .a f.ra = true → s.readable .b f.rb = true → s.readable .c f.rc = true → s.writable f.rt = true →
    ∃ t, exec (if sub then .fms f else .fma f) s = .next t ∧
      s.wrote t f.rt (boxed f.fmt s.par.nanboxSign (s.free slotResult) (fopnd f.fmt f.nt
        ((Config.fpFma (ffmtWidth f.fmt) rm (fval f.fmt (fopnd f.fmt f.na (s.value .a f.ra)))
          (fval f.fmt (fopnd f.fmt f.nb (s.value .b f.rb))) (fval f.fmt (fopnd f.fmt sub (s.value .c f.rc)))).setWidth 64))) 6) ∧
  (∀ (f : FltAdd) (s : State) (rm : BitVec 3) (sub : Bool), roundingMode s.par.fcrRm f.rm = some rm →
    s.readable .a f.ra = true → s.readable .b f.rb = true → s.writable f.rt = true →
    ∃ t, exec (if sub then .fsub f else .fadd f) s = .next t ∧
      s.wrote t f.rt (boxed f.fmt s.par.nanboxSign (s.free slotResult) (fopnd f.fmt f.nt
        ((Config.fpAdd (ffmtWidth f.fmt) rm (fval f.fmt (fopnd f.fmt f.na (s.value .a f.ra)))
          (fval f.fmt (fopnd f.fmt sub (s.value .b f.rb)))).setWidth 64))) 6) ∧
  (∀ (f : Flt1) (s : State) (rm : BitVec 3), roundingMode s.par.fcrRm f.rm = some rm →
    s.readable .a f.ra = true → s.writable f.rt = true →
    ∃ t, exec (.fsqrt f) s = .next t ∧
      s.wrote t f.rt (boxed f.fmt s.par.nanboxSign (s.free slotResult) (fopnd f.fmt f.nt
        ((Config.fpSqrt (ffmtWidth f.fmt) rm (fval f.fmt (fopnd f.fmt f.na (s.value .a f.ra)))).setWidth 64 &&&
          ~~~(fSignMask f.fmt)))) 6) ∧
  (∀ (f : FltCos) (s : State) (rm : BitVec 3), roundingMode s.par.fcrRm f.rm = some rm → f.prc3 = fcosCode f.fmt →
    s.readable .a f.ra = true → s.writable f.rt = true →
    ∃ t, exec (.fcos f) s = .next t ∧
      s.wrote t f.rt (boxed f.fmt s.par.nanboxSign (s.free slotResult) (fopnd f.fmt f.nt
        ((Config.fpCos (ffmtWidth f.fmt) rm (fval f.fmt (fopnd f.fmt f.na (s.value .a f.ra)))).setWidth 64))) 6) ∧
  (∀ (f : FltAdd) (s : State), f.rm = 5#3 ∨ f.rm = 6#3 → exec (.fadd f) s = .refused .roundingMode) ∧
  (∀ (f : Flt1) (s : State), s.readable .a f.ra = true → s.writable f.rt = true →
    ∃ t, exec (.ftrunc f) s = .next t ∧
      s.wrote t f.rt (boxed f.fmt s.par.nanboxSign (s.free slotResult)
        (fopnd f.fmt f.nt (ftruncValue f.fmt (fopnd f.fmt f.na (s.value .a f.ra))))) 6) ∧
  (∀ (fmt : FFmt) (v : Word),
    (fInfMagnitude fmt ≤ fMagnitude fmt v → ftruncValue fmt v = v) ∧
    fSign fmt (ftruncValue fmt v) = fSign fmt v ∧
    (fMagnitude fmt v < fInfMagnitude fmt →
      fScaled fmt (ftruncValue fmt v) = (fScaled fmt v).tdiv (fUnit fmt) * fUnit fmt)) ∧
  ∀ (f : FltCmp) (s : State), s.readable .a f.ra = true → s.readable .b f.rb = true → s.writable f.rt = true →
    let a := fopnd f.fmt f.na (s.value .a f.ra)
    let b := fopnd f.fmt f.nb (s.value .b f.rb)
    let u := s.free slotResult
    (∃ t, exec (.fcmp f) s = .next t ∧ s.wrote t f.rt (neg f.nt (fcmpVector f.fmt a b u)) 6) ∧
    (∃ t, exec (.fslt f) s = .next t ∧ s.wrote t f.rt (neg f.nt ((bit1 (fLt f.fmt a b)).setWidth 64)) 6) ∧
    ∃ t, exec (.fsne f) s = .next t ∧
      s.wrote t f.rt (neg f.nt ((bit1 (if fUnordered f.fmt a b then u.getLsbD 0 else !fEq f.fmt a b)).setWidth 64)) 6

/-- FABS clears the sign bit of its operand and FNABS sets it; nothing is rounded, and the result is put in its box (spec/
46_floating_point.md R561, R562). -/
def Obligations.FloatAbsoluteValues : Prop :=
  ∀ (f : FltAbs) (s : State), s.readable .a f.ra = true → s.writable f.rt = true →
    (∃ t, exec (.fabs f) s = .next t ∧
      s.wrote t f.rt (boxed f.fmt s.par.nanboxSign (s.free slotResult)
        (fopnd f.fmt f.na (s.value .a f.ra) &&& ~~~(fSignMask f.fmt))) 6) ∧
    ∃ t, exec (.fnabs f) s = .next t ∧
      s.wrote t f.rt (boxed f.fmt s.par.nanboxSign (s.free slotResult)
        (fopnd f.fmt f.na (s.value .a f.ra) ||| fSignMask f.fmt)) 6

/-! ## Loads and stores -/

/-- The loads read their bytes, extend them and write the target (spec/47_load_store.md R632 to R644). -/
def Obligations.LoadInstructions : Prop :=
  loads .ldb 1 (fun _ v => sextLow 1 v) ∧ loads .ldbu 1 (fun _ v => zextLow 1 v) ∧
  loads .ldw 2 (fun _ v => sextLow 2 v) ∧ loads .ldwu 2 (fun _ v => zextLow 2 v) ∧
  loads .ldt 4 (fun _ v => sextLow 4 v) ∧ loads .ldtu 4 (fun _ v => zextLow 4 v) ∧ loads .ldo 8 (fun _ v => v) ∧
  loads .fldh 2 (fun s v => boxed .half s.par.nanboxSign (s.free slotResult) v) ∧
  loads .flds 4 (fun s v => boxed .single s.par.nanboxSign (s.free slotResult) v) ∧
  loads .fldd 8 (fun _ v => v) ∧
  ∀ (f : LS24) (s : State) (e : TlbEntry), s.readable .a (f.ra.setWidth 6) = true → s.writable (f.rt.setWidth 6) = true →
    s.canAccess .read (shortAddr (s.value .a (f.ra.setWidth 6)) f.disp) 8 e = true →
    ∃ t, exec (.ldo24 f) s = .next t ∧
      s.wrote t (f.rt.setWidth 6) (s.bytes (e.physAddr (shortAddr (s.value .a (f.ra.setWidth 6)) f.disp)) 8) 3

/-- The stores put the low bytes of a register, or of an immediate, into memory and change nothing else (spec/47_load_store.md R650
to R657). -/
def Obligations.StoreInstructions : Prop :=
  stores .stb 1 (fun s r => s.readable .t r) (fun s r => s.value .t r) ∧
  stores .stw 2 (fun s r => s.readable .t r) (fun s r => s.value .t r) ∧
  stores .stt 4 (fun s r => s.readable .t r) (fun s r => s.value .t r) ∧
  stores .sto 8 (fun s r => s.readable .t r) (fun s r => s.value .t r) ∧
  stores .fsth 2 (fun s r => s.readable .t r) (fun s r => s.value .t r) ∧
  stores .fsts 4 (fun s r => s.readable .t r) (fun s r => s.value .t r) ∧
  stores .fstd 8 (fun s r => s.readable .t r) (fun s r => s.value .t r) ∧
  stores .stib 1 (fun _ _ => true) (fun s r => (s.constant .t r).getD (r.signExtend 64)) ∧
  stores .stiw 2 (fun _ _ => true) (fun s r => (s.constant .t r).getD (r.signExtend 64)) ∧
  stores .stit 4 (fun _ _ => true) (fun s r => (s.constant .t r).getD (r.signExtend 64)) ∧
  stores .stio 8 (fun _ _ => true) (fun s r => (s.constant .t r).getD (r.signExtend 64)) ∧
  ∀ (f : LS24) (s : State) (e : TlbEntry), s.Inv → s.readable .a (f.ra.setWidth 6) = true →
    s.readable .t (f.rt.setWidth 6) = true →
    s.canAccess .write (shortAddr (s.value .a (f.ra.setWidth 6)) f.disp) 8 e = true →
    ∃ t, exec (.sto24 f) s = .next t ∧
      s.stored t (shortAddr (s.value .a (f.ra.setWidth 6)) f.disp)
        (e.physAddr (shortAddr (s.value .a (f.ra.setWidth 6)) f.disp)) 8 (s.value .t (f.rt.setWidth 6)) 3

/-- STPTR stores like STO and marks the card tables for the physical address, and nothing else (spec/47_load_store.md R660, spec/
21_memory_management.md R205). That the tables have the sizes of a system of 1 GB, whatever `RAM_MAP` is, is the model's choice (log
47). -/
def Obligations.PointerStoresMarkCards : Prop :=
  (∀ (f : LS) (s : State) (e : TlbEntry), s.Inv → s.readyAddr f = true → s.readable .t f.rt = true →
    s.canAccess .write (s.address f) 8 e = true →
    let pa := e.physAddr (s.address f)
    ∃ t, exec (.stptr f) s = .next t ∧
      s.stored { t with cards := s.cards } (s.address f) pa 8 (s.value .t f.rt) (dispBytes f.disp) ∧
      (∀ k, Sparse.get t.cards.hct k = if k = pa / 2 ^ 13 % 131072 then 1#1 else Sparse.get s.cards.hct k) ∧
      ∀ k, k < 64 → t.cards.mct.getLsbD k = (decide (k = pa / 2 ^ 24 % 64) || s.cards.mct.getLsbD k)) ∧
  ∀ (f : LS24) (s : State) (e : TlbEntry), s.Inv → s.readable .a (f.ra.setWidth 6) = true →
    s.readable .t (f.rt.setWidth 6) = true →
    s.canAccess .write (shortAddr (s.value .a (f.ra.setWidth 6)) f.disp) 8 e = true →
    let va := shortAddr (s.value .a (f.ra.setWidth 6)) f.disp
    let pa := e.physAddr va
    ∃ t, exec (.stptr24 f) s = .next t ∧
      s.stored { t with cards := s.cards } va pa 8 (s.value .t (f.rt.setWidth 6)) 3 ∧
      (∀ k, Sparse.get t.cards.hct k = if k = pa / 2 ^ 13 % 131072 then 1#1 else Sparse.get s.cards.hct k) ∧
      ∀ k, k < 64 → t.cards.mct.getLsbD k = (decide (k = pa / 2 ^ 24 % 64) || s.cards.mct.getLsbD k)

/-- CACHE (spec/47_load_store.md R634): its address is translated as a read and must be answered (spec/60_exceptions.md R930; log 32);
then, by the low three bits of the command, the instruction cache is emptied, or loses the line of the address, the TLB is emptied and
its global count moves on, or loses exactly the entries that translate the page of the address, or, for the data cache commands, nothing
happens. Nothing else changes. A translation that raises is taken, and an address that nothing answers raises Bus Error. -/
def Obligations.CacheCommands : Prop :=
  (∀ (f : LS) (s : State) (e : TlbEntry), s.readyAddr f = true → s.canName (s.address f) e = true →
    let next := s.nextIp (dispBytes f.disp)
    (f.rt.extractLsb' 0 3 = 0#3 → exec (.cache f) s = .next { s with stale := [], ip := next }) ∧
    (f.rt.extractLsb' 0 3 = 1#3 → exec (.cache f) s = .next { s with
      stale := s.stale.filter (fun x => decide (x.1 / 64 ≠ e.physAddr (s.address f) / 64)), ip := next }) ∧
    (f.rt.extractLsb' 0 3 = 2#3 → exec (.cache f) s = .next { s with tlb := [], tlbCount := s.tlbCount + 1#6, ip := next }) ∧
    (f.rt.extractLsb' 0 3 = 3#3 → exec (.cache f) s = .next { s with
      tlb := s.tlb.filter (fun x => !x.hits s.tlbCount s.csr.asid (vpnOf (s.address f))), ip := next }) ∧
    (4 ≤ (f.rt.extractLsb' 0 3).toNat → ∃ t, exec (.cache f) s = .next t ∧ s.wentTo t next)) ∧
  (∀ (f : LS) (s u : State) (e : Trap), s.readyAddr f = true →
    translate .read 0 (s.address f) (s.address f) s = .trap e u →
    ∃ t, exec (.cache f) s = .next t ∧ u.tookException t e.cause (e.eip.getD u.ip)) ∧
  ∀ (f : LS) (s : State) (e : TlbEntry), s.readyAddr f = true → s.canPass .read (s.address f) (s.address f) 0 e = true →
    s.port (s.address f) (e.physAddr (s.address f)) = .nothing →
    ∃ t, exec (.cache f) s = .next t ∧ s.tookException t 2#8 s.ip ∧ t.csr.badAddr = s.address f

/-! ## Branches, jumps and calls -/

/-- The integer branches: each goes where its condition says (spec/48_branch_flow.md R703 to R732). -/
def Obligations.IntegerBranches : Prop :=
  (branches .beq (fun _ a b _ => a == b) ∧ branches .bne (fun _ a b _ => a != b) ∧
   branches .bltu (fun _ a b _ => a.ult b) ∧ branches .bleu (fun _ a b _ => a.ule b) ∧
   branches .bgeu (fun _ a b _ => b.ule a) ∧ branches .bgtu (fun _ a b _ => b.ult a) ∧
   branches .blt (fun _ a b _ => a.slt b) ∧ branches .ble (fun _ a b _ => a.sle b) ∧
   branches .bge (fun _ a b _ => b.sle a) ∧ branches .bgt (fun _ a b _ => b.slt a) ∧
   branches .bbc (fun w a b u => if b.toNat < w then !a.getLsbD b.toNat else u) ∧
   branches .bbs (fun w a b u => if b.toNat < w then a.getLsbD b.toNat else u) ∧
   branches .bnandb (fun _ a b _ => (a &&& b) == 0) ∧ branches .bandb (fun _ a b _ => (a &&& b) != 0) ∧
   branches .bnorb (fun _ a b _ => (a ||| b) == 0) ∧ branches .borb (fun _ a b _ => (a ||| b) != 0) ∧
   branches .benor (fun _ a b _ => (a != 0) == (b != 0)) ∧ branches .beor (fun _ a b _ => (a != 0) != (b != 0)) ∧
   branches .bnand (fun _ a b _ => !(a != 0 && b != 0)) ∧ branches .band (fun _ a b _ => a != 0 && b != 0) ∧
   branches .bnor (fun _ a b _ => a == 0 && b == 0) ∧ branches .bor (fun _ a b _ => a != 0 || b != 0)) ∧
  branchesReg .beqReg (fun _ a b _ => a == b) ∧ branchesReg .bneReg (fun _ a b _ => a != b) ∧
  branchesReg .bltuReg (fun _ a b _ => a.ult b) ∧ branchesReg .bleuReg (fun _ a b _ => a.ule b) ∧
  branchesReg .bgeuReg (fun _ a b _ => b.ule a) ∧ branchesReg .bgtuReg (fun _ a b _ => b.ult a) ∧
  branchesReg .bltReg (fun _ a b _ => a.slt b) ∧ branchesReg .bleReg (fun _ a b _ => a.sle b) ∧
  branchesReg .bgeReg (fun _ a b _ => b.sle a) ∧ branchesReg .bgtReg (fun _ a b _ => b.slt a) ∧
  branchesReg .bbcReg (fun w a b u => if b.toNat < w then !a.getLsbD b.toNat else u) ∧
  branchesReg .bbsReg (fun w a b u => if b.toNat < w then a.getLsbD b.toNat else u) ∧
  branchesReg .bnandbReg (fun _ a b _ => (a &&& b) == 0) ∧ branchesReg .bandbReg (fun _ a b _ => (a &&& b) != 0) ∧
  branchesReg .bnorbReg (fun _ a b _ => (a ||| b) == 0) ∧ branchesReg .borbReg (fun _ a b _ => (a ||| b) != 0) ∧
  branchesReg .benorReg (fun _ a b _ => (a != 0) == (b != 0)) ∧
  branchesReg .beorReg (fun _ a b _ => (a != 0) != (b != 0)) ∧
  branchesReg .bnandReg (fun _ a b _ => !(a != 0 && b != 0)) ∧ branchesReg .bandReg (fun _ a b _ => a != 0 && b != 0) ∧
  branchesReg .bnorReg (fun _ a b _ => a == 0 && b == 0) ∧ branchesReg .borReg (fun _ a b _ => a != 0 || b != 0)

/-- The branches on a bit that the Rb field numbers (the field names no register), the float branches on a bit of the FCMP result,
and the counting branches, which compare Ra before they change it (spec/48_branch_flow.md R708, R714, R715, R733, R739, R741). The float
branches under either value of `FBCC_OPCODE`. -/
def Obligations.BitFloatAndCountingBranches : Prop :=
  (∀ (f : Br) (s : State), f.prc = 3#2 → s.readable .a f.ra = true →
    (∃ t, exec (.bbcImm f) s = .next t ∧ s.wentTo t (s.branchGoes (!(s.value .a f.ra).getLsbD f.rb.toNat)
      (branchTarget s.ip (srAb s.sr) f.tgt))) ∧
    ∃ t, exec (.bbsImm f) s = .next t ∧ s.wentTo t (s.branchGoes ((s.value .a f.ra).getLsbD f.rb.toNat)
      (branchTarget s.ip (srAb s.sr) f.tgt))) ∧
  (∀ (f : BrReg) (s : State), f.prc = 3#2 → s.readable .a f.ra = true → s.readable .c f.rc = true → f.tgt = 0#15 →
    (∃ t, exec (.bbcImmReg f) s = .next t ∧ s.wentTo t (s.branchGoes (!(s.value .a f.ra).getLsbD f.rb.toNat)
      (s.value .c f.rc))) ∧
    ∃ t, exec (.bbsImmReg f) s = .next t ∧ s.wentTo t (s.branchGoes ((s.value .a f.ra).getLsbD f.rb.toNat)
      (s.value .c f.rc))) ∧
  (∀ (f : FBr) (s : State), s.par.fbccOpcode = .root42 → f.prc = 3#2 → f.fn.toNat < 14 → s.readable .a f.ra = true →
    s.readable .b f.rb = true →
    ∃ t, exec (.fbcc f) s = .next t ∧ s.wentTo t (s.branchGoes
      ((fcmpVector .double (s.value .a f.ra) (s.value .b f.rb) (s.free slotResult)).getLsbD f.fn.toNat)
      (branchTarget s.ip (srAb s.sr) f.tgt))) ∧
  (∀ (f : FBrReg) (s : State), s.par.fbccOpcode = .root42 → f.prc = 3#2 → f.fn.toNat < 14 → s.readable .a f.ra = true →
    s.readable .b f.rb = true →
    s.readable .c f.rc = true → f.tgt = 0#15 →
    ∃ t, exec (.fbccReg f) s = .next t ∧ s.wentTo t (s.branchGoes
      ((fcmpVector .double (s.value .a f.ra) (s.value .b f.rb) (s.free slotResult)).getLsbD f.fn.toNat)
      (s.value .c f.rc))) ∧
  (∀ (f : FBr) (s : State), s.par.fbccOpcode = .root42 → 14 ≤ f.fn.toNat → raises (.fbcc f) s 4#8) ∧
  (∀ (f : FBr) (g : FBrReg) (s : State), s.par.fbccOpcode = .refuse →
    exec (.fbcc f) s = .refused .contestedOpcode ∧ exec (.fbccReg g) s = .refused .contestedOpcode) ∧
  (∀ (f : Br) (s : State) (up : Bool), f.prc = 3#2 → s.constant .a f.ra = none → s.mayUse f.ra = true →
    s.readable .b f.rb = true →
    ∃ t, exec (if up then .ibne f else .dbne f) s = .next t ∧
      s.holds t f.ra (if up then s.gpr f.ra + 1#64 else s.gpr f.ra - 1#64) false ∧ s.sameRegsBut t f.ra ∧ s.sameButRegs t ∧
      t.ip = s.branchGoes (s.gpr f.ra != s.value .b f.rb) (branchTarget s.ip (srAb s.sr) f.tgt)) ∧
  ∀ (f : BrReg) (s : State) (up : Bool), f.prc = 3#2 → s.constant .a f.ra = none → s.mayUse f.ra = true →
    s.readable .b f.rb = true → s.readable .c f.rc = true → f.tgt = 0#15 →
    ∃ t, exec (if up then .ibneReg f else .dbneReg f) s = .next t ∧
      s.holds t f.ra (if up then s.gpr f.ra + 1#64 else s.gpr f.ra - 1#64) false ∧ s.sameRegsBut t f.ra ∧ s.sameButRegs t ∧
      t.ip = s.branchGoes (s.gpr f.ra != s.value .b f.rb) (s.value .c f.rc)

/-- Unconditional branches, jumps and calls, and RET: where each goes, what it links, and that nothing else changes (spec/
48_branch_flow.md R740 to R747, R760). -/
def Obligations.JumpsCallsAndReturns : Prop :=
  (∀ (c : BitVec 37) (s : State),
    (∃ t, exec (.bra c) s = .next t ∧ s.wentTo t (s.ip + c.signExtend 64)) ∧
    ∃ t, exec (.jmpDirect c) s = .next t ∧ s.wentTo t (c.setWidth 64)) ∧
  (∀ (f : Bsr) (s : State), f.lk ≠ 0#2 →
    (∃ t, exec (.bsr f) s = .next t ∧ s.holds t (40#6 + f.lk.setWidth 6) (s.nextIp 6) false ∧
      s.sameRegsBut t (40#6 + f.lk.setWidth 6) ∧ s.sameButRegs t ∧ t.ip = s.ip + f.const.signExtend 64) ∧
    ∃ t, exec (.jsrDirect f) s = .next t ∧ s.holds t (40#6 + f.lk.setWidth 6) (s.nextIp 6) false ∧
      s.sameRegsBut t (40#6 + f.lk.setWidth 6) ∧ s.sameButRegs t ∧ t.ip = f.const.setWidth 64) ∧
  (∀ (f : Bsr) (s : State), f.lk = 0#2 →
    (∃ t, exec (.bsr f) s = .next t ∧ s.wentTo t (s.ip + f.const.signExtend 64)) ∧
    ∃ t, exec (.jsrDirect f) s = .next t ∧ s.wentTo t (f.const.setWidth 64)) ∧
  (∀ (f : JmpS) (s : State), s.readable .a f.ra = true → s.readable .b f.rb = true →
    ∃ t, exec (.jmpScaled f) s = .next t ∧
      s.wentTo t (s.value .a f.ra + s.value .b f.rb <<< f.sc.toNat + dispSext f.disp)) ∧
  (∀ (f : LS) (s : State), s.readyAddr f = true → s.writable f.rt = true →
    ∃ t, exec (.jsrScaled f) s = .next t ∧ s.holds t f.rt (s.nextIp (dispBytes f.disp)) false ∧ s.sameRegsBut t f.rt ∧
      s.sameButRegs t ∧ t.ip = s.value .a f.ra + s.value .b f.rb <<< f.sc.toNat + dispSext f.disp) ∧
  (∀ (f : RetF) (s : State), f.ra ≠ 0#6 → f.na = false → s.readable .a f.ra = true →
    ∃ t, exec (.ret (.long f)) s = .next t ∧ s.holds t 31#6 (s.gpr 31#6 + immSext f.imm) false ∧ s.sameRegsBut t 31#6 ∧
      s.sameButRegs t ∧ t.ip = s.value .a f.ra + 3#64 * f.offs.setWidth 64) ∧
  (∀ (f : Ret24) (s : State), f.ra ≠ 0#5 → s.readable .a (f.ra.setWidth 6) = true →
    ∃ t, exec (.ret (.short f)) s = .next t ∧ s.holds t 31#6 (s.gpr 31#6 + f.imm.signExtend 64) false ∧
      s.sameRegsBut t 31#6 ∧ s.sameButRegs t ∧ t.ip = s.value .a (f.ra.setWidth 6) + 3#64 * f.offs.setWidth 64) ∧
  ∀ (f : RetF) (s : State), f.ra = 0#6 → raises (.ret (.long f)) s 4#8

/-- Jumps through a table: the entry at the index, or at the limit where the index is negative or not below it, replaces the low
bits of the instruction pointer or is added to it (spec/48_branch_flow.md R749 to R751). -/
def Obligations.TableJumps : Prop :=
  (∀ (f : JmpI) (s : State) (e : TlbEntry), s.readable .a f.ra = true → s.readable .b f.rb = true → f.ar.toNat < 2 →
    f.sc.toNat < 4 →
    let n := 2 ^ f.sc.toNat
    let va := s.value .a f.ra + tableIndex (dispZext f.limit) (s.value .b f.rb) <<< f.sc.toNat
    s.canAccess .read va n e = true →
    ∃ t, exec (.jmpIndirect f) s = .next t ∧
      (f.ar = 0#2 → s.wentTo t (s.ip >>> (8 * n) <<< (8 * n) ||| zextLow n (s.bytes (e.physAddr va) n))) ∧
      (f.ar = 1#2 → s.wentTo t (s.ip + sextLow n (s.bytes (e.physAddr va) n)))) ∧
  (∀ (f : JsrI) (s : State) (e : TlbEntry), s.readable .a f.ra = true → s.readable .b f.rb = true →
    s.writable f.rt = true → f.ar.toNat < 2 → f.sc.toNat < 4 →
    let n := 2 ^ f.sc.toNat
    let va := s.value .a f.ra + tableIndex (dispZext f.limit) (s.value .b f.rb) <<< f.sc.toNat
    s.canAccess .read va n e = true →
    ∃ t, exec (.jsrIndirect f) s = .next t ∧ s.holds t f.rt (s.nextIp (dispBytes f.limit)) false ∧ s.sameRegsBut t f.rt ∧
      s.sameButRegs t ∧
      (f.ar = 0#2 → t.ip = s.ip >>> (8 * n) <<< (8 * n) ||| zextLow n (s.bytes (e.physAddr va) n)) ∧
      (f.ar = 1#2 → t.ip = s.ip + sextLow n (s.bytes (e.physAddr va) n))) ∧
  (∀ (limit b : Word), b.toInt < 0 ∨ limit.toNat ≤ b.toNat → tableIndex limit b = limit) ∧
  (∀ (limit b : Word), 0 ≤ b.toInt → b.toNat < limit.toNat → tableIndex limit b = b) ∧
  ∀ (f : JmpI) (s : State), (f.ar = 0#2 → f.sc = 4#3 → exec (.jmpIndirect f) s = .refused .indirectSc4) ∧
    (2 ≤ f.ar.toNat ∨ 4 < f.sc.toNat → raises (.jmpIndirect f) s 4#8)

/-! ## Capabilities -/

/-- The capability instructions on registers: CClearTag as the spec gives it; the others under `CAP_MODEL = external`, the model's
choice at reset, with the notions of a sealed, sentry or derivable capability left open (log 20, log 22; spec/
49_capability_system_modifiers.md R810 to R814). A built capability has every field of Cb but the object type, and is sealed as a
sentry where Cb is one; the overflow bit of CCmp stands in a place left open. -/
def Obligations.CapabilityRegisters : Prop :=
  (∀ (f : Cap2) (s : State), s.readable .a f.ca = true → s.writable f.ct = true →
    ∃ t, exec (.cClearTag f) s = .next t ∧ s.wrote t f.ct (s.value .a f.ca) 6) ∧
  (∀ (f : CapR) (s : State), s.par.capModel = .external → s.pfx = none → f.na = false → f.nb = false → f.nt = false →
    s.mayUse f.ca = true → s.mayUse f.rb = true → s.mayUse f.ct = true →
    ∃ t, exec (.cAndPerm f) s = .next t ∧
      s.holds t f.ct ((capPerms (s.gpr f.ca) &&& (s.gpr f.rb).setWidth 12) ++ (s.gpr f.ca).extractLsb' 0 52)
        (!capSealed (s.gpr f.ca) && s.gprTag f.ca) ∧
      s.sameRegsBut t f.ct ∧ s.sameButRegs t ∧ t.ip = s.nextIp 6) ∧
  (∀ (f : CapI) (s : State), s.par.capModel = .external → s.pfx = none → f.na = false → f.nt = false →
    s.mayUse f.ca = true → s.mayUse f.ct = true →
    ∃ t, exec (.cAndPermi f) s = .next t ∧
      s.holds t f.ct ((capPerms (s.gpr f.ca) &&& f.imm.setWidth 12) ++ (s.gpr f.ca).extractLsb' 0 52)
        (!capSealed (s.gpr f.ca) && s.gprTag f.ca) ∧
      s.sameRegsBut t f.ct ∧ s.sameButRegs t ∧ t.ip = s.nextIp 6) ∧
  (∀ (f : Cap3) (s : State), s.par.capModel = .external → s.pfx = none → s.mayUse f.ca = true → s.mayUse f.cb = true →
    s.mayUse f.ct = true →
    let ca : Reg := ⟨s.gpr f.ca, s.gprTag f.ca⟩
    (∃ t, exec (.cBuildCap f) s = .next t ∧
      s.holds t f.ct (if buildOk ca (s.gpr f.cb) then builtCap (s.gpr f.ca) (s.gpr f.cb) else s.gpr f.cb)
        (buildOk ca (s.gpr f.cb)) ∧
      s.sameRegsBut t f.ct ∧ s.sameButRegs t ∧ t.ip = s.nextIp 6) ∧
    ∃ t, exec (.cCmp f) s = .next t ∧ s.wrote t f.ct (ccmpResult ca ⟨s.gpr f.cb, s.gprTag f.cb⟩ (s.free slotResult)) 6) ∧
  (∀ (a b : Reg) (u : Word), (ccmpResult a b u).getLsbD 0 = decide (a.val = b.val ∧ a.tag = b.tag) ∧
    (ccmpResult a b u).getLsbD 3 = (capSubset a.val b.val && a.tag == b.tag) ∧
    (ccmpResult a b u).getLsbD Config.ccmpOverflowBit = capSealed a.val) ∧
  (∀ ca cb : Word, (builtCap ca cb).extractLsb' 0 47 = cb.extractLsb' 0 47 ∧
    (builtCap ca cb).extractLsb' 51 13 = cb.extractLsb' 51 13 ∧
    if capSentry cb then capSentry (builtCap ca cb) = true ∧ capSealed (builtCap ca cb) = true
    else (builtCap ca cb).extractLsb' 47 4 = ca.extractLsb' 47 4) ∧
  ∀ (f : CapR) (g : Cap3) (s : State), s.par.capModel = .refuse →
    exec (.cAndPerm f) s = .refused .capability ∧ exec (.cBuildCap g) s = .refused .capability ∧
    exec (.cCmp g) s = .refused .capability

/-- The capability load and store under `CAP_MODEL = external` (log 22; spec/49_capability_system_modifiers.md R804, R806): with a
tagged, unsealed capability that permits it and covers the octa they move the octa with its tag; otherwise, and always without the
tag, they raise the capability exception. -/
def Obligations.CapabilityMemory : Prop :=
  (∀ (f : LS) (s : State) (e : TlbEntry), s.par.capModel = .external → s.pfx = none → s.mayUse f.ra = true →
    s.mayUse f.rb = true → s.mayUse f.rt = true →
    let c := s.gpr f.ra
    let ea := BitVec.ofNat 64 (capAddr c) + s.gpr f.rb <<< f.sc.toNat + dispSext f.disp
    (s.canAccess .read ea 8 e = true →
      ∃ t, exec (.ldcapd f) s = .next t ∧
        if (s.gprTag f.ra && !capSealed c && (capPerms c).getLsbD 2 && capCovers c ea 8) = true then
          s.holds t f.rt (s.bytes (e.physAddr ea) 8) ((capPerms c).getLsbD 4 && s.memTag (e.physAddr ea)) ∧
          s.sameRegsBut t f.rt ∧ s.sameButRegs t ∧ t.ip = s.nextIp (dispBytes f.disp)
        else s.tookException t Config.capCause s.ip) ∧
    (s.gprTag f.ra = false → raises (.ldcapd f) s Config.capCause)) ∧
  ∀ (f : LS) (s : State) (e : TlbEntry), s.Inv → s.par.capModel = .external → s.pfx = none → s.mayUse f.ra = true →
    s.mayUse f.rb = true → s.mayUse f.rt = true →
    let c := s.gpr f.ra
    let ea := BitVec.ofNat 64 (capAddr c) + s.gpr f.rb <<< f.sc.toNat + dispSext f.disp
    (s.canAccess .write ea 8 e = true →
      ∃ t, exec (.stcapd f) s = .next t ∧
        if capStoreOk ⟨c, s.gprTag f.ra⟩ ⟨s.gpr f.rt, s.gprTag f.rt⟩ ea = true then
          (∀ k, k < 8 → t.mem.byte (e.physAddr ea + k) = (s.gpr f.rt).extractLsb' (8 * k) 8) ∧
          (∀ a, (a < e.physAddr ea ∨ e.physAddr ea + 8 ≤ a) → t.mem.byte a = s.mem.byte a) ∧
          (∀ g, Sparse.get t.tags g = if g = e.physAddr ea / 8 then bit1 (s.gprTag f.rt) else Sparse.get s.tags g) ∧
          t.regs = s.regs ∧ t.csr = s.csr ∧ t.exc = s.exc ∧ t.sr = s.sr ∧ t.cards = s.cards ∧
          t.ip = s.nextIp (dispBytes f.disp)
        else s.tookException t Config.capCause s.ip) ∧
    (s.gprTag f.ra = false → raises (.stcapd f) s Config.capCause)

/-! ## Stops -/

/-- The instructions of the list `mapOnlyInstrs` are refused: those that the spec names in an opcode map and gives no meaning (spec/
49_capability_system_modifiers.md R860 to R878, R815; spec/46_floating_point.md R586; spec/47_load_store.md R645, R658, R661), and FCONST,
whose format is not given (spec/46_floating_point.md R566). The list leaves out the register set family of R862, which runs under
`SET_BY_ANALOGY = pattern`, the model's choice at reset (log 20, log 31; ConditionalMovesAndSets), and STCTX (R871;
OtherRefusedInstructions). -/
def Obligations.MapOnlyInstructionsAreRefused : Prop := ∀ i ∈ mapOnlyInstrs, ∀ s : State, exec i s = .refused .mapOnly

/-- A sample of the forms that the spec refuses of instructions that otherwise run: sign control where the spec names no class
(spec/93_implementation_defined.md U9), drawn fields without a stated use (U10), and fields that the sections of the instructions refuse by
name. That a sign bit or a drawn field that the word alone shows is refused before a forbidden register raises is the model's reading
(log 40). -/
def Obligations.RefusedForms : Prop :=
  (∀ f s, f.nt = true → exec (.sxImm f) s = .refused .signControl ∧ exec (.zx f) s = .refused .signControl) ∧
  (∀ f s, f.nt = true → exec (.cpuid f) s = .refused .signControl) ∧
  (∀ f s, f.nc = true → exec (.sllp f) s = .refused .signControl) ∧
  (∀ f s, f.nc = true → exec (.srlp f) s = .refused .signControl ∧ exec (.dep f) s = .refused .signControl) ∧
  (∀ f s, s.ready3 f = true → f.op4 = 8#4 → f.nt = true →
    allLanes .eq f (s.value .a f.ra) (s.value .b f.rb) = false → exec (.cmoveq f) s = .refused .signControl) ∧
  (∀ f s, (f.regno.extractLsb' 12 2).toNat ≤ s.mode.toNat → f.na = true ∨ f.nt = true →
    exec (.csrrd f) s = .refused .signControl) ∧
  (∀ f s, f.op4 ≠ 0#4 → exec (.cntlz f) s = .refused .drawnField ∧ exec (.sqrt f) s = .refused .drawnField) ∧
  (∀ f s, f.op3 ≠ 0#3 → exec (.bmm f) s = .refused .drawnField) ∧
  (∀ f s, f.bi = true → exec (.bytendx f) s = .refused .ndxImmediate) ∧
  (∀ f s, f.op4.toNat < 6 → f.op4 ≠ 0#4 ∨ f.prec ≠ .octa → exec (.bmap f) s = .refused .bmapForm) ∧
  (∀ f s, s.pfx = none → f.nc = false → f.na = false → f.nt = false → f.ra = f.rt → exec (.dep f) s = .refused .depSameRegister) ∧
  (∀ f s, f.prc3 ≠ fcosCode f.fmt → exec (.fcos f) s = .refused .fcosPrecision) ∧
  (∀ f s, s.precisionOk f.prc = false → exec (.beq f) s = .refused .branchPrecision) ∧
  ∀ f s, s.pfx = none → s.precisionOk f.prc = true → s.mayUse f.ra = true → s.mayUse f.rb = true → f.tgt ≠ 0#15 →
    exec (.beqReg f) s = .refused .branchTarget

/-- The other instructions that the spec refuses whole: the 128-bit groups, branch condition 15, the decimal, posit and capability
branches, the capability jumps, QEXT, PRED, a postfix reached as an instruction; the 24-bit word that ADD and AND both claim, under
`OP16_SHORT = refuse`; and STCTX, named in an opcode map and nowhere else, but for its 24-bit word, which is reserved and raises
Unimplemented Instruction (spec/47_load_store.md R655). -/
def Obligations.OtherRefusedInstructions : Prop :=
  ∀ s : State,
    exec .ldcapq s = .refused .wide128 ∧ exec .stcapq s = .refused .wide128 ∧ exec .r3x128 s = .refused .wide128 ∧
    exec .flt128 s = .refused .wide128 ∧ exec .irq40 s = .refused .branchCondition15 ∧
    exec .irq48 s = .refused .branchCondition15 ∧ exec .irq41 s = .refused .branchCondition15 ∧
    exec .irq49 s = .refused .branchCondition15 ∧ exec .dfbcc s = .refused .decimalPositBranch ∧
    exec .dfbccReg s = .refused .decimalPositBranch ∧ exec .pbcc s = .refused .decimalPositBranch ∧
    exec .pbccReg s = .refused .decimalPositBranch ∧ exec .cbcc s = .refused .capabilityBranch ∧
    exec .cbccReg s = .refused .capabilityBranch ∧ exec .cjmp34 s = .refused .capabilityJump ∧
    exec .cjmp37 s = .refused .capabilityJump ∧ exec .cjmp39 s = .refused .capabilityJump ∧
    exec .qext s = .refused .qext ∧ exec .pred s = .refused .pred ∧ exec .pfx s = .refused .pfx ∧
    (s.par.op16 = .refuse → exec .add24 s = .refused .contestedOpcode) ∧
    (fld s.ir 0 2 ≠ 0#2 → exec .stctx s = .refused .mapOnly) ∧
    (fld s.ir 0 2 = 0#2 → raises .stctx s 4#8)

/-! ## Words written out -/

/-- Words written out from the spec's encodings (spec/95_test_vectors.md), lowest byte in the lowest bits, decode to the instruction
they stand for. -/
def Obligations.WrittenOutWordsDecode : Prop :=
  decodeTableWord 24 0x000000 = some .brk ∧ decodeTableWord 24 0xFFFFFC = some .nop ∧
  decodeTableWord 24 0x280210 = some (.addi (.short ⟨5#5, 0#5, 1#5⟩)) ∧
  decodeTableWord 48 0x0860010107AD =
    some (.add ⟨.octa, 3#4, false, 0#6, false, 2#6, false, 1#6, false, 3#6⟩) ∧
  decodeTableWord 24 0x47020C = some (.sxImm ⟨7#6, false, 1#6⟩) ∧
  decodeTableWord 48 0xFFFF00010301 = some (.ldb ⟨.d16 0xFFFF#16, 0#3, 0#6, 2#6, 1#6⟩) ∧
  decodeTableWord 24 0xF88320 = some (.sto24 ⟨31#5, 2#5, 1#5⟩) ∧
  decodeTableWord 48 0x98E20002134D =
    some (.srlpi ⟨.octa, 71#7, 8#7, false, 0#6, false, 2#6, false, 9#6⟩)
end

