-- ==== Sys2Proof/Laws/State.lean ====
section
/-! SUPPORT. What each named update of the state leaves in each field, and what reading a register after writing one gives. -/

namespace Sys2Proof.Machine

/-! ## Writing a register -/

@[simp] theorem State.setPhys_ip (s : State) (i : BitVec 6) (v : Word) (b : Bool) :
    (s.setPhys i v b).ip = s.ip := by unfold State.setPhys; split <;> rfl
@[simp] theorem State.setPhys_sr (s : State) (i : BitVec 6) (v : Word) (b : Bool) :
    (s.setPhys i v b).sr = s.sr := by unfold State.setPhys; split <;> rfl
@[simp] theorem State.setPhys_csr (s : State) (i : BitVec 6) (v : Word) (b : Bool) :
    (s.setPhys i v b).csr = s.csr := by unfold State.setPhys; split <;> rfl
@[simp] theorem State.setPhys_exc (s : State) (i : BitVec 6) (v : Word) (b : Bool) :
    (s.setPhys i v b).exc = s.exc := by unfold State.setPhys; split <;> rfl
@[simp] theorem State.setPhys_atom (s : State) (i : BitVec 6) (v : Word) (b : Bool) :
    (s.setPhys i v b).atom = s.atom := by unfold State.setPhys; split <;> rfl
@[simp] theorem State.setPhys_mem (s : State) (i : BitVec 6) (v : Word) (b : Bool) :
    (s.setPhys i v b).mem = s.mem := by unfold State.setPhys; split <;> rfl
@[simp] theorem State.setPhys_tags (s : State) (i : BitVec 6) (v : Word) (b : Bool) :
    (s.setPhys i v b).tags = s.tags := by unfold State.setPhys; split <;> rfl
@[simp] theorem State.setPhys_stale (s : State) (i : BitVec 6) (v : Word) (b : Bool) :
    (s.setPhys i v b).stale = s.stale := by unfold State.setPhys; split <;> rfl
@[simp] theorem State.setPhys_cards (s : State) (i : BitVec 6) (v : Word) (b : Bool) :
    (s.setPhys i v b).cards = s.cards := by unfold State.setPhys; split <;> rfl
@[simp] theorem State.setPhys_errs (s : State) (i : BitVec 6) (v : Word) (b : Bool) :
    (s.setPhys i v b).errs = s.errs := by unfold State.setPhys; split <;> rfl
@[simp] theorem State.setPhys_dirty (s : State) (i : BitVec 6) (v : Word) (b : Bool) :
    (s.setPhys i v b).dirty = s.dirty := by unfold State.setPhys; split <;> rfl
@[simp] theorem State.setPhys_tlb (s : State) (i : BitVec 6) (v : Word) (b : Bool) :
    (s.setPhys i v b).tlb = s.tlb := by unfold State.setPhys; split <;> rfl
@[simp] theorem State.setPhys_tlbCount (s : State) (i : BitVec 6) (v : Word) (b : Bool) :
    (s.setPhys i v b).tlbCount = s.tlbCount := by unfold State.setPhys; split <;> rfl
@[simp] theorem State.setPhys_ptw (s : State) (i : BitVec 6) (v : Word) (b : Bool) :
    (s.setPhys i v b).ptw = s.ptw := by unfold State.setPhys; split <;> rfl
@[simp] theorem State.setPhys_rgn (s : State) (i : BitVec 6) (v : Word) (b : Bool) :
    (s.setPhys i v b).rgn = s.rgn := by unfold State.setPhys; split <;> rfl
@[simp] theorem State.setPhys_qic (s : State) (i : BitVec 6) (v : Word) (b : Bool) :
    (s.setPhys i v b).qic = s.qic := by unfold State.setPhys; split <;> rfl
@[simp] theorem State.setPhys_qit1 (s : State) (i : BitVec 6) (v : Word) (b : Bool) :
    (s.setPhys i v b).qit1 = s.qit1 := by unfold State.setPhys; split <;> rfl
@[simp] theorem State.setPhys_qit2 (s : State) (i : BitVec 6) (v : Word) (b : Bool) :
    (s.setPhys i v b).qit2 = s.qit2 := by unfold State.setPhys; split <;> rfl
@[simp] theorem State.setPhys_cfg (s : State) (i : BitVec 6) (v : Word) (b : Bool) :
    (s.setPhys i v b).cfg = s.cfg := by unfold State.setPhys; split <;> rfl
@[simp] theorem State.setPhys_agenda (s : State) (i : BitVec 6) (v : Word) (b : Bool) :
    (s.setPhys i v b).agenda = s.agenda := by unfold State.setPhys; split <;> rfl
@[simp] theorem State.setPhys_par (s : State) (i : BitVec 6) (v : Word) (b : Bool) :
    (s.setPhys i v b).par = s.par := by unfold State.setPhys; split <;> rfl
@[simp] theorem State.setPhys_ir (s : State) (i : BitVec 6) (v : Word) (b : Bool) :
    (s.setPhys i v b).ir = s.ir := by unfold State.setPhys; split <;> rfl
@[simp] theorem State.setPhys_pfx (s : State) (i : BitVec 6) (v : Word) (b : Bool) :
    (s.setPhys i v b).pfx = s.pfx := by unfold State.setPhys; split <;> rfl
@[simp] theorem State.setPhys_draws (s : State) (i : BitVec 6) (v : Word) (b : Bool) :
    (s.setPhys i v b).draws = s.draws := by unfold State.setPhys; split <;> rfl

@[simp] theorem State.setGpr_ip (s : State) (r : BitVec 6) (v : Word) :
    (s.setGpr r v).ip = s.ip := by simp [State.setGpr]
@[simp] theorem State.setGpr_sr (s : State) (r : BitVec 6) (v : Word) :
    (s.setGpr r v).sr = s.sr := by simp [State.setGpr]
@[simp] theorem State.setGpr_csr (s : State) (r : BitVec 6) (v : Word) :
    (s.setGpr r v).csr = s.csr := by simp [State.setGpr]
@[simp] theorem State.setGpr_exc (s : State) (r : BitVec 6) (v : Word) :
    (s.setGpr r v).exc = s.exc := by simp [State.setGpr]
@[simp] theorem State.setGpr_atom (s : State) (r : BitVec 6) (v : Word) :
    (s.setGpr r v).atom = s.atom := by simp [State.setGpr]
@[simp] theorem State.setGpr_mem (s : State) (r : BitVec 6) (v : Word) :
    (s.setGpr r v).mem = s.mem := by simp [State.setGpr]
@[simp] theorem State.setGpr_tags (s : State) (r : BitVec 6) (v : Word) :
    (s.setGpr r v).tags = s.tags := by simp [State.setGpr]
@[simp] theorem State.setGpr_stale (s : State) (r : BitVec 6) (v : Word) :
    (s.setGpr r v).stale = s.stale := by simp [State.setGpr]
@[simp] theorem State.setGpr_cards (s : State) (r : BitVec 6) (v : Word) :
    (s.setGpr r v).cards = s.cards := by simp [State.setGpr]
@[simp] theorem State.setGpr_errs (s : State) (r : BitVec 6) (v : Word) :
    (s.setGpr r v).errs = s.errs := by simp [State.setGpr]
@[simp] theorem State.setGpr_dirty (s : State) (r : BitVec 6) (v : Word) :
    (s.setGpr r v).dirty = s.dirty := by simp [State.setGpr]
@[simp] theorem State.setGpr_tlb (s : State) (r : BitVec 6) (v : Word) :
    (s.setGpr r v).tlb = s.tlb := by simp [State.setGpr]
@[simp] theorem State.setGpr_tlbCount (s : State) (r : BitVec 6) (v : Word) :
    (s.setGpr r v).tlbCount = s.tlbCount := by simp [State.setGpr]
@[simp] theorem State.setGpr_ptw (s : State) (r : BitVec 6) (v : Word) :
    (s.setGpr r v).ptw = s.ptw := by simp [State.setGpr]
@[simp] theorem State.setGpr_rgn (s : State) (r : BitVec 6) (v : Word) :
    (s.setGpr r v).rgn = s.rgn := by simp [State.setGpr]
@[simp] theorem State.setGpr_qic (s : State) (r : BitVec 6) (v : Word) :
    (s.setGpr r v).qic = s.qic := by simp [State.setGpr]
@[simp] theorem State.setGpr_qit1 (s : State) (r : BitVec 6) (v : Word) :
    (s.setGpr r v).qit1 = s.qit1 := by simp [State.setGpr]
@[simp] theorem State.setGpr_qit2 (s : State) (r : BitVec 6) (v : Word) :
    (s.setGpr r v).qit2 = s.qit2 := by simp [State.setGpr]
@[simp] theorem State.setGpr_cfg (s : State) (r : BitVec 6) (v : Word) :
    (s.setGpr r v).cfg = s.cfg := by simp [State.setGpr]
@[simp] theorem State.setGpr_agenda (s : State) (r : BitVec 6) (v : Word) :
    (s.setGpr r v).agenda = s.agenda := by simp [State.setGpr]
@[simp] theorem State.setGpr_par (s : State) (r : BitVec 6) (v : Word) :
    (s.setGpr r v).par = s.par := by simp [State.setGpr]
@[simp] theorem State.setGpr_ir (s : State) (r : BitVec 6) (v : Word) :
    (s.setGpr r v).ir = s.ir := by simp [State.setGpr]
@[simp] theorem State.setGpr_pfx (s : State) (r : BitVec 6) (v : Word) :
    (s.setGpr r v).pfx = s.pfx := by simp [State.setGpr]
@[simp] theorem State.setGpr_draws (s : State) (r : BitVec 6) (v : Word) :
    (s.setGpr r v).draws = s.draws := by simp [State.setGpr]

@[simp] theorem State.setCap_ip (s : State) (r : BitVec 6) (v : Word) (b : Bool) :
    (s.setCap r v b).ip = s.ip := by simp [State.setCap]
@[simp] theorem State.setCap_sr (s : State) (r : BitVec 6) (v : Word) (b : Bool) :
    (s.setCap r v b).sr = s.sr := by simp [State.setCap]
@[simp] theorem State.setCap_csr (s : State) (r : BitVec 6) (v : Word) (b : Bool) :
    (s.setCap r v b).csr = s.csr := by simp [State.setCap]
@[simp] theorem State.setCap_exc (s : State) (r : BitVec 6) (v : Word) (b : Bool) :
    (s.setCap r v b).exc = s.exc := by simp [State.setCap]
@[simp] theorem State.setCap_atom (s : State) (r : BitVec 6) (v : Word) (b : Bool) :
    (s.setCap r v b).atom = s.atom := by simp [State.setCap]
@[simp] theorem State.setCap_mem (s : State) (r : BitVec 6) (v : Word) (b : Bool) :
    (s.setCap r v b).mem = s.mem := by simp [State.setCap]
@[simp] theorem State.setCap_tags (s : State) (r : BitVec 6) (v : Word) (b : Bool) :
    (s.setCap r v b).tags = s.tags := by simp [State.setCap]
@[simp] theorem State.setCap_stale (s : State) (r : BitVec 6) (v : Word) (b : Bool) :
    (s.setCap r v b).stale = s.stale := by simp [State.setCap]
@[simp] theorem State.setCap_cards (s : State) (r : BitVec 6) (v : Word) (b : Bool) :
    (s.setCap r v b).cards = s.cards := by simp [State.setCap]
@[simp] theorem State.setCap_errs (s : State) (r : BitVec 6) (v : Word) (b : Bool) :
    (s.setCap r v b).errs = s.errs := by simp [State.setCap]
@[simp] theorem State.setCap_dirty (s : State) (r : BitVec 6) (v : Word) (b : Bool) :
    (s.setCap r v b).dirty = s.dirty := by simp [State.setCap]
@[simp] theorem State.setCap_tlb (s : State) (r : BitVec 6) (v : Word) (b : Bool) :
    (s.setCap r v b).tlb = s.tlb := by simp [State.setCap]
@[simp] theorem State.setCap_tlbCount (s : State) (r : BitVec 6) (v : Word) (b : Bool) :
    (s.setCap r v b).tlbCount = s.tlbCount := by simp [State.setCap]
@[simp] theorem State.setCap_ptw (s : State) (r : BitVec 6) (v : Word) (b : Bool) :
    (s.setCap r v b).ptw = s.ptw := by simp [State.setCap]
@[simp] theorem State.setCap_rgn (s : State) (r : BitVec 6) (v : Word) (b : Bool) :
    (s.setCap r v b).rgn = s.rgn := by simp [State.setCap]
@[simp] theorem State.setCap_qic (s : State) (r : BitVec 6) (v : Word) (b : Bool) :
    (s.setCap r v b).qic = s.qic := by simp [State.setCap]
@[simp] theorem State.setCap_qit1 (s : State) (r : BitVec 6) (v : Word) (b : Bool) :
    (s.setCap r v b).qit1 = s.qit1 := by simp [State.setCap]
@[simp] theorem State.setCap_qit2 (s : State) (r : BitVec 6) (v : Word) (b : Bool) :
    (s.setCap r v b).qit2 = s.qit2 := by simp [State.setCap]
@[simp] theorem State.setCap_cfg (s : State) (r : BitVec 6) (v : Word) (b : Bool) :
    (s.setCap r v b).cfg = s.cfg := by simp [State.setCap]
@[simp] theorem State.setCap_agenda (s : State) (r : BitVec 6) (v : Word) (b : Bool) :
    (s.setCap r v b).agenda = s.agenda := by simp [State.setCap]
@[simp] theorem State.setCap_par (s : State) (r : BitVec 6) (v : Word) (b : Bool) :
    (s.setCap r v b).par = s.par := by simp [State.setCap]
@[simp] theorem State.setCap_ir (s : State) (r : BitVec 6) (v : Word) (b : Bool) :
    (s.setCap r v b).ir = s.ir := by simp [State.setCap]
@[simp] theorem State.setCap_pfx (s : State) (r : BitVec 6) (v : Word) (b : Bool) :
    (s.setCap r v b).pfx = s.pfx := by simp [State.setCap]
@[simp] theorem State.setCap_draws (s : State) (r : BitVec 6) (v : Word) (b : Bool) :
    (s.setCap r v b).draws = s.draws := by simp [State.setCap]

/-! ## Moving the instruction pointer -/

@[simp] theorem State.advance_regs (s : State) (n : Nat) :
    (s.advance n).regs = s.regs := rfl
@[simp] theorem State.advance_sr (s : State) (n : Nat) :
    (s.advance n).sr = s.sr := rfl
@[simp] theorem State.advance_csr (s : State) (n : Nat) :
    (s.advance n).csr = s.csr := rfl
@[simp] theorem State.advance_exc (s : State) (n : Nat) :
    (s.advance n).exc = s.exc := rfl
@[simp] theorem State.advance_atom (s : State) (n : Nat) :
    (s.advance n).atom = s.atom := rfl
@[simp] theorem State.advance_mem (s : State) (n : Nat) :
    (s.advance n).mem = s.mem := rfl
@[simp] theorem State.advance_tags (s : State) (n : Nat) :
    (s.advance n).tags = s.tags := rfl
@[simp] theorem State.advance_stale (s : State) (n : Nat) :
    (s.advance n).stale = s.stale := rfl
@[simp] theorem State.advance_cards (s : State) (n : Nat) :
    (s.advance n).cards = s.cards := rfl
@[simp] theorem State.advance_errs (s : State) (n : Nat) :
    (s.advance n).errs = s.errs := rfl
@[simp] theorem State.advance_dirty (s : State) (n : Nat) :
    (s.advance n).dirty = s.dirty := rfl
@[simp] theorem State.advance_tlb (s : State) (n : Nat) :
    (s.advance n).tlb = s.tlb := rfl
@[simp] theorem State.advance_tlbCount (s : State) (n : Nat) :
    (s.advance n).tlbCount = s.tlbCount := rfl
@[simp] theorem State.advance_ptw (s : State) (n : Nat) :
    (s.advance n).ptw = s.ptw := rfl
@[simp] theorem State.advance_rgn (s : State) (n : Nat) :
    (s.advance n).rgn = s.rgn := rfl
@[simp] theorem State.advance_qic (s : State) (n : Nat) :
    (s.advance n).qic = s.qic := rfl
@[simp] theorem State.advance_qit1 (s : State) (n : Nat) :
    (s.advance n).qit1 = s.qit1 := rfl
@[simp] theorem State.advance_qit2 (s : State) (n : Nat) :
    (s.advance n).qit2 = s.qit2 := rfl
@[simp] theorem State.advance_cfg (s : State) (n : Nat) :
    (s.advance n).cfg = s.cfg := rfl
@[simp] theorem State.advance_agenda (s : State) (n : Nat) :
    (s.advance n).agenda = s.agenda := rfl
@[simp] theorem State.advance_par (s : State) (n : Nat) :
    (s.advance n).par = s.par := rfl
@[simp] theorem State.advance_ir (s : State) (n : Nat) :
    (s.advance n).ir = s.ir := rfl
@[simp] theorem State.advance_pfx (s : State) (n : Nat) :
    (s.advance n).pfx = s.pfx := rfl
@[simp] theorem State.advance_draws (s : State) (n : Nat) :
    (s.advance n).draws = s.draws := rfl

@[simp] theorem State.advance_ip (s : State) (n : Nat) :
    (s.advance n).ip = s.nextIp n := rfl
@[simp] theorem State.goto_regs (s : State) (t : Word) :
    (s.goto t).regs = s.regs := rfl
@[simp] theorem State.goto_sr (s : State) (t : Word) :
    (s.goto t).sr = s.sr := rfl
@[simp] theorem State.goto_csr (s : State) (t : Word) :
    (s.goto t).csr = s.csr := rfl
@[simp] theorem State.goto_exc (s : State) (t : Word) :
    (s.goto t).exc = s.exc := rfl
@[simp] theorem State.goto_atom (s : State) (t : Word) :
    (s.goto t).atom = s.atom := rfl
@[simp] theorem State.goto_mem (s : State) (t : Word) :
    (s.goto t).mem = s.mem := rfl
@[simp] theorem State.goto_tags (s : State) (t : Word) :
    (s.goto t).tags = s.tags := rfl
@[simp] theorem State.goto_stale (s : State) (t : Word) :
    (s.goto t).stale = s.stale := rfl
@[simp] theorem State.goto_cards (s : State) (t : Word) :
    (s.goto t).cards = s.cards := rfl
@[simp] theorem State.goto_errs (s : State) (t : Word) :
    (s.goto t).errs = s.errs := rfl
@[simp] theorem State.goto_dirty (s : State) (t : Word) :
    (s.goto t).dirty = s.dirty := rfl
@[simp] theorem State.goto_tlb (s : State) (t : Word) :
    (s.goto t).tlb = s.tlb := rfl
@[simp] theorem State.goto_tlbCount (s : State) (t : Word) :
    (s.goto t).tlbCount = s.tlbCount := rfl
@[simp] theorem State.goto_ptw (s : State) (t : Word) :
    (s.goto t).ptw = s.ptw := rfl
@[simp] theorem State.goto_rgn (s : State) (t : Word) :
    (s.goto t).rgn = s.rgn := rfl
@[simp] theorem State.goto_qic (s : State) (t : Word) :
    (s.goto t).qic = s.qic := rfl
@[simp] theorem State.goto_qit1 (s : State) (t : Word) :
    (s.goto t).qit1 = s.qit1 := rfl
@[simp] theorem State.goto_qit2 (s : State) (t : Word) :
    (s.goto t).qit2 = s.qit2 := rfl
@[simp] theorem State.goto_cfg (s : State) (t : Word) :
    (s.goto t).cfg = s.cfg := rfl
@[simp] theorem State.goto_agenda (s : State) (t : Word) :
    (s.goto t).agenda = s.agenda := rfl
@[simp] theorem State.goto_par (s : State) (t : Word) :
    (s.goto t).par = s.par := rfl
@[simp] theorem State.goto_ir (s : State) (t : Word) :
    (s.goto t).ir = s.ir := rfl
@[simp] theorem State.goto_pfx (s : State) (t : Word) :
    (s.goto t).pfx = s.pfx := rfl
@[simp] theorem State.goto_draws (s : State) (t : Word) :
    (s.goto t).draws = s.draws := rfl

@[simp] theorem State.goto_ip (s : State) (t : Word) :
    (s.goto t).ip = t := rfl

/-! ## Taking an exception and returning from one -/

@[simp] theorem trapEntry_regs (s : State) (t : Trap) :
    (trapEntry t s).regs = s.regs := rfl
@[simp] theorem trapEntry_mem (s : State) (t : Trap) :
    (trapEntry t s).mem = s.mem := rfl
@[simp] theorem trapEntry_tags (s : State) (t : Trap) :
    (trapEntry t s).tags = s.tags := rfl
@[simp] theorem trapEntry_stale (s : State) (t : Trap) :
    (trapEntry t s).stale = s.stale := rfl
@[simp] theorem trapEntry_cards (s : State) (t : Trap) :
    (trapEntry t s).cards = s.cards := rfl
@[simp] theorem trapEntry_errs (s : State) (t : Trap) :
    (trapEntry t s).errs = s.errs := rfl
@[simp] theorem trapEntry_dirty (s : State) (t : Trap) :
    (trapEntry t s).dirty = s.dirty := rfl
@[simp] theorem trapEntry_tlb (s : State) (t : Trap) :
    (trapEntry t s).tlb = s.tlb := rfl
@[simp] theorem trapEntry_tlbCount (s : State) (t : Trap) :
    (trapEntry t s).tlbCount = s.tlbCount := rfl
@[simp] theorem trapEntry_ptw (s : State) (t : Trap) :
    (trapEntry t s).ptw = s.ptw := rfl
@[simp] theorem trapEntry_rgn (s : State) (t : Trap) :
    (trapEntry t s).rgn = s.rgn := rfl
@[simp] theorem trapEntry_qic (s : State) (t : Trap) :
    (trapEntry t s).qic = s.qic := rfl
@[simp] theorem trapEntry_qit1 (s : State) (t : Trap) :
    (trapEntry t s).qit1 = s.qit1 := rfl
@[simp] theorem trapEntry_qit2 (s : State) (t : Trap) :
    (trapEntry t s).qit2 = s.qit2 := rfl
@[simp] theorem trapEntry_cfg (s : State) (t : Trap) :
    (trapEntry t s).cfg = s.cfg := rfl
@[simp] theorem trapEntry_agenda (s : State) (t : Trap) :
    (trapEntry t s).agenda = s.agenda := rfl
@[simp] theorem trapEntry_par (s : State) (t : Trap) :
    (trapEntry t s).par = s.par := rfl
@[simp] theorem trapEntry_ir (s : State) (t : Trap) :
    (trapEntry t s).ir = s.ir := rfl
@[simp] theorem trapEntry_pfx (s : State) (t : Trap) :
    (trapEntry t s).pfx = s.pfx := rfl
@[simp] theorem trapEntry_draws (s : State) (t : Trap) :
    (trapEntry t s).draws = s.draws := rfl

@[simp] theorem exceptionReturn_regs (s : State) (n : BitVec 4) :
    (exceptionReturn n s).regs = s.regs := rfl
@[simp] theorem exceptionReturn_csr (s : State) (n : BitVec 4) :
    (exceptionReturn n s).csr = s.csr := rfl
@[simp] theorem exceptionReturn_atom (s : State) (n : BitVec 4) :
    (exceptionReturn n s).atom = s.atom := rfl
@[simp] theorem exceptionReturn_mem (s : State) (n : BitVec 4) :
    (exceptionReturn n s).mem = s.mem := rfl
@[simp] theorem exceptionReturn_tags (s : State) (n : BitVec 4) :
    (exceptionReturn n s).tags = s.tags := rfl
@[simp] theorem exceptionReturn_stale (s : State) (n : BitVec 4) :
    (exceptionReturn n s).stale = s.stale := rfl
@[simp] theorem exceptionReturn_cards (s : State) (n : BitVec 4) :
    (exceptionReturn n s).cards = s.cards := rfl
@[simp] theorem exceptionReturn_errs (s : State) (n : BitVec 4) :
    (exceptionReturn n s).errs = s.errs := rfl
@[simp] theorem exceptionReturn_dirty (s : State) (n : BitVec 4) :
    (exceptionReturn n s).dirty = s.dirty := rfl
@[simp] theorem exceptionReturn_tlb (s : State) (n : BitVec 4) :
    (exceptionReturn n s).tlb = s.tlb := rfl
@[simp] theorem exceptionReturn_tlbCount (s : State) (n : BitVec 4) :
    (exceptionReturn n s).tlbCount = s.tlbCount := rfl
@[simp] theorem exceptionReturn_ptw (s : State) (n : BitVec 4) :
    (exceptionReturn n s).ptw = s.ptw := rfl
@[simp] theorem exceptionReturn_rgn (s : State) (n : BitVec 4) :
    (exceptionReturn n s).rgn = s.rgn := rfl
@[simp] theorem exceptionReturn_qic (s : State) (n : BitVec 4) :
    (exceptionReturn n s).qic = s.qic := rfl
@[simp] theorem exceptionReturn_qit1 (s : State) (n : BitVec 4) :
    (exceptionReturn n s).qit1 = s.qit1 := rfl
@[simp] theorem exceptionReturn_qit2 (s : State) (n : BitVec 4) :
    (exceptionReturn n s).qit2 = s.qit2 := rfl
@[simp] theorem exceptionReturn_cfg (s : State) (n : BitVec 4) :
    (exceptionReturn n s).cfg = s.cfg := rfl
@[simp] theorem exceptionReturn_agenda (s : State) (n : BitVec 4) :
    (exceptionReturn n s).agenda = s.agenda := rfl
@[simp] theorem exceptionReturn_par (s : State) (n : BitVec 4) :
    (exceptionReturn n s).par = s.par := rfl
@[simp] theorem exceptionReturn_ir (s : State) (n : BitVec 4) :
    (exceptionReturn n s).ir = s.ir := rfl
@[simp] theorem exceptionReturn_pfx (s : State) (n : BitVec 4) :
    (exceptionReturn n s).pfx = s.pfx := rfl
@[simp] theorem exceptionReturn_draws (s : State) (n : BitVec 4) :
    (exceptionReturn n s).draws = s.draws := rfl

/-! ## Memory -/

@[simp] theorem State.storeByte_regs (s : State) (pa : Nat) (b : Byte) :
    (s.storeByte pa b).regs = s.regs := rfl
@[simp] theorem State.storeByte_ip (s : State) (pa : Nat) (b : Byte) :
    (s.storeByte pa b).ip = s.ip := rfl
@[simp] theorem State.storeByte_sr (s : State) (pa : Nat) (b : Byte) :
    (s.storeByte pa b).sr = s.sr := rfl
@[simp] theorem State.storeByte_csr (s : State) (pa : Nat) (b : Byte) :
    (s.storeByte pa b).csr = s.csr := rfl
@[simp] theorem State.storeByte_exc (s : State) (pa : Nat) (b : Byte) :
    (s.storeByte pa b).exc = s.exc := rfl
@[simp] theorem State.storeByte_atom (s : State) (pa : Nat) (b : Byte) :
    (s.storeByte pa b).atom = s.atom := rfl
@[simp] theorem State.storeByte_cards (s : State) (pa : Nat) (b : Byte) :
    (s.storeByte pa b).cards = s.cards := rfl
@[simp] theorem State.storeByte_errs (s : State) (pa : Nat) (b : Byte) :
    (s.storeByte pa b).errs = s.errs := rfl
@[simp] theorem State.storeByte_dirty (s : State) (pa : Nat) (b : Byte) :
    (s.storeByte pa b).dirty = s.dirty := rfl
@[simp] theorem State.storeByte_tlb (s : State) (pa : Nat) (b : Byte) :
    (s.storeByte pa b).tlb = s.tlb := rfl
@[simp] theorem State.storeByte_tlbCount (s : State) (pa : Nat) (b : Byte) :
    (s.storeByte pa b).tlbCount = s.tlbCount := rfl
@[simp] theorem State.storeByte_ptw (s : State) (pa : Nat) (b : Byte) :
    (s.storeByte pa b).ptw = s.ptw := rfl
@[simp] theorem State.storeByte_rgn (s : State) (pa : Nat) (b : Byte) :
    (s.storeByte pa b).rgn = s.rgn := rfl
@[simp] theorem State.storeByte_qic (s : State) (pa : Nat) (b : Byte) :
    (s.storeByte pa b).qic = s.qic := rfl
@[simp] theorem State.storeByte_qit1 (s : State) (pa : Nat) (b : Byte) :
    (s.storeByte pa b).qit1 = s.qit1 := rfl
@[simp] theorem State.storeByte_qit2 (s : State) (pa : Nat) (b : Byte) :
    (s.storeByte pa b).qit2 = s.qit2 := rfl
@[simp] theorem State.storeByte_cfg (s : State) (pa : Nat) (b : Byte) :
    (s.storeByte pa b).cfg = s.cfg := rfl
@[simp] theorem State.storeByte_agenda (s : State) (pa : Nat) (b : Byte) :
    (s.storeByte pa b).agenda = s.agenda := rfl
@[simp] theorem State.storeByte_par (s : State) (pa : Nat) (b : Byte) :
    (s.storeByte pa b).par = s.par := rfl
@[simp] theorem State.storeByte_ir (s : State) (pa : Nat) (b : Byte) :
    (s.storeByte pa b).ir = s.ir := rfl
@[simp] theorem State.storeByte_pfx (s : State) (pa : Nat) (b : Byte) :
    (s.storeByte pa b).pfx = s.pfx := rfl
@[simp] theorem State.storeByte_draws (s : State) (pa : Nat) (b : Byte) :
    (s.storeByte pa b).draws = s.draws := rfl

@[simp] theorem State.setMemTag_regs (s : State) (pa : Nat) (b : Bool) :
    (s.setMemTag pa b).regs = s.regs := rfl
@[simp] theorem State.setMemTag_ip (s : State) (pa : Nat) (b : Bool) :
    (s.setMemTag pa b).ip = s.ip := rfl
@[simp] theorem State.setMemTag_sr (s : State) (pa : Nat) (b : Bool) :
    (s.setMemTag pa b).sr = s.sr := rfl
@[simp] theorem State.setMemTag_csr (s : State) (pa : Nat) (b : Bool) :
    (s.setMemTag pa b).csr = s.csr := rfl
@[simp] theorem State.setMemTag_exc (s : State) (pa : Nat) (b : Bool) :
    (s.setMemTag pa b).exc = s.exc := rfl
@[simp] theorem State.setMemTag_atom (s : State) (pa : Nat) (b : Bool) :
    (s.setMemTag pa b).atom = s.atom := rfl
@[simp] theorem State.setMemTag_mem (s : State) (pa : Nat) (b : Bool) :
    (s.setMemTag pa b).mem = s.mem := rfl
@[simp] theorem State.setMemTag_stale (s : State) (pa : Nat) (b : Bool) :
    (s.setMemTag pa b).stale = s.stale := rfl
@[simp] theorem State.setMemTag_cards (s : State) (pa : Nat) (b : Bool) :
    (s.setMemTag pa b).cards = s.cards := rfl
@[simp] theorem State.setMemTag_errs (s : State) (pa : Nat) (b : Bool) :
    (s.setMemTag pa b).errs = s.errs := rfl
@[simp] theorem State.setMemTag_dirty (s : State) (pa : Nat) (b : Bool) :
    (s.setMemTag pa b).dirty = s.dirty := rfl
@[simp] theorem State.setMemTag_tlb (s : State) (pa : Nat) (b : Bool) :
    (s.setMemTag pa b).tlb = s.tlb := rfl
@[simp] theorem State.setMemTag_tlbCount (s : State) (pa : Nat) (b : Bool) :
    (s.setMemTag pa b).tlbCount = s.tlbCount := rfl
@[simp] theorem State.setMemTag_ptw (s : State) (pa : Nat) (b : Bool) :
    (s.setMemTag pa b).ptw = s.ptw := rfl
@[simp] theorem State.setMemTag_rgn (s : State) (pa : Nat) (b : Bool) :
    (s.setMemTag pa b).rgn = s.rgn := rfl
@[simp] theorem State.setMemTag_qic (s : State) (pa : Nat) (b : Bool) :
    (s.setMemTag pa b).qic = s.qic := rfl
@[simp] theorem State.setMemTag_qit1 (s : State) (pa : Nat) (b : Bool) :
    (s.setMemTag pa b).qit1 = s.qit1 := rfl
@[simp] theorem State.setMemTag_qit2 (s : State) (pa : Nat) (b : Bool) :
    (s.setMemTag pa b).qit2 = s.qit2 := rfl
@[simp] theorem State.setMemTag_cfg (s : State) (pa : Nat) (b : Bool) :
    (s.setMemTag pa b).cfg = s.cfg := rfl
@[simp] theorem State.setMemTag_agenda (s : State) (pa : Nat) (b : Bool) :
    (s.setMemTag pa b).agenda = s.agenda := rfl
@[simp] theorem State.setMemTag_par (s : State) (pa : Nat) (b : Bool) :
    (s.setMemTag pa b).par = s.par := rfl
@[simp] theorem State.setMemTag_ir (s : State) (pa : Nat) (b : Bool) :
    (s.setMemTag pa b).ir = s.ir := rfl
@[simp] theorem State.setMemTag_pfx (s : State) (pa : Nat) (b : Bool) :
    (s.setMemTag pa b).pfx = s.pfx := rfl
@[simp] theorem State.setMemTag_draws (s : State) (pa : Nat) (b : Bool) :
    (s.setMemTag pa b).draws = s.draws := rfl

@[simp] theorem storeTag_regs (s : State) (ea : Word) (sp : Span) (b : Bool) :
    (storeTag ea sp b s).regs = s.regs := by unfold storeTag; split <;> rfl
@[simp] theorem storeTag_ip (s : State) (ea : Word) (sp : Span) (b : Bool) :
    (storeTag ea sp b s).ip = s.ip := by unfold storeTag; split <;> rfl
@[simp] theorem storeTag_sr (s : State) (ea : Word) (sp : Span) (b : Bool) :
    (storeTag ea sp b s).sr = s.sr := by unfold storeTag; split <;> rfl
@[simp] theorem storeTag_csr (s : State) (ea : Word) (sp : Span) (b : Bool) :
    (storeTag ea sp b s).csr = s.csr := by unfold storeTag; split <;> rfl
@[simp] theorem storeTag_exc (s : State) (ea : Word) (sp : Span) (b : Bool) :
    (storeTag ea sp b s).exc = s.exc := by unfold storeTag; split <;> rfl
@[simp] theorem storeTag_atom (s : State) (ea : Word) (sp : Span) (b : Bool) :
    (storeTag ea sp b s).atom = s.atom := by unfold storeTag; split <;> rfl
@[simp] theorem storeTag_mem (s : State) (ea : Word) (sp : Span) (b : Bool) :
    (storeTag ea sp b s).mem = s.mem := by unfold storeTag; split <;> rfl
@[simp] theorem storeTag_stale (s : State) (ea : Word) (sp : Span) (b : Bool) :
    (storeTag ea sp b s).stale = s.stale := by unfold storeTag; split <;> rfl
@[simp] theorem storeTag_cards (s : State) (ea : Word) (sp : Span) (b : Bool) :
    (storeTag ea sp b s).cards = s.cards := by unfold storeTag; split <;> rfl
@[simp] theorem storeTag_errs (s : State) (ea : Word) (sp : Span) (b : Bool) :
    (storeTag ea sp b s).errs = s.errs := by unfold storeTag; split <;> rfl
@[simp] theorem storeTag_dirty (s : State) (ea : Word) (sp : Span) (b : Bool) :
    (storeTag ea sp b s).dirty = s.dirty := by unfold storeTag; split <;> rfl
@[simp] theorem storeTag_tlb (s : State) (ea : Word) (sp : Span) (b : Bool) :
    (storeTag ea sp b s).tlb = s.tlb := by unfold storeTag; split <;> rfl
@[simp] theorem storeTag_tlbCount (s : State) (ea : Word) (sp : Span) (b : Bool) :
    (storeTag ea sp b s).tlbCount = s.tlbCount := by unfold storeTag; split <;> rfl
@[simp] theorem storeTag_ptw (s : State) (ea : Word) (sp : Span) (b : Bool) :
    (storeTag ea sp b s).ptw = s.ptw := by unfold storeTag; split <;> rfl
@[simp] theorem storeTag_rgn (s : State) (ea : Word) (sp : Span) (b : Bool) :
    (storeTag ea sp b s).rgn = s.rgn := by unfold storeTag; split <;> rfl
@[simp] theorem storeTag_qic (s : State) (ea : Word) (sp : Span) (b : Bool) :
    (storeTag ea sp b s).qic = s.qic := by unfold storeTag; split <;> rfl
@[simp] theorem storeTag_qit1 (s : State) (ea : Word) (sp : Span) (b : Bool) :
    (storeTag ea sp b s).qit1 = s.qit1 := by unfold storeTag; split <;> rfl
@[simp] theorem storeTag_qit2 (s : State) (ea : Word) (sp : Span) (b : Bool) :
    (storeTag ea sp b s).qit2 = s.qit2 := by unfold storeTag; split <;> rfl
@[simp] theorem storeTag_cfg (s : State) (ea : Word) (sp : Span) (b : Bool) :
    (storeTag ea sp b s).cfg = s.cfg := by unfold storeTag; split <;> rfl
@[simp] theorem storeTag_agenda (s : State) (ea : Word) (sp : Span) (b : Bool) :
    (storeTag ea sp b s).agenda = s.agenda := by unfold storeTag; split <;> rfl
@[simp] theorem storeTag_par (s : State) (ea : Word) (sp : Span) (b : Bool) :
    (storeTag ea sp b s).par = s.par := by unfold storeTag; split <;> rfl
@[simp] theorem storeTag_ir (s : State) (ea : Word) (sp : Span) (b : Bool) :
    (storeTag ea sp b s).ir = s.ir := by unfold storeTag; split <;> rfl
@[simp] theorem storeTag_pfx (s : State) (ea : Word) (sp : Span) (b : Bool) :
    (storeTag ea sp b s).pfx = s.pfx := by unfold storeTag; split <;> rfl
@[simp] theorem storeTag_draws (s : State) (ea : Word) (sp : Span) (b : Bool) :
    (storeTag ea sp b s).draws = s.draws := by unfold storeTag; split <;> rfl

@[simp] theorem storeBytes_regs (s : State) (va : Word) (sp : Span) (v : Word) (n : Nat) :
    (storeBytes s va sp v n).regs = s.regs := by
  induction n with
  | zero => rfl
  | succ n ih => simp only [storeBytes]; split <;> simp [ih]
@[simp] theorem storeBytes_ip (s : State) (va : Word) (sp : Span) (v : Word) (n : Nat) :
    (storeBytes s va sp v n).ip = s.ip := by
  induction n with
  | zero => rfl
  | succ n ih => simp only [storeBytes]; split <;> simp [ih]
@[simp] theorem storeBytes_sr (s : State) (va : Word) (sp : Span) (v : Word) (n : Nat) :
    (storeBytes s va sp v n).sr = s.sr := by
  induction n with
  | zero => rfl
  | succ n ih => simp only [storeBytes]; split <;> simp [ih]
@[simp] theorem storeBytes_csr (s : State) (va : Word) (sp : Span) (v : Word) (n : Nat) :
    (storeBytes s va sp v n).csr = s.csr := by
  induction n with
  | zero => rfl
  | succ n ih => simp only [storeBytes]; split <;> simp [ih]
@[simp] theorem storeBytes_exc (s : State) (va : Word) (sp : Span) (v : Word) (n : Nat) :
    (storeBytes s va sp v n).exc = s.exc := by
  induction n with
  | zero => rfl
  | succ n ih => simp only [storeBytes]; split <;> simp [ih]
@[simp] theorem storeBytes_atom (s : State) (va : Word) (sp : Span) (v : Word) (n : Nat) :
    (storeBytes s va sp v n).atom = s.atom := by
  induction n with
  | zero => rfl
  | succ n ih => simp only [storeBytes]; split <;> simp [ih]
@[simp] theorem storeBytes_cards (s : State) (va : Word) (sp : Span) (v : Word) (n : Nat) :
    (storeBytes s va sp v n).cards = s.cards := by
  induction n with
  | zero => rfl
  | succ n ih => simp only [storeBytes]; split <;> simp [ih]
@[simp] theorem storeBytes_errs (s : State) (va : Word) (sp : Span) (v : Word) (n : Nat) :
    (storeBytes s va sp v n).errs = s.errs := by
  induction n with
  | zero => rfl
  | succ n ih => simp only [storeBytes]; split <;> simp [ih]
@[simp] theorem storeBytes_dirty (s : State) (va : Word) (sp : Span) (v : Word) (n : Nat) :
    (storeBytes s va sp v n).dirty = s.dirty := by
  induction n with
  | zero => rfl
  | succ n ih => simp only [storeBytes]; split <;> simp [ih]
@[simp] theorem storeBytes_tlb (s : State) (va : Word) (sp : Span) (v : Word) (n : Nat) :
    (storeBytes s va sp v n).tlb = s.tlb := by
  induction n with
  | zero => rfl
  | succ n ih => simp only [storeBytes]; split <;> simp [ih]
@[simp] theorem storeBytes_tlbCount (s : State) (va : Word) (sp : Span) (v : Word) (n : Nat) :
    (storeBytes s va sp v n).tlbCount = s.tlbCount := by
  induction n with
  | zero => rfl
  | succ n ih => simp only [storeBytes]; split <;> simp [ih]
@[simp] theorem storeBytes_ptw (s : State) (va : Word) (sp : Span) (v : Word) (n : Nat) :
    (storeBytes s va sp v n).ptw = s.ptw := by
  induction n with
  | zero => rfl
  | succ n ih => simp only [storeBytes]; split <;> simp [ih]
@[simp] theorem storeBytes_rgn (s : State) (va : Word) (sp : Span) (v : Word) (n : Nat) :
    (storeBytes s va sp v n).rgn = s.rgn := by
  induction n with
  | zero => rfl
  | succ n ih => simp only [storeBytes]; split <;> simp [ih]
@[simp] theorem storeBytes_qic (s : State) (va : Word) (sp : Span) (v : Word) (n : Nat) :
    (storeBytes s va sp v n).qic = s.qic := by
  induction n with
  | zero => rfl
  | succ n ih => simp only [storeBytes]; split <;> simp [ih]
@[simp] theorem storeBytes_qit1 (s : State) (va : Word) (sp : Span) (v : Word) (n : Nat) :
    (storeBytes s va sp v n).qit1 = s.qit1 := by
  induction n with
  | zero => rfl
  | succ n ih => simp only [storeBytes]; split <;> simp [ih]
@[simp] theorem storeBytes_qit2 (s : State) (va : Word) (sp : Span) (v : Word) (n : Nat) :
    (storeBytes s va sp v n).qit2 = s.qit2 := by
  induction n with
  | zero => rfl
  | succ n ih => simp only [storeBytes]; split <;> simp [ih]
@[simp] theorem storeBytes_cfg (s : State) (va : Word) (sp : Span) (v : Word) (n : Nat) :
    (storeBytes s va sp v n).cfg = s.cfg := by
  induction n with
  | zero => rfl
  | succ n ih => simp only [storeBytes]; split <;> simp [ih]
@[simp] theorem storeBytes_agenda (s : State) (va : Word) (sp : Span) (v : Word) (n : Nat) :
    (storeBytes s va sp v n).agenda = s.agenda := by
  induction n with
  | zero => rfl
  | succ n ih => simp only [storeBytes]; split <;> simp [ih]
@[simp] theorem storeBytes_par (s : State) (va : Word) (sp : Span) (v : Word) (n : Nat) :
    (storeBytes s va sp v n).par = s.par := by
  induction n with
  | zero => rfl
  | succ n ih => simp only [storeBytes]; split <;> simp [ih]
@[simp] theorem storeBytes_ir (s : State) (va : Word) (sp : Span) (v : Word) (n : Nat) :
    (storeBytes s va sp v n).ir = s.ir := by
  induction n with
  | zero => rfl
  | succ n ih => simp only [storeBytes]; split <;> simp [ih]
@[simp] theorem storeBytes_pfx (s : State) (va : Word) (sp : Span) (v : Word) (n : Nat) :
    (storeBytes s va sp v n).pfx = s.pfx := by
  induction n with
  | zero => rfl
  | succ n ih => simp only [storeBytes]; split <;> simp [ih]
@[simp] theorem storeBytes_draws (s : State) (va : Word) (sp : Span) (v : Word) (n : Nat) :
    (storeBytes s va sp v n).draws = s.draws := by
  induction n with
  | zero => rfl
  | succ n ih => simp only [storeBytes]; split <;> simp [ih]

@[simp] theorem busStore_regs (s : State) (pa : Nat) (v : Word) (n : Nat) :
    (busStore s pa v n).regs = s.regs := by
  induction n with
  | zero => rfl
  | succ n ih => simp only [busStore]; split <;> simp [ih]
@[simp] theorem busStore_ip (s : State) (pa : Nat) (v : Word) (n : Nat) :
    (busStore s pa v n).ip = s.ip := by
  induction n with
  | zero => rfl
  | succ n ih => simp only [busStore]; split <;> simp [ih]
@[simp] theorem busStore_sr (s : State) (pa : Nat) (v : Word) (n : Nat) :
    (busStore s pa v n).sr = s.sr := by
  induction n with
  | zero => rfl
  | succ n ih => simp only [busStore]; split <;> simp [ih]
@[simp] theorem busStore_csr (s : State) (pa : Nat) (v : Word) (n : Nat) :
    (busStore s pa v n).csr = s.csr := by
  induction n with
  | zero => rfl
  | succ n ih => simp only [busStore]; split <;> simp [ih]
@[simp] theorem busStore_exc (s : State) (pa : Nat) (v : Word) (n : Nat) :
    (busStore s pa v n).exc = s.exc := by
  induction n with
  | zero => rfl
  | succ n ih => simp only [busStore]; split <;> simp [ih]
@[simp] theorem busStore_atom (s : State) (pa : Nat) (v : Word) (n : Nat) :
    (busStore s pa v n).atom = s.atom := by
  induction n with
  | zero => rfl
  | succ n ih => simp only [busStore]; split <;> simp [ih]
@[simp] theorem busStore_cards (s : State) (pa : Nat) (v : Word) (n : Nat) :
    (busStore s pa v n).cards = s.cards := by
  induction n with
  | zero => rfl
  | succ n ih => simp only [busStore]; split <;> simp [ih]
@[simp] theorem busStore_errs (s : State) (pa : Nat) (v : Word) (n : Nat) :
    (busStore s pa v n).errs = s.errs := by
  induction n with
  | zero => rfl
  | succ n ih => simp only [busStore]; split <;> simp [ih]
@[simp] theorem busStore_dirty (s : State) (pa : Nat) (v : Word) (n : Nat) :
    (busStore s pa v n).dirty = s.dirty := by
  induction n with
  | zero => rfl
  | succ n ih => simp only [busStore]; split <;> simp [ih]
@[simp] theorem busStore_tlb (s : State) (pa : Nat) (v : Word) (n : Nat) :
    (busStore s pa v n).tlb = s.tlb := by
  induction n with
  | zero => rfl
  | succ n ih => simp only [busStore]; split <;> simp [ih]
@[simp] theorem busStore_tlbCount (s : State) (pa : Nat) (v : Word) (n : Nat) :
    (busStore s pa v n).tlbCount = s.tlbCount := by
  induction n with
  | zero => rfl
  | succ n ih => simp only [busStore]; split <;> simp [ih]
@[simp] theorem busStore_ptw (s : State) (pa : Nat) (v : Word) (n : Nat) :
    (busStore s pa v n).ptw = s.ptw := by
  induction n with
  | zero => rfl
  | succ n ih => simp only [busStore]; split <;> simp [ih]
@[simp] theorem busStore_rgn (s : State) (pa : Nat) (v : Word) (n : Nat) :
    (busStore s pa v n).rgn = s.rgn := by
  induction n with
  | zero => rfl
  | succ n ih => simp only [busStore]; split <;> simp [ih]
@[simp] theorem busStore_qic (s : State) (pa : Nat) (v : Word) (n : Nat) :
    (busStore s pa v n).qic = s.qic := by
  induction n with
  | zero => rfl
  | succ n ih => simp only [busStore]; split <;> simp [ih]
@[simp] theorem busStore_qit1 (s : State) (pa : Nat) (v : Word) (n : Nat) :
    (busStore s pa v n).qit1 = s.qit1 := by
  induction n with
  | zero => rfl
  | succ n ih => simp only [busStore]; split <;> simp [ih]
@[simp] theorem busStore_qit2 (s : State) (pa : Nat) (v : Word) (n : Nat) :
    (busStore s pa v n).qit2 = s.qit2 := by
  induction n with
  | zero => rfl
  | succ n ih => simp only [busStore]; split <;> simp [ih]
@[simp] theorem busStore_cfg (s : State) (pa : Nat) (v : Word) (n : Nat) :
    (busStore s pa v n).cfg = s.cfg := by
  induction n with
  | zero => rfl
  | succ n ih => simp only [busStore]; split <;> simp [ih]
@[simp] theorem busStore_agenda (s : State) (pa : Nat) (v : Word) (n : Nat) :
    (busStore s pa v n).agenda = s.agenda := by
  induction n with
  | zero => rfl
  | succ n ih => simp only [busStore]; split <;> simp [ih]
@[simp] theorem busStore_par (s : State) (pa : Nat) (v : Word) (n : Nat) :
    (busStore s pa v n).par = s.par := by
  induction n with
  | zero => rfl
  | succ n ih => simp only [busStore]; split <;> simp [ih]
@[simp] theorem busStore_ir (s : State) (pa : Nat) (v : Word) (n : Nat) :
    (busStore s pa v n).ir = s.ir := by
  induction n with
  | zero => rfl
  | succ n ih => simp only [busStore]; split <;> simp [ih]
@[simp] theorem busStore_pfx (s : State) (pa : Nat) (v : Word) (n : Nat) :
    (busStore s pa v n).pfx = s.pfx := by
  induction n with
  | zero => rfl
  | succ n ih => simp only [busStore]; split <;> simp [ih]
@[simp] theorem busStore_draws (s : State) (pa : Nat) (v : Word) (n : Nat) :
    (busStore s pa v n).draws = s.draws := by
  induction n with
  | zero => rfl
  | succ n ih => simp only [busStore]; split <;> simp [ih]

/-! ## Translation lookaside buffer and caches -/

@[simp] theorem State.tlbDrop_regs (s : State) (p : BitVec 51) :
    (s.tlbDrop p).regs = s.regs := rfl
@[simp] theorem State.tlbDrop_ip (s : State) (p : BitVec 51) :
    (s.tlbDrop p).ip = s.ip := rfl
@[simp] theorem State.tlbDrop_sr (s : State) (p : BitVec 51) :
    (s.tlbDrop p).sr = s.sr := rfl
@[simp] theorem State.tlbDrop_csr (s : State) (p : BitVec 51) :
    (s.tlbDrop p).csr = s.csr := rfl
@[simp] theorem State.tlbDrop_exc (s : State) (p : BitVec 51) :
    (s.tlbDrop p).exc = s.exc := rfl
@[simp] theorem State.tlbDrop_atom (s : State) (p : BitVec 51) :
    (s.tlbDrop p).atom = s.atom := rfl
@[simp] theorem State.tlbDrop_mem (s : State) (p : BitVec 51) :
    (s.tlbDrop p).mem = s.mem := rfl
@[simp] theorem State.tlbDrop_tags (s : State) (p : BitVec 51) :
    (s.tlbDrop p).tags = s.tags := rfl
@[simp] theorem State.tlbDrop_stale (s : State) (p : BitVec 51) :
    (s.tlbDrop p).stale = s.stale := rfl
@[simp] theorem State.tlbDrop_cards (s : State) (p : BitVec 51) :
    (s.tlbDrop p).cards = s.cards := rfl
@[simp] theorem State.tlbDrop_errs (s : State) (p : BitVec 51) :
    (s.tlbDrop p).errs = s.errs := rfl
@[simp] theorem State.tlbDrop_dirty (s : State) (p : BitVec 51) :
    (s.tlbDrop p).dirty = s.dirty := rfl
@[simp] theorem State.tlbDrop_tlbCount (s : State) (p : BitVec 51) :
    (s.tlbDrop p).tlbCount = s.tlbCount := rfl
@[simp] theorem State.tlbDrop_ptw (s : State) (p : BitVec 51) :
    (s.tlbDrop p).ptw = s.ptw := rfl
@[simp] theorem State.tlbDrop_rgn (s : State) (p : BitVec 51) :
    (s.tlbDrop p).rgn = s.rgn := rfl
@[simp] theorem State.tlbDrop_qic (s : State) (p : BitVec 51) :
    (s.tlbDrop p).qic = s.qic := rfl
@[simp] theorem State.tlbDrop_qit1 (s : State) (p : BitVec 51) :
    (s.tlbDrop p).qit1 = s.qit1 := rfl
@[simp] theorem State.tlbDrop_qit2 (s : State) (p : BitVec 51) :
    (s.tlbDrop p).qit2 = s.qit2 := rfl
@[simp] theorem State.tlbDrop_cfg (s : State) (p : BitVec 51) :
    (s.tlbDrop p).cfg = s.cfg := rfl
@[simp] theorem State.tlbDrop_agenda (s : State) (p : BitVec 51) :
    (s.tlbDrop p).agenda = s.agenda := rfl
@[simp] theorem State.tlbDrop_par (s : State) (p : BitVec 51) :
    (s.tlbDrop p).par = s.par := rfl
@[simp] theorem State.tlbDrop_ir (s : State) (p : BitVec 51) :
    (s.tlbDrop p).ir = s.ir := rfl
@[simp] theorem State.tlbDrop_pfx (s : State) (p : BitVec 51) :
    (s.tlbDrop p).pfx = s.pfx := rfl
@[simp] theorem State.tlbDrop_draws (s : State) (p : BitVec 51) :
    (s.tlbDrop p).draws = s.draws := rfl

@[simp] theorem State.tlbInsert_regs (s : State) (e : TlbEntry) :
    (s.tlbInsert e).regs = s.regs := rfl
@[simp] theorem State.tlbInsert_ip (s : State) (e : TlbEntry) :
    (s.tlbInsert e).ip = s.ip := rfl
@[simp] theorem State.tlbInsert_sr (s : State) (e : TlbEntry) :
    (s.tlbInsert e).sr = s.sr := rfl
@[simp] theorem State.tlbInsert_csr (s : State) (e : TlbEntry) :
    (s.tlbInsert e).csr = s.csr := rfl
@[simp] theorem State.tlbInsert_exc (s : State) (e : TlbEntry) :
    (s.tlbInsert e).exc = s.exc := rfl
@[simp] theorem State.tlbInsert_atom (s : State) (e : TlbEntry) :
    (s.tlbInsert e).atom = s.atom := rfl
@[simp] theorem State.tlbInsert_mem (s : State) (e : TlbEntry) :
    (s.tlbInsert e).mem = s.mem := rfl
@[simp] theorem State.tlbInsert_tags (s : State) (e : TlbEntry) :
    (s.tlbInsert e).tags = s.tags := rfl
@[simp] theorem State.tlbInsert_stale (s : State) (e : TlbEntry) :
    (s.tlbInsert e).stale = s.stale := rfl
@[simp] theorem State.tlbInsert_cards (s : State) (e : TlbEntry) :
    (s.tlbInsert e).cards = s.cards := rfl
@[simp] theorem State.tlbInsert_errs (s : State) (e : TlbEntry) :
    (s.tlbInsert e).errs = s.errs := rfl
@[simp] theorem State.tlbInsert_dirty (s : State) (e : TlbEntry) :
    (s.tlbInsert e).dirty = s.dirty := rfl
@[simp] theorem State.tlbInsert_tlbCount (s : State) (e : TlbEntry) :
    (s.tlbInsert e).tlbCount = s.tlbCount := rfl
@[simp] theorem State.tlbInsert_ptw (s : State) (e : TlbEntry) :
    (s.tlbInsert e).ptw = s.ptw := rfl
@[simp] theorem State.tlbInsert_rgn (s : State) (e : TlbEntry) :
    (s.tlbInsert e).rgn = s.rgn := rfl
@[simp] theorem State.tlbInsert_qic (s : State) (e : TlbEntry) :
    (s.tlbInsert e).qic = s.qic := rfl
@[simp] theorem State.tlbInsert_qit1 (s : State) (e : TlbEntry) :
    (s.tlbInsert e).qit1 = s.qit1 := rfl
@[simp] theorem State.tlbInsert_qit2 (s : State) (e : TlbEntry) :
    (s.tlbInsert e).qit2 = s.qit2 := rfl
@[simp] theorem State.tlbInsert_cfg (s : State) (e : TlbEntry) :
    (s.tlbInsert e).cfg = s.cfg := rfl
@[simp] theorem State.tlbInsert_agenda (s : State) (e : TlbEntry) :
    (s.tlbInsert e).agenda = s.agenda := rfl
@[simp] theorem State.tlbInsert_par (s : State) (e : TlbEntry) :
    (s.tlbInsert e).par = s.par := rfl
@[simp] theorem State.tlbInsert_ir (s : State) (e : TlbEntry) :
    (s.tlbInsert e).ir = s.ir := rfl
@[simp] theorem State.tlbInsert_pfx (s : State) (e : TlbEntry) :
    (s.tlbInsert e).pfx = s.pfx := rfl
@[simp] theorem State.tlbInsert_draws (s : State) (e : TlbEntry) :
    (s.tlbInsert e).draws = s.draws := rfl

@[simp] theorem State.tlbClear_regs (s : State) :
    (s.tlbClear).regs = s.regs := rfl
@[simp] theorem State.tlbClear_ip (s : State) :
    (s.tlbClear).ip = s.ip := rfl
@[simp] theorem State.tlbClear_sr (s : State) :
    (s.tlbClear).sr = s.sr := rfl
@[simp] theorem State.tlbClear_csr (s : State) :
    (s.tlbClear).csr = s.csr := rfl
@[simp] theorem State.tlbClear_exc (s : State) :
    (s.tlbClear).exc = s.exc := rfl
@[simp] theorem State.tlbClear_atom (s : State) :
    (s.tlbClear).atom = s.atom := rfl
@[simp] theorem State.tlbClear_mem (s : State) :
    (s.tlbClear).mem = s.mem := rfl
@[simp] theorem State.tlbClear_tags (s : State) :
    (s.tlbClear).tags = s.tags := rfl
@[simp] theorem State.tlbClear_stale (s : State) :
    (s.tlbClear).stale = s.stale := rfl
@[simp] theorem State.tlbClear_cards (s : State) :
    (s.tlbClear).cards = s.cards := rfl
@[simp] theorem State.tlbClear_errs (s : State) :
    (s.tlbClear).errs = s.errs := rfl
@[simp] theorem State.tlbClear_dirty (s : State) :
    (s.tlbClear).dirty = s.dirty := rfl
@[simp] theorem State.tlbClear_ptw (s : State) :
    (s.tlbClear).ptw = s.ptw := rfl
@[simp] theorem State.tlbClear_rgn (s : State) :
    (s.tlbClear).rgn = s.rgn := rfl
@[simp] theorem State.tlbClear_qic (s : State) :
    (s.tlbClear).qic = s.qic := rfl
@[simp] theorem State.tlbClear_qit1 (s : State) :
    (s.tlbClear).qit1 = s.qit1 := rfl
@[simp] theorem State.tlbClear_qit2 (s : State) :
    (s.tlbClear).qit2 = s.qit2 := rfl
@[simp] theorem State.tlbClear_cfg (s : State) :
    (s.tlbClear).cfg = s.cfg := rfl
@[simp] theorem State.tlbClear_agenda (s : State) :
    (s.tlbClear).agenda = s.agenda := rfl
@[simp] theorem State.tlbClear_par (s : State) :
    (s.tlbClear).par = s.par := rfl
@[simp] theorem State.tlbClear_ir (s : State) :
    (s.tlbClear).ir = s.ir := rfl
@[simp] theorem State.tlbClear_pfx (s : State) :
    (s.tlbClear).pfx = s.pfx := rfl
@[simp] theorem State.tlbClear_draws (s : State) :
    (s.tlbClear).draws = s.draws := rfl

@[simp] theorem State.invalidateLine_regs (s : State) (pa : Nat) :
    (s.invalidateLine pa).regs = s.regs := rfl
@[simp] theorem State.invalidateLine_ip (s : State) (pa : Nat) :
    (s.invalidateLine pa).ip = s.ip := rfl
@[simp] theorem State.invalidateLine_sr (s : State) (pa : Nat) :
    (s.invalidateLine pa).sr = s.sr := rfl
@[simp] theorem State.invalidateLine_csr (s : State) (pa : Nat) :
    (s.invalidateLine pa).csr = s.csr := rfl
@[simp] theorem State.invalidateLine_exc (s : State) (pa : Nat) :
    (s.invalidateLine pa).exc = s.exc := rfl
@[simp] theorem State.invalidateLine_atom (s : State) (pa : Nat) :
    (s.invalidateLine pa).atom = s.atom := rfl
@[simp] theorem State.invalidateLine_mem (s : State) (pa : Nat) :
    (s.invalidateLine pa).mem = s.mem := rfl
@[simp] theorem State.invalidateLine_tags (s : State) (pa : Nat) :
    (s.invalidateLine pa).tags = s.tags := rfl
@[simp] theorem State.invalidateLine_cards (s : State) (pa : Nat) :
    (s.invalidateLine pa).cards = s.cards := rfl
@[simp] theorem State.invalidateLine_errs (s : State) (pa : Nat) :
    (s.invalidateLine pa).errs = s.errs := rfl
@[simp] theorem State.invalidateLine_dirty (s : State) (pa : Nat) :
    (s.invalidateLine pa).dirty = s.dirty := rfl
@[simp] theorem State.invalidateLine_tlb (s : State) (pa : Nat) :
    (s.invalidateLine pa).tlb = s.tlb := rfl
@[simp] theorem State.invalidateLine_tlbCount (s : State) (pa : Nat) :
    (s.invalidateLine pa).tlbCount = s.tlbCount := rfl
@[simp] theorem State.invalidateLine_ptw (s : State) (pa : Nat) :
    (s.invalidateLine pa).ptw = s.ptw := rfl
@[simp] theorem State.invalidateLine_rgn (s : State) (pa : Nat) :
    (s.invalidateLine pa).rgn = s.rgn := rfl
@[simp] theorem State.invalidateLine_qic (s : State) (pa : Nat) :
    (s.invalidateLine pa).qic = s.qic := rfl
@[simp] theorem State.invalidateLine_qit1 (s : State) (pa : Nat) :
    (s.invalidateLine pa).qit1 = s.qit1 := rfl
@[simp] theorem State.invalidateLine_qit2 (s : State) (pa : Nat) :
    (s.invalidateLine pa).qit2 = s.qit2 := rfl
@[simp] theorem State.invalidateLine_cfg (s : State) (pa : Nat) :
    (s.invalidateLine pa).cfg = s.cfg := rfl
@[simp] theorem State.invalidateLine_agenda (s : State) (pa : Nat) :
    (s.invalidateLine pa).agenda = s.agenda := rfl
@[simp] theorem State.invalidateLine_par (s : State) (pa : Nat) :
    (s.invalidateLine pa).par = s.par := rfl
@[simp] theorem State.invalidateLine_ir (s : State) (pa : Nat) :
    (s.invalidateLine pa).ir = s.ir := rfl
@[simp] theorem State.invalidateLine_pfx (s : State) (pa : Nat) :
    (s.invalidateLine pa).pfx = s.pfx := rfl
@[simp] theorem State.invalidateLine_draws (s : State) (pa : Nat) :
    (s.invalidateLine pa).draws = s.draws := rfl

/-! ## Devices -/

@[simp] theorem State.setQit_regs (s : State) (b : Bool) (q : Qit) :
    (s.setQit b q).regs = s.regs := by unfold State.setQit; split <;> rfl
@[simp] theorem State.setQit_ip (s : State) (b : Bool) (q : Qit) :
    (s.setQit b q).ip = s.ip := by unfold State.setQit; split <;> rfl
@[simp] theorem State.setQit_sr (s : State) (b : Bool) (q : Qit) :
    (s.setQit b q).sr = s.sr := by unfold State.setQit; split <;> rfl
@[simp] theorem State.setQit_csr (s : State) (b : Bool) (q : Qit) :
    (s.setQit b q).csr = s.csr := by unfold State.setQit; split <;> rfl
@[simp] theorem State.setQit_exc (s : State) (b : Bool) (q : Qit) :
    (s.setQit b q).exc = s.exc := by unfold State.setQit; split <;> rfl
@[simp] theorem State.setQit_atom (s : State) (b : Bool) (q : Qit) :
    (s.setQit b q).atom = s.atom := by unfold State.setQit; split <;> rfl
@[simp] theorem State.setQit_mem (s : State) (b : Bool) (q : Qit) :
    (s.setQit b q).mem = s.mem := by unfold State.setQit; split <;> rfl
@[simp] theorem State.setQit_tags (s : State) (b : Bool) (q : Qit) :
    (s.setQit b q).tags = s.tags := by unfold State.setQit; split <;> rfl
@[simp] theorem State.setQit_stale (s : State) (b : Bool) (q : Qit) :
    (s.setQit b q).stale = s.stale := by unfold State.setQit; split <;> rfl
@[simp] theorem State.setQit_cards (s : State) (b : Bool) (q : Qit) :
    (s.setQit b q).cards = s.cards := by unfold State.setQit; split <;> rfl
@[simp] theorem State.setQit_errs (s : State) (b : Bool) (q : Qit) :
    (s.setQit b q).errs = s.errs := by unfold State.setQit; split <;> rfl
@[simp] theorem State.setQit_dirty (s : State) (b : Bool) (q : Qit) :
    (s.setQit b q).dirty = s.dirty := by unfold State.setQit; split <;> rfl
@[simp] theorem State.setQit_tlb (s : State) (b : Bool) (q : Qit) :
    (s.setQit b q).tlb = s.tlb := by unfold State.setQit; split <;> rfl
@[simp] theorem State.setQit_tlbCount (s : State) (b : Bool) (q : Qit) :
    (s.setQit b q).tlbCount = s.tlbCount := by unfold State.setQit; split <;> rfl
@[simp] theorem State.setQit_ptw (s : State) (b : Bool) (q : Qit) :
    (s.setQit b q).ptw = s.ptw := by unfold State.setQit; split <;> rfl
@[simp] theorem State.setQit_rgn (s : State) (b : Bool) (q : Qit) :
    (s.setQit b q).rgn = s.rgn := by unfold State.setQit; split <;> rfl
@[simp] theorem State.setQit_qic (s : State) (b : Bool) (q : Qit) :
    (s.setQit b q).qic = s.qic := by unfold State.setQit; split <;> rfl
@[simp] theorem State.setQit_cfg (s : State) (b : Bool) (q : Qit) :
    (s.setQit b q).cfg = s.cfg := by unfold State.setQit; split <;> rfl
@[simp] theorem State.setQit_agenda (s : State) (b : Bool) (q : Qit) :
    (s.setQit b q).agenda = s.agenda := by unfold State.setQit; split <;> rfl
@[simp] theorem State.setQit_par (s : State) (b : Bool) (q : Qit) :
    (s.setQit b q).par = s.par := by unfold State.setQit; split <;> rfl
@[simp] theorem State.setQit_ir (s : State) (b : Bool) (q : Qit) :
    (s.setQit b q).ir = s.ir := by unfold State.setQit; split <;> rfl
@[simp] theorem State.setQit_pfx (s : State) (b : Bool) (q : Qit) :
    (s.setQit b q).pfx = s.pfx := by unfold State.setQit; split <;> rfl
@[simp] theorem State.setQit_draws (s : State) (b : Bool) (q : Qit) :
    (s.setQit b q).draws = s.draws := by unfold State.setQit; split <;> rfl

/-! ## The record of pages stored to, and what hardware writes of a page -/

@[simp] theorem State.notePage_regs (s : State) (va : Word) :
    (s.notePage va).regs = s.regs := by unfold State.notePage; dsimp only; split <;> rfl
@[simp] theorem State.notePage_ip (s : State) (va : Word) :
    (s.notePage va).ip = s.ip := by unfold State.notePage; dsimp only; split <;> rfl
@[simp] theorem State.notePage_sr (s : State) (va : Word) :
    (s.notePage va).sr = s.sr := by unfold State.notePage; dsimp only; split <;> rfl
@[simp] theorem State.notePage_csr (s : State) (va : Word) :
    (s.notePage va).csr = s.csr := by unfold State.notePage; dsimp only; split <;> rfl
@[simp] theorem State.notePage_exc (s : State) (va : Word) :
    (s.notePage va).exc = s.exc := by unfold State.notePage; dsimp only; split <;> rfl
@[simp] theorem State.notePage_atom (s : State) (va : Word) :
    (s.notePage va).atom = s.atom := by unfold State.notePage; dsimp only; split <;> rfl
@[simp] theorem State.notePage_mem (s : State) (va : Word) :
    (s.notePage va).mem = s.mem := by unfold State.notePage; dsimp only; split <;> rfl
@[simp] theorem State.notePage_tags (s : State) (va : Word) :
    (s.notePage va).tags = s.tags := by unfold State.notePage; dsimp only; split <;> rfl
@[simp] theorem State.notePage_stale (s : State) (va : Word) :
    (s.notePage va).stale = s.stale := by unfold State.notePage; dsimp only; split <;> rfl
@[simp] theorem State.notePage_errs (s : State) (va : Word) :
    (s.notePage va).errs = s.errs := by unfold State.notePage; dsimp only; split <;> rfl
@[simp] theorem State.notePage_cards (s : State) (va : Word) :
    (s.notePage va).cards = s.cards := by unfold State.notePage; dsimp only; split <;> rfl
@[simp] theorem State.notePage_tlb (s : State) (va : Word) :
    (s.notePage va).tlb = s.tlb := by unfold State.notePage; dsimp only; split <;> rfl
@[simp] theorem State.notePage_tlbCount (s : State) (va : Word) :
    (s.notePage va).tlbCount = s.tlbCount := by unfold State.notePage; dsimp only; split <;> rfl
@[simp] theorem State.notePage_ptw (s : State) (va : Word) :
    (s.notePage va).ptw = s.ptw := by unfold State.notePage; dsimp only; split <;> rfl
@[simp] theorem State.notePage_rgn (s : State) (va : Word) :
    (s.notePage va).rgn = s.rgn := by unfold State.notePage; dsimp only; split <;> rfl
@[simp] theorem State.notePage_qic (s : State) (va : Word) :
    (s.notePage va).qic = s.qic := by unfold State.notePage; dsimp only; split <;> rfl
@[simp] theorem State.notePage_qit1 (s : State) (va : Word) :
    (s.notePage va).qit1 = s.qit1 := by unfold State.notePage; dsimp only; split <;> rfl
@[simp] theorem State.notePage_qit2 (s : State) (va : Word) :
    (s.notePage va).qit2 = s.qit2 := by unfold State.notePage; dsimp only; split <;> rfl
@[simp] theorem State.notePage_cfg (s : State) (va : Word) :
    (s.notePage va).cfg = s.cfg := by unfold State.notePage; dsimp only; split <;> rfl
@[simp] theorem State.notePage_agenda (s : State) (va : Word) :
    (s.notePage va).agenda = s.agenda := by unfold State.notePage; dsimp only; split <;> rfl
@[simp] theorem State.notePage_par (s : State) (va : Word) :
    (s.notePage va).par = s.par := by unfold State.notePage; dsimp only; split <;> rfl
@[simp] theorem State.notePage_ir (s : State) (va : Word) :
    (s.notePage va).ir = s.ir := by unfold State.notePage; dsimp only; split <;> rfl
@[simp] theorem State.notePage_pfx (s : State) (va : Word) :
    (s.notePage va).pfx = s.pfx := by unfold State.notePage; dsimp only; split <;> rfl
@[simp] theorem State.notePage_draws (s : State) (va : Word) :
    (s.notePage va).draws = s.draws := by unfold State.notePage; dsimp only; split <;> rfl

@[simp] theorem State.noteStore_regs (s : State) (va : Word) (n : Nat) :
    (s.noteStore va n).regs = s.regs := by simp [State.noteStore]
@[simp] theorem State.noteStore_ip (s : State) (va : Word) (n : Nat) :
    (s.noteStore va n).ip = s.ip := by simp [State.noteStore]
@[simp] theorem State.noteStore_sr (s : State) (va : Word) (n : Nat) :
    (s.noteStore va n).sr = s.sr := by simp [State.noteStore]
@[simp] theorem State.noteStore_csr (s : State) (va : Word) (n : Nat) :
    (s.noteStore va n).csr = s.csr := by simp [State.noteStore]
@[simp] theorem State.noteStore_exc (s : State) (va : Word) (n : Nat) :
    (s.noteStore va n).exc = s.exc := by simp [State.noteStore]
@[simp] theorem State.noteStore_atom (s : State) (va : Word) (n : Nat) :
    (s.noteStore va n).atom = s.atom := by simp [State.noteStore]
@[simp] theorem State.noteStore_mem (s : State) (va : Word) (n : Nat) :
    (s.noteStore va n).mem = s.mem := by simp [State.noteStore]
@[simp] theorem State.noteStore_tags (s : State) (va : Word) (n : Nat) :
    (s.noteStore va n).tags = s.tags := by simp [State.noteStore]
@[simp] theorem State.noteStore_stale (s : State) (va : Word) (n : Nat) :
    (s.noteStore va n).stale = s.stale := by simp [State.noteStore]
@[simp] theorem State.noteStore_errs (s : State) (va : Word) (n : Nat) :
    (s.noteStore va n).errs = s.errs := by simp [State.noteStore]
@[simp] theorem State.noteStore_cards (s : State) (va : Word) (n : Nat) :
    (s.noteStore va n).cards = s.cards := by simp [State.noteStore]
@[simp] theorem State.noteStore_tlb (s : State) (va : Word) (n : Nat) :
    (s.noteStore va n).tlb = s.tlb := by simp [State.noteStore]
@[simp] theorem State.noteStore_tlbCount (s : State) (va : Word) (n : Nat) :
    (s.noteStore va n).tlbCount = s.tlbCount := by simp [State.noteStore]
@[simp] theorem State.noteStore_ptw (s : State) (va : Word) (n : Nat) :
    (s.noteStore va n).ptw = s.ptw := by simp [State.noteStore]
@[simp] theorem State.noteStore_rgn (s : State) (va : Word) (n : Nat) :
    (s.noteStore va n).rgn = s.rgn := by simp [State.noteStore]
@[simp] theorem State.noteStore_qic (s : State) (va : Word) (n : Nat) :
    (s.noteStore va n).qic = s.qic := by simp [State.noteStore]
@[simp] theorem State.noteStore_qit1 (s : State) (va : Word) (n : Nat) :
    (s.noteStore va n).qit1 = s.qit1 := by simp [State.noteStore]
@[simp] theorem State.noteStore_qit2 (s : State) (va : Word) (n : Nat) :
    (s.noteStore va n).qit2 = s.qit2 := by simp [State.noteStore]
@[simp] theorem State.noteStore_cfg (s : State) (va : Word) (n : Nat) :
    (s.noteStore va n).cfg = s.cfg := by simp [State.noteStore]
@[simp] theorem State.noteStore_agenda (s : State) (va : Word) (n : Nat) :
    (s.noteStore va n).agenda = s.agenda := by simp [State.noteStore]
@[simp] theorem State.noteStore_par (s : State) (va : Word) (n : Nat) :
    (s.noteStore va n).par = s.par := by simp [State.noteStore]
@[simp] theorem State.noteStore_ir (s : State) (va : Word) (n : Nat) :
    (s.noteStore va n).ir = s.ir := by simp [State.noteStore]
@[simp] theorem State.noteStore_pfx (s : State) (va : Word) (n : Nat) :
    (s.noteStore va n).pfx = s.pfx := by simp [State.noteStore]
@[simp] theorem State.noteStore_draws (s : State) (va : Word) (n : Nat) :
    (s.noteStore va n).draws = s.draws := by simp [State.noteStore]

@[simp] theorem State.setEntryBit_regs (s : State) (a : Option Nat) (o : Nat) (b : Byte) :
    (s.setEntryBit a o b).regs = s.regs := by unfold State.setEntryBit; split <;> [rfl; (split <;> rfl)]
@[simp] theorem State.setEntryBit_ip (s : State) (a : Option Nat) (o : Nat) (b : Byte) :
    (s.setEntryBit a o b).ip = s.ip := by unfold State.setEntryBit; split <;> [rfl; (split <;> rfl)]
@[simp] theorem State.setEntryBit_sr (s : State) (a : Option Nat) (o : Nat) (b : Byte) :
    (s.setEntryBit a o b).sr = s.sr := by unfold State.setEntryBit; split <;> [rfl; (split <;> rfl)]
@[simp] theorem State.setEntryBit_csr (s : State) (a : Option Nat) (o : Nat) (b : Byte) :
    (s.setEntryBit a o b).csr = s.csr := by unfold State.setEntryBit; split <;> [rfl; (split <;> rfl)]
@[simp] theorem State.setEntryBit_exc (s : State) (a : Option Nat) (o : Nat) (b : Byte) :
    (s.setEntryBit a o b).exc = s.exc := by unfold State.setEntryBit; split <;> [rfl; (split <;> rfl)]
@[simp] theorem State.setEntryBit_atom (s : State) (a : Option Nat) (o : Nat) (b : Byte) :
    (s.setEntryBit a o b).atom = s.atom := by unfold State.setEntryBit; split <;> [rfl; (split <;> rfl)]
@[simp] theorem State.setEntryBit_errs (s : State) (a : Option Nat) (o : Nat) (b : Byte) :
    (s.setEntryBit a o b).errs = s.errs := by unfold State.setEntryBit; split <;> [rfl; (split <;> rfl)]
@[simp] theorem State.setEntryBit_cards (s : State) (a : Option Nat) (o : Nat) (b : Byte) :
    (s.setEntryBit a o b).cards = s.cards := by unfold State.setEntryBit; split <;> [rfl; (split <;> rfl)]
@[simp] theorem State.setEntryBit_tlb (s : State) (a : Option Nat) (o : Nat) (b : Byte) :
    (s.setEntryBit a o b).tlb = s.tlb := by unfold State.setEntryBit; split <;> [rfl; (split <;> rfl)]
@[simp] theorem State.setEntryBit_tlbCount (s : State) (a : Option Nat) (o : Nat) (b : Byte) :
    (s.setEntryBit a o b).tlbCount = s.tlbCount := by unfold State.setEntryBit; split <;> [rfl; (split <;> rfl)]
@[simp] theorem State.setEntryBit_ptw (s : State) (a : Option Nat) (o : Nat) (b : Byte) :
    (s.setEntryBit a o b).ptw = s.ptw := by unfold State.setEntryBit; split <;> [rfl; (split <;> rfl)]
@[simp] theorem State.setEntryBit_rgn (s : State) (a : Option Nat) (o : Nat) (b : Byte) :
    (s.setEntryBit a o b).rgn = s.rgn := by unfold State.setEntryBit; split <;> [rfl; (split <;> rfl)]
@[simp] theorem State.setEntryBit_qic (s : State) (a : Option Nat) (o : Nat) (b : Byte) :
    (s.setEntryBit a o b).qic = s.qic := by unfold State.setEntryBit; split <;> [rfl; (split <;> rfl)]
@[simp] theorem State.setEntryBit_qit1 (s : State) (a : Option Nat) (o : Nat) (b : Byte) :
    (s.setEntryBit a o b).qit1 = s.qit1 := by unfold State.setEntryBit; split <;> [rfl; (split <;> rfl)]
@[simp] theorem State.setEntryBit_qit2 (s : State) (a : Option Nat) (o : Nat) (b : Byte) :
    (s.setEntryBit a o b).qit2 = s.qit2 := by unfold State.setEntryBit; split <;> [rfl; (split <;> rfl)]
@[simp] theorem State.setEntryBit_cfg (s : State) (a : Option Nat) (o : Nat) (b : Byte) :
    (s.setEntryBit a o b).cfg = s.cfg := by unfold State.setEntryBit; split <;> [rfl; (split <;> rfl)]
@[simp] theorem State.setEntryBit_agenda (s : State) (a : Option Nat) (o : Nat) (b : Byte) :
    (s.setEntryBit a o b).agenda = s.agenda := by unfold State.setEntryBit; split <;> [rfl; (split <;> rfl)]
@[simp] theorem State.setEntryBit_par (s : State) (a : Option Nat) (o : Nat) (b : Byte) :
    (s.setEntryBit a o b).par = s.par := by unfold State.setEntryBit; split <;> [rfl; (split <;> rfl)]
@[simp] theorem State.setEntryBit_ir (s : State) (a : Option Nat) (o : Nat) (b : Byte) :
    (s.setEntryBit a o b).ir = s.ir := by unfold State.setEntryBit; split <;> [rfl; (split <;> rfl)]
@[simp] theorem State.setEntryBit_pfx (s : State) (a : Option Nat) (o : Nat) (b : Byte) :
    (s.setEntryBit a o b).pfx = s.pfx := by unfold State.setEntryBit; split <;> [rfl; (split <;> rfl)]
@[simp] theorem State.setEntryBit_draws (s : State) (a : Option Nat) (o : Nat) (b : Byte) :
    (s.setEntryBit a o b).draws = s.draws := by unfold State.setEntryBit; split <;> [rfl; (split <;> rfl)]
@[simp] theorem State.setEntryBit_dirty (s : State) (a : Option Nat) (o : Nat) (b : Byte) :
    (s.setEntryBit a o b).dirty = s.dirty := by unfold State.setEntryBit; split <;> [rfl; (split <;> rfl)]

/-! ## Reading registers after an update -/

@[simp] theorem State.advance_gprPhys (s : State) (n : Nat) (i : BitVec 6) : (s.advance n).gprPhys i = s.gprPhys i := rfl
@[simp] theorem State.advance_tagPhys (s : State) (n : Nat) (i : BitVec 6) : (s.advance n).tagPhys i = s.tagPhys i := rfl
@[simp] theorem State.advance_gpr (s : State) (n : Nat) (i : BitVec 6) : (s.advance n).gpr i = s.gpr i := rfl
@[simp] theorem State.goto_gprPhys (s : State) (t : Word) (i : BitVec 6) : (s.goto t).gprPhys i = s.gprPhys i := rfl
@[simp] theorem State.goto_tagPhys (s : State) (t : Word) (i : BitVec 6) : (s.goto t).tagPhys i = s.tagPhys i := rfl
@[simp] theorem State.goto_gpr (s : State) (t : Word) (i : BitVec 6) : (s.goto t).gpr i = s.gpr i := rfl
@[simp] theorem State.setPhys_physical (s : State) (i : BitVec 6) (v : Word) (b : Bool) (r : BitVec 6) :
    (s.setPhys i v b).physical r = s.physical r := by simp [State.physical, State.mode]

/-- x[0] reads zero in every state (spec/10_state.md R21). -/
@[simp] theorem State.gprPhys_zero (s : State) : s.gprPhys 0#6 = 0#64 := rfl
@[simp] theorem State.tagPhys_zero (s : State) : s.tagPhys 0#6 = false := rfl

/-- A write to x[0] is discarded (R21). -/
@[simp] theorem State.setPhys_zero (s : State) (v : Word) (b : Bool) : s.setPhys 0#6 v b = s := rfl

/-- A register other than x[0] reads what was written. -/
theorem State.gprPhys_setPhys_self (s : State) (i : BitVec 6) (v : Word) (b : Bool) (h : i ≠ 0#6) :
    (s.setPhys i v b).gprPhys i = v := by
  simp [State.gprPhys, State.setPhys, h]

theorem State.tagPhys_setPhys_self (s : State) (i : BitVec 6) (v : Word) (b : Bool) (h : i ≠ 0#6) :
    (s.setPhys i v b).tagPhys i = b := by
  simp [State.tagPhys, State.setPhys, h]

/-- The other registers are as before. -/
theorem State.gprPhys_setPhys_other (s : State) (i j : BitVec 6) (v : Word) (b : Bool) (h : j ≠ i) :
    (s.setPhys i v b).gprPhys j = s.gprPhys j := by
  unfold State.setPhys
  split
  · rfl
  · have hn : i.toNat ≠ j.toNat := fun e => h (BitVec.eq_of_toNat_eq e.symm)
    simp [State.gprPhys, hn]

theorem State.tagPhys_setPhys_other (s : State) (i j : BitVec 6) (v : Word) (b : Bool) (h : j ≠ i) :
    (s.setPhys i v b).tagPhys j = s.tagPhys j := by
  unfold State.setPhys
  split
  · rfl
  · have hn : i.toNat ≠ j.toNat := fun e => h (BitVec.eq_of_toNat_eq e.symm)
    simp [State.tagPhys, hn]

/-! ## What an exception and a return leave in the fields they write (spec/60_exceptions.md R910) -/

@[simp] theorem trapEntry_exc (t : Trap) (s : State) : (trapEntry t s).exc = s.exc.push s.sr (t.eip.getD s.ip) := rfl
@[simp] theorem trapEntry_atom (t : Trap) (s : State) : (trapEntry t s).atom = [] := rfl
@[simp] theorem trapEntry_ip (t : Trap) (s : State) : (trapEntry t s).ip = s.vectorEntry t.cause := rfl
@[simp] theorem exceptionReturn_exc (n : BitVec 4) (s : State) : (exceptionReturn n s).exc = s.exc.pop := rfl
@[simp] theorem exceptionReturn_sr (n : BitVec 4) (s : State) : (exceptionReturn n s).sr = s.exc.sr[0] &&& srDefined := rfl
@[simp] theorem exceptionReturn_ip (n : BitVec 4) (s : State) :
    (exceptionReturn n s).ip = s.exc.eip[0] + 3#64 * n.setWidth 64 := rfl

/-- An exception leaves the machine in machine mode (R910). -/
theorem srMode_srEnter (sr : BitVec 32) (ipl : BitVec 6) : srMode (srEnter sr ipl) = 3#2 := by
  apply BitVec.eq_of_getLsbD_eq
  intro i hi
  rcases (show i = 0 ∨ i = 1 by omega) with rfl | rfl <;> simp [srMode, srEnter]

theorem trapEntry_mode (t : Trap) (s : State) : (trapEntry t s).mode = 3#2 := by
  simp only [State.mode, trapEntry, srMode_srEnter]

/-- The mask level after an exception (spec/60_exceptions.md R912). -/
theorem srIpl_srEnter (sr : BitVec 32) (ipl : BitVec 6) : srIpl (srEnter sr ipl) = ipl := by
  apply BitVec.eq_of_getLsbD_eq
  intro i hi
  rcases (show i = 0 ∨ i = 1 ∨ i = 2 ∨ i = 3 ∨ i = 4 ∨ i = 5 by omega) with rfl | rfl | rfl | rfl | rfl | rfl <;>
    simp [srIpl, srEnter]

end Sys2Proof.Machine
end

