-- ==== Sys2Proof/Laws/Ops.lean ====
section
/-! SUPPORT. What each shared operation answers, once for each: the outcome of a part of a step, operands and targets, the end of
an instruction, the operand forms. -/

namespace Sys2Proof.Machine

/-! ## Outcomes -/

@[simp] theorem Res.bind_ok {α β : Type} (a : α) (s : State) (f : α → State → Res β) : (Res.ok a s).bind f = f a s := rfl
@[simp] theorem Res.bind_trap {α β : Type} (t : Trap) (s : State) (f : α → State → Res β) :
    (Res.trap t s : Res α).bind f = .trap t s := rfl
@[simp] theorem Res.bind_stop {α β : Type} (r : Refusal) (f : α → State → Res β) :
    (Res.stop r : Res α).bind f = .stop r := rfl
@[simp] theorem Res.finish_ok (s : State) : (Res.ok () s).finish = .next s := rfl
@[simp] theorem Res.finish_trap (t : Trap) (s : State) : (Res.trap t s : Res Unit).finish = .next (trapEntry t s) := rfl
@[simp] theorem Res.finish_stop (r : Refusal) : (Res.stop r : Res Unit).finish = .refused r := rfl

/-- A part of a step that goes on came from one that did. -/
theorem Res.bind_eq_ok {α β : Type} {x : Res α} {f : α → State → Res β} {b : β} {t : State}
    (h : x.bind f = .ok b t) : ∃ a s, x = .ok a s ∧ f a s = .ok b t := by
  cases x with
  | ok a s => exact ⟨a, s, rfl, h⟩
  | trap t s => cases h
  | stop r => cases h

theorem Res.bind_assoc {α β γ : Type} (x : Res α) (f : α → State → Res β) (g : β → State → Res γ) :
    (x.bind f).bind g = x.bind fun a s => (f a s).bind g := by cases x <;> rfl

/-! ## Conditions -/

@[simp] theorem require_true (r : Refusal) (s : State) : require true r s = .ok () s := rfl
@[simp] theorem require_false (r : Refusal) (s : State) : require false r s = .stop r := rfl
@[simp] theorem requireDefined_true (s : State) : requireDefined true s = .ok () s := rfl
@[simp] theorem requireDefined_false (s : State) : requireDefined false s = raiseUnimplemented s := rfl
@[simp] theorem requireCapability_true (s : State) : requireCapability true s = .ok () s := rfl

/-! ## Operands and targets (spec/10_state.md R24) -/

/-- All that reading an operand can do. -/
theorem operand_eq (slot : Slot) (r : BitVec 6) (s : State) :
    operand slot r s = if s.readable slot r = true then .ok (s.value slot r) s else raisePrivilege s := by
  unfold operand State.readable State.value
  cases s.constant slot r <;> simp

theorem operand_ok {slot : Slot} {r : BitVec 6} {s : State} (h : s.readable slot r = true) :
    operand slot r s = .ok (s.value slot r) s := by rw [operand_eq, if_pos h]

theorem operand_bad {slot : Slot} {r : BitVec 6} {s : State} (h : s.readable slot r = false) :
    operand slot r s = raisePrivilege s := by rw [operand_eq, h]; rfl

theorem target_ok {r : BitVec 6} {s : State} (h : s.writable r = true) : target r s = .ok () s := by
  unfold State.writable at h
  simp only [Bool.and_eq_true, Option.isNone_iff_eq_none] at h
  simp [target, h]

theorem capOperand_ok {slot : Slot} {r : BitVec 6} {s : State} (h : s.readable slot r = true) :
    capOperand slot r s = .ok ⟨s.value slot r, (s.constant slot r).isNone && s.gprTag r⟩ s := by
  simp [capOperand, operand_ok h]

/-- Without a following constant an operand is its register. -/
theorem State.value_of_no_pfx {s : State} (h : s.pfx = none) (slot : Slot) (r : BitVec 6) : s.value slot r = s.gpr r := by
  simp [State.value, State.constant, h]

/-! ## The end of an instruction -/

theorem State.sameButRegs_refl (s : State) : s.sameButRegs s := by simp [State.sameButRegs]

/-- No register field names x[0] but 0. -/
theorem State.physical_eq_zero (s : State) (r : BitVec 6) : s.physical r = 0#6 ↔ r = 0#6 := by
  unfold State.physical
  split
  · rename_i h
    simp only [beq_iff_eq] at h
    subst h
    generalize s.mode = m
    revert m
    decide
  · rfl

theorem State.holds_setPhys (s : State) (rt : BitVec 6) (v : Word) (tag : Bool) :
    s.holds (s.setPhys (s.physical rt) v tag) rt v tag := by
  unfold State.holds
  by_cases h : rt = 0#6
  · have h0 := (s.physical_eq_zero rt).2 h
    rw [h0, if_pos h, if_pos h]
    exact ⟨rfl, rfl⟩
  · have hp : s.physical rt ≠ 0#6 := fun e => h ((s.physical_eq_zero rt).1 e)
    simp [h, State.gprPhys_setPhys_self _ _ _ _ hp, State.tagPhys_setPhys_self _ _ _ _ hp]

theorem State.sameRegsBut_setPhys (s : State) (rt : BitVec 6) (v : Word) (tag : Bool) :
    s.sameRegsBut (s.setPhys (s.physical rt) v tag) rt := fun _ hi =>
  ⟨State.gprPhys_setPhys_other _ _ _ _ _ hi, State.tagPhys_setPhys_other _ _ _ _ _ hi⟩

theorem State.sameButRegs_setPhys (s : State) (i : BitVec 6) (v : Word) (tag : Bool) :
    s.sameButRegs (s.setPhys i v tag) := by simp [State.sameButRegs]

/-- Writing a target and moving on is what `State.wrote` says. -/
theorem State.wrote_setGpr (s : State) (rt : BitVec 6) (v : Word) (len : Nat) :
    s.wrote ((s.setGpr rt v).advance len) rt v len :=
  ⟨s.holds_setPhys rt v false, s.sameRegsBut_setPhys rt v false, s.sameButRegs_setPhys _ v false, by
    simp [State.nextIp]⟩

theorem State.wentTo_goto (s : State) (a : Word) : s.wentTo (s.goto a) a := ⟨rfl, s.sameButRegs_refl, rfl⟩
theorem State.wentTo_advance (s : State) (len : Nat) : s.wentTo (s.advance len) (s.nextIp len) :=
  ⟨rfl, s.sameButRegs_refl, rfl⟩

/-- An instruction that ends by writing its target. -/
theorem finishWrite_wrote (rt : BitVec 6) (len : Nat) (v : Word) (s : State) :
    ∃ t, (finishWrite rt len v s).finish = .next t ∧ s.wrote t rt v len := ⟨_, rfl, s.wrote_setGpr rt v len⟩

/-! ## Exceptions (spec/60_exceptions.md R910) -/

/-- Taking an exception is what `State.tookException` says. -/
theorem tookException_trapEntry (t : Trap) (s : State) :
    s.tookException (trapEntry t s) t.cause (t.eip.getD s.ip) := by
  refine ⟨rfl, rfl, rfl, trapEntry_mode t s, ?_, ?_, rfl, rfl, rfl, rfl, rfl, rfl, rfl, rfl, rfl, rfl, rfl, rfl,
    rfl, rfl, rfl, rfl, rfl, rfl⟩
  · show (((s.csr.onTrap t _ s.ir).cause[3]).setWidth 8) = t.cause
    simp only [Csrs.onTrap, Vector.getElem_set_self]
    apply BitVec.eq_of_getLsbD_eq
    intro i hi
    rw [BitVec.getLsbD_setWidth, BitVec.getLsbD_append]
    simp [hi]
  · intro h
    simp [trapEntry, srIpl_srEnter, h]

/-- A register or control register that the mode may not name raises Privilege Violation (spec/10_state.md R24). -/
theorem raisePrivilege_took {α : Type} (s : State) (f : α → State → Res Unit) :
    ∃ t, ((raisePrivilege s : Res α).bind f).finish = .next t ∧ s.tookException t 5#8 s.ip :=
  ⟨_, rfl, tookException_trapEntry (Trap.plain 5#8) s⟩

/-- A reserved encoding raises Unimplemented Instruction (spec/30_encoding.md R260). -/
theorem raiseUnimplemented_took (s : State) :
    ∃ t, (raiseUnimplemented s : Res Unit).finish = .next t ∧ s.tookException t 4#8 s.ip :=
  ⟨_, rfl, tookException_trapEntry (Trap.plain 4#8) s⟩

/-! ## The operand forms -/

/-- The register form, where its registers can be used. -/
theorem lanes3_ok {f : R3} {s : State} (g : LaneFn) (h : s.ready3 f = true) :
    lanes3 f g s = finishWrite f.rt 6
      (mapLanes f.prec g (s.value .a f.ra) (s.value .b f.rb) (s.value .c f.rc) (s.free slotResult)) s := by
  simp only [State.ready3, Bool.and_eq_true] at h
  obtain ⟨⟨⟨ha, hb⟩, hc⟩, ht⟩ := h
  simp [lanes3, operand_ok ha, operand_ok hb, operand_ok hc, target_ok ht]

/-- The one-operand form. -/
theorem lanes1_ok {f : R1} {s : State} (g : (w : Nat) → BitVec w → BitVec w) (ha : s.readable .a f.ra = true)
    (ht : s.writable f.rt = true) :
    lanes1 f g s = finishWrite f.rt 6
      (mapLanes f.prec (fun w a _ _ _ => g w a) (s.value .a f.ra) 0#64 0#64 0#64) s := by
  simp [lanes1, operand_ok ha, target_ok ht]

/-- The register-immediate form. -/
theorem lanesImm_ok {v : ImmView} {s : State} (imm : Word) (g : (w : Nat) → BitVec w → BitVec w → BitVec w → BitVec w)
    (ha : s.readable .a v.ra = true) (ht : s.writable v.rt = true) :
    lanesImm v imm g s = finishWrite v.rt v.len
      (mapLanes v.prec (fun w a _ _ u => g w a (imm.setWidth w) u) (s.value .a v.ra) 0#64 0#64 (s.free slotResult)) s := by
  simp [lanesImm, operand_ok ha, target_ok ht]

/-- The scaled indexed address. -/
theorem indexed_ok {f : LS} {s : State} (h : s.readyAddr f = true) : indexed f s = .ok (s.address f) s := by
  simp only [State.readyAddr, Bool.and_eq_true] at h
  simp [indexed, operand_ok h.1, operand_ok h.2, State.address]

end Sys2Proof.Machine
end

