-- ==== Sys2Proof/Laws/Sparse.lean ====
section
/-! SUPPORT. Sparse tables: reading after writing, and the canonical form under every operation; memory is one of them. -/

namespace Sys2Proof.Machine

variable {w : Nat}

/-- What a table whose first number is above `k` reads at `k`. -/
theorem Sparse.get_of_above (k : Nat) (m : Sparse w) (hw : Sparse.wf m = true) (h : Sparse.above k m = true) :
    Sparse.get m k = 0 := by
  induction m with
  | nil => rfl
  | cons e rest ih =>
    obtain ⟨i, v⟩ := e
    simp only [Sparse.above, decide_eq_true_eq] at h
    simp only [Sparse.wf, Bool.and_eq_true] at hw
    have hi : (k == i) = false := by simp; omega
    simp only [Sparse.get, hi]
    apply ih hw.2
    cases rest with
    | nil => rfl
    | cons e' rest' =>
      obtain ⟨j, u⟩ := e'
      simp only [Sparse.above, decide_eq_true_eq] at hw ⊢
      omega

/-- A table above a number is above a smaller one. -/
theorem Sparse.above_le {k j : Nat} (m : Sparse w) (h : Sparse.above k m = true) (hj : j ≤ k) :
    Sparse.above j m = true := by
  cases m with
  | nil => rfl
  | cons e rest => obtain ⟨i, v⟩ := e; simp only [Sparse.above, decide_eq_true_eq] at h ⊢; omega

theorem Sparse.wf_put (i : Nat) (v : BitVec w) (m : Sparse w) (hw : Sparse.wf m = true) (h : Sparse.above i m = true) :
    Sparse.wf (Sparse.put i v m) = true := by
  unfold Sparse.put
  split
  · exact hw
  · simp_all [Sparse.wf]

theorem Sparse.get_put (i j : Nat) (v : BitVec w) (m : Sparse w) (hw : Sparse.wf m = true)
    (h : Sparse.above i m = true) : Sparse.get (Sparse.put i v m) j = if j = i then v else Sparse.get m j := by
  unfold Sparse.put
  split
  · rename_i hv
    split
    · rename_i hj; subst hj; rw [Sparse.get_of_above _ _ hw h]; simp_all
    · rfl
  · simp [Sparse.get]

theorem Sparse.above_put {k : Nat} (i : Nat) (v : BitVec w) (m : Sparse w) (hk : k < i) (h : Sparse.above k m = true) :
    Sparse.above k (Sparse.put i v m) = true := by
  unfold Sparse.put
  split
  · exact h
  · simpa [Sparse.above] using hk

theorem Sparse.above_set {k : Nat} (m : Sparse w) (i : Nat) (v : BitVec w) (hk : k < i) (h : Sparse.above k m = true)
    (hw : Sparse.wf m = true) : Sparse.above k (Sparse.set m i v) = true := by
  cases m with
  | nil => exact Sparse.above_put i v [] hk rfl
  | cons e rest =>
    obtain ⟨j, u⟩ := e
    simp only [Sparse.wf, Bool.and_eq_true] at hw
    simp only [Sparse.set]
    split
    · exact Sparse.above_put i v _ hk h
    · split
      · rename_i _ hj
        apply Sparse.above_put i v _ hk
        simp only [beq_iff_eq] at hj
        exact Sparse.above_le _ hw.1.2 (by omega)
      · simpa [Sparse.above] using h

/-- A write keeps the canonical form. -/
theorem Sparse.wf_set (m : Sparse w) (i : Nat) (v : BitVec w) (hw : Sparse.wf m = true) :
    Sparse.wf (Sparse.set m i v) = true := by
  induction m with
  | nil => exact Sparse.wf_put i v [] rfl rfl
  | cons e rest ih =>
    obtain ⟨j, u⟩ := e
    have hw' := hw
    simp only [Sparse.wf, Bool.and_eq_true] at hw'
    simp only [Sparse.set]
    split
    · rename_i h; exact Sparse.wf_put i v _ hw (by simpa [Sparse.above] using h)
    · split
      · rename_i _ h
        simp only [beq_iff_eq] at h
        exact Sparse.wf_put i v _ hw'.2 (h ▸ hw'.1.2)
      · rename_i h1 h2
        simp only [beq_iff_eq] at h2
        simp only [Sparse.wf, Bool.and_eq_true]
        exact ⟨⟨hw'.1.1, Sparse.above_set _ _ _ (by omega) hw'.1.2 hw'.2⟩, ih hw'.2⟩

/-- Reading after writing. -/
theorem Sparse.get_set (m : Sparse w) (i j : Nat) (v : BitVec w) (hw : Sparse.wf m = true) :
    Sparse.get (Sparse.set m i v) j = if j = i then v else Sparse.get m j := by
  induction m with
  | nil => exact Sparse.get_put i j v [] rfl rfl
  | cons e rest ih =>
    obtain ⟨k, u⟩ := e
    have hw' := hw
    simp only [Sparse.wf, Bool.and_eq_true] at hw'
    simp only [Sparse.set]
    split
    · rename_i h; exact Sparse.get_put i j v _ hw (by simpa [Sparse.above] using h)
    · split
      · rename_i _ h
        simp only [beq_iff_eq] at h
        subst h
        rw [Sparse.get_put _ _ _ _ hw'.2 hw'.1.2]
        simp only [Sparse.get, beq_iff_eq]
        split <;> rfl
      · rename_i h1 h2
        simp only [beq_iff_eq] at h2
        simp only [Sparse.get, ih hw'.2]
        split
        · rename_i h3; simp only [beq_iff_eq] at h3; rw [if_neg (by omega)]
        · rfl

/-- Dropping entries keeps the canonical form. -/
theorem Sparse.wf_filter (p : Nat × BitVec w → Bool) (m : Sparse w) (hw : Sparse.wf m = true) :
    Sparse.wf (m.filter p) = true ∧ ∀ k, Sparse.above k m = true → Sparse.above k (m.filter p) = true := by
  induction m with
  | nil => exact ⟨rfl, fun _ h => h⟩
  | cons e rest ih =>
    obtain ⟨i, v⟩ := e
    simp only [Sparse.wf, Bool.and_eq_true] at hw
    obtain ⟨h1, h2⟩ := ih hw.2
    simp only [List.filter_cons]
    split
    · refine ⟨by simp only [Sparse.wf, Bool.and_eq_true]; exact ⟨⟨hw.1.1, h2 i hw.1.2⟩, h1⟩, fun k h => by
        simpa [Sparse.above] using h⟩
    · refine ⟨h1, fun k h => h2 k ?_⟩
      simp only [Sparse.above, decide_eq_true_eq] at h
      exact Sparse.above_le _ hw.1.2 (by omega)

/-! ## Memory -/

/-- A store keeps the canonical form of memory. -/
theorem Memory.wf_setByte (m : Memory) (pa : Nat) (b : Byte) (hw : Memory.wf m = true) :
    Memory.wf (m.setByte pa b) = true := Sparse.wf_set m pa b hw

/-- A byte reads what was stored to it, and every other byte what it read before. -/
theorem Memory.byte_setByte (m : Memory) (pa a : Nat) (b : Byte) (hw : Memory.wf m = true) :
    (m.setByte pa b).byte a = if a = pa then b else m.byte a := Sparse.get_set m pa a b hw

end Sys2Proof.Machine
end

