-- ==== Sys2Proof/Laws/Access.lean ====
section
/-! SUPPORT. Accesses that succeed: what a load reads and what a store writes where the page is in the TLB with its rights. -/

namespace Sys2Proof.Machine

/-- What `State.canAccess` says, one fact at a time. -/
theorem canAccess_iff {s : State} {acc : Access} {va : Word} {n : Nat} {e : TlbEntry} :
    s.canAccess acc va n e = true ↔
      s.tlbFind (vpnOf va) = some e ∧ e.pmtValid = true ∧ s.permits acc e = true ∧ s.granular acc e va n = true ∧
        isAligned va n = true ∧
        ∀ k, k < n → s.port (va + BitVec.ofNat 64 k) (e.physAddr va + k) = .memory := by
  simp only [State.canAccess, Bool.and_eq_true, beq_iff_eq, List.all_eq_true, List.mem_range, and_assoc]

/-- Translation through an entry of the TLB. -/
theorem translate_of_canAccess {s : State} {acc : Access} {va : Word} {n : Nat} {e : TlbEntry}
    (h : s.canAccess acc va n e = true) : translate acc n va va s = .ok (e.physAddr va) s := by
  obtain ⟨hf, hv, hp, hg, _, _⟩ := canAccess_iff.1 h
  simp [translate, lookup, hf, loadRights, hv, hp, hg, TlbEntry.physAddr]

/-- An aligned access lies in one page. -/
theorem pageCut_of_aligned {va : Word} {n : Nat} (hn : n = 1 ∨ n = 2 ∨ n = 4 ∨ n = 8) (h : isAligned va n = true) :
    pageCut va n = n := by
  simp only [isAligned, beq_iff_eq] at h
  unfold pageCut
  rcases hn with rfl | rfl | rfl | rfl <;> omega

/-- The bytes of an access that memory answers raise no Bus Error. -/
theorem busCheck_of_memory {s : State} {acc : Access} {va : Word} {base first count : Nat}
    (h : ∀ k, k < count → s.port (va + BitVec.ofNat 64 (first + k)) (base + k) = .memory) :
    busCheck acc va base first count s = .ok () s := by
  unfold busCheck
  rw [List.find?_eq_none.2]
  intro k hk
  rw [h k (List.mem_range.1 hk)]
  simp

/-- Where an access that succeeds goes. -/
theorem spanOf_of_canAccess {s : State} {acc : Access} {va : Word} {n : Nat} {e : TlbEntry}
    (hn : n = 1 ∨ n = 2 ∨ n = 4 ∨ n = 8) (h : s.canAccess acc va n e = true) :
    spanOf acc n va n s = .ok ⟨e.physAddr va, n, 0⟩ s := by
  obtain ⟨_, _, _, _, ha, hm⟩ := canAccess_iff.1 h
  have hc := pageCut_of_aligned hn ha
  simp only [spanOf, hc, translate_of_canAccess h, Res.bind_ok]
  rw [busCheck_of_memory (by simpa using hm)]
  simp

theorem portOf_of_canAccess {s : State} {acc : Access} {va : Word} {n : Nat} {e : TlbEntry}
    (h : s.canAccess acc va n e = true) {k : Nat} (hk : k < n) :
    s.portOf va ⟨e.physAddr va, n, 0⟩ k = .memory := by
  simpa [State.portOf, Span.addr, hk] using (canAccess_iff.1 h).2.2.2.2.2 k hk

theorem touchesDevice_of_canAccess {s : State} {acc : Access} {va : Word} {n : Nat} {e : TlbEntry}
    (h : s.canAccess acc va n e = true) : s.touchesDevice va ⟨e.physAddr va, n, 0⟩ n = false := by
  simp only [State.touchesDevice, List.any_eq_false, List.mem_range]
  intro k hk
  simp [portOf_of_canAccess h hk]

/-- The value of bytes at addresses that agree. -/
theorem value_congr (m : Memory) {f g : Nat → Nat} (n : Nat) (h : ∀ k, k < n → f k = g k) :
    m.value f n = m.value g n := by
  induction n with
  | zero => rfl
  | succ n ih => simp only [Memory.value]; rw [ih fun k hk => h k (by omega), h n (by omega)]

/-- A load that succeeds reads the bytes of memory and changes nothing. -/
theorem load_of_canAccess {s : State} {va : Word} {n : Nat} {e : TlbEntry} (hn : n = 1 ∨ n = 2 ∨ n = 4 ∨ n = 8)
    (h : s.canAccess .read va n e = true) : load va n s = .ok (s.bytes (e.physAddr va) n) s := by
  have ha := (canAccess_iff.1 h).2.2.2.2.1
  simp only [load, alignCheck, ha, if_pos, Res.bind_ok, spanOf_of_canAccess hn h, touchesDevice_of_canAccess h]
  simp only [State.bytes, Bool.false_eq_true, if_false]
  rw [value_congr (g := (e.physAddr va + ·)) s.mem n]
  intro k hk
  simp [Span.addr, hk]

/-- Which pages a store is noted for depends on the TLB alone. -/
theorem State.noteStore_dirty_congr {s t : State} (va : Word) (n : Nat) (h1 : t.tlb = s.tlb) (h2 : t.tlbCount = s.tlbCount)
    (h3 : t.csr = s.csr) (h4 : t.dirty = s.dirty) : (t.noteStore va n).dirty = (s.noteStore va n).dirty := by
  have key : ∀ (u v : State) (a : Word), u.tlb = v.tlb → u.tlbCount = v.tlbCount → u.csr = v.csr → u.dirty = v.dirty →
      (u.notePage a).dirty = (v.notePage a).dirty := by
    intro u v a g1 g2 g3 g4
    have hu : u.pageUse a = v.pageUse a := by simp [State.pageUse, State.tlbFind, g1, g2, g3]
    unfold State.notePage
    simp only [hu, g4]
    split <;> simp [g4]
  unfold State.noteStore
  exact key _ _ _ (by simpa using h1) (by simpa using h2) (by simpa using h3) (key _ _ _ h1 h2 h3 h4)

/-- A store that succeeds stores its bytes in memory. -/
theorem storeAt_of_canAccess {s : State} {va : Word} {n : Nat} {e : TlbEntry} (hn : n = 1 ∨ n = 2 ∨ n = 4 ∨ n = 8)
    (h : s.canAccess .write va n e = true) (v : Word) :
    storeAt va n v s = .ok ⟨e.physAddr va, n, 0⟩ ((storeBytes s va ⟨e.physAddr va, n, 0⟩ v n).noteStore va n) := by
  have ha := (canAccess_iff.1 h).2.2.2.2.1
  simp only [storeAt, alignCheck, ha, if_pos, Res.bind_ok, spanOf_of_canAccess hn h, touchesDevice_of_canAccess h]
  simp

/-- What storing `m` bytes that memory answers leaves in memory, tags and stale bytes. -/
theorem storeBytes_effect {s : State} {va : Word} {pa n : Nat} (v : Word) (hmem : Memory.wf s.mem = true)
    (htag : Sparse.wf s.tags = true) (hst : Sparse.wf s.stale = true)
    (hp : ∀ k, k < n → s.portOf va ⟨pa, n, 0⟩ k = .memory) :
    ∀ m, m ≤ n →
      let t := storeBytes s va ⟨pa, n, 0⟩ v m
      Memory.wf t.mem = true ∧ Sparse.wf t.tags = true ∧ Sparse.wf t.stale = true ∧
      (∀ a, t.mem.byte a = if pa ≤ a ∧ a < pa + m then v.extractLsb' (8 * (a - pa)) 8 else s.mem.byte a) ∧
      (∀ g, Sparse.get t.tags g = if ∃ k, k < m ∧ (pa + k) / 8 = g then 0#1 else Sparse.get s.tags g) ∧
      (∀ a, Sparse.get t.stale a = if pa ≤ a ∧ a < pa + m then 1#1 else Sparse.get s.stale a) := by
  intro m
  induction m with
  | zero =>
    intro _
    refine ⟨hmem, htag, hst, fun a => ?_, fun g => ?_, fun a => ?_⟩
    · rw [if_neg (by omega)]; rfl
    · rw [if_neg (by rintro ⟨k, hk, _⟩; omega)]; rfl
    · rw [if_neg (by omega)]; rfl
  | succ m ih =>
    intro hm
    obtain ⟨h1, h2, h3, h4, h5, h6⟩ := ih (by omega)
    have hport := hp m (by omega)
    simp only [storeBytes, hport, beq_self_eq_true, if_true]
    have haddr : Span.addr ⟨pa, n, 0⟩ m = pa + m := by simp [Span.addr, show m < n by omega]
    simp only [haddr, State.storeByte]
    refine ⟨Memory.wf_setByte _ _ _ h1, Sparse.wf_set _ _ _ h2, Sparse.wf_set _ _ _ h3, fun a => ?_, fun g => ?_,
      fun a => ?_⟩
    · rw [Memory.byte_setByte _ _ _ _ h1, h4]
      by_cases e : a = pa + m
      · subst e
        rw [if_pos rfl, if_pos (by omega)]
        congr 2; omega
      · rw [if_neg e]
        by_cases e2 : pa ≤ a ∧ a < pa + m
        · rw [if_pos e2, if_pos (by omega)]
        · rw [if_neg e2, if_neg (by omega)]
    · rw [Sparse.get_set _ _ _ _ h2, h5]
      by_cases e : g = (pa + m) / 8
      · rw [if_pos e, if_pos ⟨m, by omega, e.symm⟩]
      · rw [if_neg e]
        by_cases e2 : ∃ k, k < m ∧ (pa + k) / 8 = g
        · obtain ⟨k, hk, hg⟩ := e2
          rw [if_pos ⟨k, hk, hg⟩, if_pos ⟨k, by omega, hg⟩]
        · rw [if_neg e2, if_neg]
          rintro ⟨k, hk, hg⟩
          rcases Nat.lt_succ_iff_lt_or_eq.1 hk with h | h
          · exact e2 ⟨k, h, hg⟩
          · subst h; exact e hg.symm
    · rw [Sparse.get_set _ _ _ _ h3, h6]
      by_cases e : a = pa + m
      · subst e; rw [if_pos rfl, if_pos (by omega)]
      · rw [if_neg e]
        by_cases e2 : pa ≤ a ∧ a < pa + m
        · rw [if_pos e2, if_pos (by omega)]
        · rw [if_neg e2, if_neg (by omega)]

/-- The granules of some bytes lie between that of the first and that of the last. -/
theorem granules_of_bytes {pa n g : Nat} (hn : 0 < n) :
    (∃ k, k < n ∧ (pa + k) / 8 = g) ↔ pa / 8 ≤ g ∧ g ≤ (pa + n - 1) / 8 := by
  constructor
  · rintro ⟨k, hk, rfl⟩
    exact ⟨Nat.div_le_div_right (by omega), Nat.div_le_div_right (by omega)⟩
  · rintro ⟨h1, h2⟩
    by_cases h : pa / 8 = g
    · exact ⟨0, hn, by simpa using h⟩
    · exact ⟨8 * g - pa, by omega, by omega⟩

/-- A store that succeeds, up to the end of its instruction, is what `State.stored` says. -/
theorem stored_of_canAccess {s : State} {va : Word} {n : Nat} {e : TlbEntry} (hi : s.Inv) (hn : 0 < n)
    (h : s.canAccess .write va n e = true) (v : Word) (len : Nat) :
    s.stored (((storeBytes s va ⟨e.physAddr va, n, 0⟩ v n).noteStore va n).advance len) va (e.physAddr va) n v len := by
  obtain ⟨_, _, _, h4, h5, h6⟩ := storeBytes_effect v hi.mem hi.tags hi.stale
    (fun k hk => portOf_of_canAccess h hk) n (Nat.le_refl n)
  refine ⟨fun k hk => ?_, fun a ha => ?_, fun g => ?_, fun a => ?_, ?_⟩
  · rw [State.advance_mem, State.noteStore_mem, h4, if_pos (by omega)]
    congr 2; omega
  · rw [State.advance_mem, State.noteStore_mem, h4, if_neg (by omega)]
  · rw [State.advance_tags, State.noteStore_tags, h5]
    simp only [granules_of_bytes hn]
  · rw [State.advance_stale, State.noteStore_stale, h6]
  · have hd := State.noteStore_dirty_congr (s := s) (t := storeBytes s va ⟨e.physAddr va, n, 0⟩ v n) va n (by simp) (by simp)
      (by simp) (by simp)
    simp [State.nextIp, hd]

/-- Storing bytes changes memory, the tags and the record of stale bytes, and nothing else. -/
theorem storeBytes_frame (s : State) (va : Word) (sp : Span) (v : Word) (n : Nat) :
    ∃ m tg st, storeBytes s va sp v n = { s with mem := m, tags := tg, stale := st } := by
  induction n with
  | zero => exact ⟨s.mem, s.tags, s.stale, rfl⟩
  | succ n ih =>
    obtain ⟨m, tg, st, h⟩ := ih
    simp only [storeBytes]
    split
    · exact ⟨_, _, _, by rw [h]; rfl⟩
    · exact ⟨_, _, _, h⟩

/-- A byte that CACHE may name: its translation, and that it is answered. -/
theorem cacheAddress_of_canName {s : State} {va : Word} {e : TlbEntry} (h : s.canName va e = true) :
    cacheAddress va s = .ok (e.physAddr va) s := by
  simp only [State.canName, Bool.and_eq_true, beq_iff_eq, bne_iff_ne, ne_eq] at h
  obtain ⟨⟨⟨hf, hv⟩, hp⟩, ha⟩ := h
  have ht : translate .read 0 va va s = .ok (e.physAddr va) s := by
    simp [translate, lookup, hf, loadRights, hv, hp, State.granular, TlbEntry.physAddr]
  simp only [cacheAddress, ht, Res.bind_ok]
  have hb : busCheck .read va (e.physAddr va) 0 1 s = .ok () s := by
    unfold busCheck
    rw [List.find?_eq_none.2]
    intro k hk
    have : k = 0 := by simpa using hk
    subst this
    simp [ha]
  simp [hb]

/-- A fetch of memory that no store has made stale reads the bytes of memory. -/
theorem fetchValue_memory {s : State} {va : Word} {sp : Span} {n : Nat}
    (h : ∀ k, k < n → s.portOf va sp k = .memory ∧ Sparse.get s.stale (sp.addr k) = 0#1) :
    fetchValue va sp n s = .ok (s.mem.value sp.addr n) s := by
  induction n with
  | zero => rfl
  | succ n ih =>
    obtain ⟨hp, hs⟩ := h n (Nat.lt_succ_self n)
    simp [fetchValue, ih fun k hk => h k (by omega), fetchByte, hp, hs, Memory.value]

end Sys2Proof.Machine
end

