-- ==== Sys2Proof/Laws/Capability.lean ====
section
/-! SUPPORT. The object type of a capability: what giving one changes, and that a sentry's stays one of a sentry. -/

namespace Sys2Proof.Machine

/-- A bit of a capability given an object type: its own outside the field, the type's inside. -/
theorem withOtype_getLsbD (c : Word) (t : BitVec 4) (i : Nat) :
    (withOtype c t).getLsbD i = if 47 ≤ i ∧ i < 51 then t.getLsbD (i - 47) else c.getLsbD i := by
  have e : withOtype c t = ((c.extractLsb' 51 13 ++ t : BitVec (13 + 4)) ++ c.extractLsb' 0 47 : BitVec (13 + 4 + 47)) := rfl
  rw [e]
  erw [BitVec.getLsbD_append]
  simp only [BitVec.getLsbD_append, BitVec.getLsbD_extractLsb']
  by_cases h : i < 47
  · simp [h, show ¬ 47 ≤ i by omega]
  · by_cases k : i < 51
    · rw [if_neg h, if_pos (by omega), if_pos (by omega)]
    · rw [if_neg h, if_neg (by omega), if_neg (by omega), show 51 + (i - 47 - 4) = i by omega]
      by_cases l : i < 64
      · simp [show i - 47 - 4 < 13 by omega]
      · simp [show ¬ i - 47 - 4 < 13 by omega, BitVec.getLsbD_of_ge c i (by omega)]

/-- The object type given is the one read. -/
@[simp] theorem capOtype_withOtype (c : Word) (t : BitVec 4) : capOtype (withOtype c t) = t := by
  apply BitVec.eq_of_getLsbD_eq
  intro i hi
  rw [capOtype, BitVec.getLsbD_extractLsb', withOtype_getLsbD, if_pos (by omega)]
  simp [hi]

/-- The object type that a sentry gives is that of a sentry (R812). -/
theorem sentryOtype_sentryType {c : Word} (h : capSentry c = true) : Config.sentryOtype (sentryType c) = true := by
  unfold sentryType
  split
  · assumption
  · exact h

/-- A sentry is sealed (R812). -/
theorem capSealed_of_sentry {c : Word} (h : capSentry c = true) : capSealed c = true := by simp [capSealed, h]

end Sys2Proof.Machine
end

