-- ==== Sys2Proof/Laws/Csr.lean ====
section
/-! SUPPORT. The numbers of the control registers. -/

namespace Sys2Proof.Machine

/-- Only the numbers of the status register name it, and the view is the level of the number. -/
theorem csrName_sr {n : BitVec 14} {view : BitVec 2} (e : csrName n = .sr view) : view = csrLevel n := by
  unfold csrName at e
  by_cases h0 : (n.setWidth 12 == 0x004#12) = true
  · rw [if_pos h0] at e; cases e; rfl
  rw [if_neg h0] at e; clear h0
  by_cases h : (n.setWidth 12 == 0x006#12) = true
  · rw [if_pos h] at e; cases e
  rw [if_neg h] at e; clear h
  by_cases h : (n.setWidth 12 == 0x041#12) = true
  · rw [if_pos h] at e; cases e
  rw [if_neg h] at e; clear h
  by_cases h : (n == 0x0008#14) = true
  · rw [if_pos h] at e; cases e
  rw [if_neg h] at e; clear h
  by_cases h : (n == 0x101F#14) = true
  · rw [if_pos h] at e; cases e
  rw [if_neg h] at e; clear h
  by_cases h : (n.extractLsb' 3 11 == 0x204#11) = true
  · rw [if_pos h] at e; cases e
  rw [if_neg h] at e; clear h
  by_cases h : (n == 0x3001#14) = true
  · rw [if_pos h] at e; cases e
  rw [if_neg h] at e; clear h
  by_cases h : (n == 0x3002#14) = true
  · rw [if_pos h] at e; cases e
  rw [if_neg h] at e; clear h
  by_cases h : (n == 0x3003#14) = true
  · rw [if_pos h] at e; cases e
  rw [if_neg h] at e; clear h
  by_cases h : (n == 0x3007#14) = true
  · rw [if_pos h] at e; cases e
  rw [if_neg h] at e; clear h
  by_cases h : (n == 0x300B#14) = true
  · rw [if_pos h] at e; cases e
  rw [if_neg h] at e; clear h
  by_cases h : (n == 0x300C#14) = true
  · rw [if_pos h] at e; cases e
  rw [if_neg h] at e; clear h
  by_cases h : (n == 0x3030#14) = true
  · rw [if_pos h] at e; cases e
  rw [if_neg h] at e; clear h
  by_cases h : (n == 0x3031#14) = true
  · rw [if_pos h] at e; cases e
  rw [if_neg h] at e; clear h
  by_cases h : (n == 0x3032#14) = true
  · rw [if_pos h] at e; cases e
  rw [if_neg h] at e; clear h
  by_cases h : (n == 0x3033#14) = true
  · rw [if_pos h] at e; cases e
  rw [if_neg h] at e; clear h
  by_cases h : (n == 0x3034#14) = true
  · rw [if_pos h] at e; cases e
  rw [if_neg h] at e; clear h
  by_cases h : (n.extractLsb' 3 11 == 0x610#11) = true
  · rw [if_pos h] at e; cases e
  rw [if_neg h] at e; clear h
  by_cases h : (n.extractLsb' 3 11 == 0x612#11) = true
  · rw [if_pos h] at e; cases e
  rw [if_neg h] at e; clear h
  by_cases h : (n == 0x3100#14) = true
  · rw [if_pos h] at e; cases e
  rw [if_neg h] at e; clear h
  by_cases h : (n == 0x3101#14) = true
  · rw [if_pos h] at e; cases e
  rw [if_neg h] at e; clear h
  by_cases h : (n.extractLsb' 3 11 == 0x621#11) = true
  · rw [if_pos h] at e; cases e
  rw [if_neg h] at e; clear h
  cases e

end Sys2Proof.Machine
end

