-- ==== Sys2Proof/Laws/Decode.lean ====
section
/-! SUPPORT. What a field of a word built from placed fields is: the lemmas by which a decoded field is the encoded
one. -/

namespace Sys2Proof

@[simp] theorem fld_or {n : Nat} (a b : BitVec n) (lo k : Nat) :
    fld (a ||| b) lo k = fld a lo k ||| fld b lo k := by
  ext i hi; simp [fld]

/-- A field apart from the placed one reads zero. -/
@[simp] theorem fld_place_apart {k : Nat} (v : BitVec k) (lo lo' k' : Nat) (h : lo' + k' ≤ lo ∨ lo + k ≤ lo') :
    fld (place lo v) lo' k' = 0#k' := by
  ext i hi
  simp [fld, place]
  intro h1 h2 _
  apply BitVec.getLsbD_of_ge
  omega

/-- A field inside the placed one is a field of the value. -/
@[simp] theorem fld_place_in {k : Nat} (v : BitVec k) (lo lo' k' : Nat)
    (h : lo ≤ lo' ∧ lo' + k' ≤ lo + k ∧ lo' + k' ≤ 96) :
    fld (place lo v) lo' k' = fld v (lo' - lo) k' := by
  ext i hi
  simp [fld, place]
  rw [show lo' + i - lo = lo' - lo + i by omega]
  by_cases hb : v.getLsbD (lo' - lo + i) = true
  · simp [hb]; omega
  · simp [hb]

@[simp] theorem fld_full {n : Nat} (a : BitVec n) : fld a 0 n = a := by
  ext i hi; simp [fld, ← BitVec.getLsbD_eq_getElem]

@[simp] theorem fld_zero {n : Nat} (lo k : Nat) : fld (0#n) lo k = 0#k := by
  ext i hi; simp [fld]

/-- A field in two parts. -/
theorem fld_split {n : Nat} (w : BitVec n) (lo i j : Nat) :
    fld w lo (i + j) = fld w (lo + j) i ++ fld w lo j := by
  ext a ha
  simp only [fld, BitVec.getElem_extractLsb', BitVec.getElem_append]
  split
  · rfl
  · congr 1; omega

@[simp] theorem bit1_beq (b : Bool) : (bit1 b == 1#1) = b := by cases b <;> rfl

@[simp] theorem bit1_eq_zero (b : Bool) : (bit1 b = 0#1) = (b = false) := by cases b <;> simp [bit1]

@[simp] theorem Prec.ofBits_bits (p : Prec) : Prec.ofBits p.bits = p := by cases p <;> rfl

/-- The opcode of a group whose two low bits are a precision. -/
theorem root_of_parts (w : BitVec 96) : fld w 2 7 = fld w 4 5 ++ fld w 2 2 := fld_split w 2 5 2

end Sys2Proof
end

