-- ==== Sys2Proof/Laws/Keeps.lean ====
section
/-! SUPPORT. What an access can change: translation moves the TLB and the walker's fault registers and nothing else, and so do
loads, fetches and failed stores. A property of states that these two changes keep is kept by all of them. -/

namespace Sys2Proof.Machine

/-- Whatever a part of a step ends in, its state has a property. -/
def Res.Keeps {α : Type} (P : State → Prop) : Res α → Prop
  | .ok _ t => P t
  | .trap _ t => P t
  | .stop _ => True

theorem Res.Keeps.bind {α β : Type} {P : State → Prop} {x : Res α} {f : α → State → Res β} (hx : x.Keeps P)
    (hf : ∀ a t, P t → (f a t).Keeps P) : (x.bind f).Keeps P := by
  cases x with
  | ok a t => exact hf a t hx
  | trap t s => exact hx
  | stop r => trivial

theorem Res.Keeps.mono {α : Type} {P Q : State → Prop} {x : Res α} (hx : x.Keeps P) (h : ∀ t, P t → Q t) :
    x.Keeps Q := by
  cases x with
  | ok a t => exact h t hx
  | trap t s => exact h _ hx
  | stop r => trivial

/-- The next state of a meaning, where taking an exception keeps the property too. -/
theorem Res.Keeps.finish {P : State → Prop} {x : Res Unit} (hx : x.Keeps P) (ht : ∀ t s, P s → P (trapEntry t s))
    {s' : State} (h : x.finish = .next s') : P s' := by
  cases x with
  | ok a t => cases h; exact hx
  | trap t s => cases h; exact ht t s hx
  | stop r => cases h

/-- A property that the side effects of an access keep: the TLB, the walker's fault registers, the record of pages stored to. -/
structure Closed (P : State → Prop) : Prop where
  tlb : ∀ s e, P s → P { s with tlb := e }
  fault : ∀ s a i, P s → P { s with ptw := { s.ptw with pfAddr := a, pfAsid := i } }
  note : ∀ s d, P s → P { s with dirty := d }

variable {P : State → Prop}

theorem require_keeps (c : Bool) (r : Refusal) {s : State} (h : P s) : (require c r s).Keeps P := by
  cases c <;> first | exact h | trivial

theorem requireDefined_keeps (c : Bool) {s : State} (h : P s) : (requireDefined c s).Keeps P := by
  cases c <;> exact h

theorem requireCapability_keeps (c : Bool) {s : State} (h : P s) : (requireCapability c s).Keeps P := by
  cases c <;> exact h

theorem operand_keeps (slot : Slot) (r : BitVec 6) {s : State} (h : P s) : (operand slot r s).Keeps P := by
  rw [operand_eq]; split <;> exact h

theorem capOperand_keeps (slot : Slot) (r : BitVec 6) {s : State} (h : P s) : (capOperand slot r s).Keeps P :=
  (operand_keeps slot r h).bind fun _ _ h => h

theorem target_keeps (r : BitVec 6) {s : State} (h : P s) : (target r s).Keeps P := by
  unfold target; split
  · trivial
  · split <;> exact h

theorem indexed_keeps (f : LS) {s : State} (h : P s) : (indexed f s).Keeps P :=
  (operand_keeps _ _ h).bind fun _ _ h => (operand_keeps _ _ h).bind fun _ _ h => h

theorem shortIndexed_keeps (f : LS24) {s : State} (h : P s) : (shortIndexed f s).Keeps P :=
  (operand_keeps _ _ h).bind fun _ _ h => h

/-! ## Translation -/

theorem physRead_keeps (acc : Access) (va : Word) (pa n : Nat) {s : State} (h : P s) : (physRead acc va pa n s).Keeps P := by
  unfold physRead; split
  · exact h
  · split
    · exact h
    · trivial

theorem pageFault_keeps {α : Type} (hP : Closed P) (acc : Access) (va : Word) {s : State} (h : P s) :
    (pageFault acc va s : Res α).Keeps P := hP.fault _ _ _ h

theorem walkTable_keeps (hP : Closed P) (acc : Access) (va : Word) (fuel : Nat) :
    ∀ (table level : Nat) (upper : BitVec 12) (idx : Nat) (s : State), P s →
      (walkTable acc va fuel table level upper idx s).Keeps P := by
  induction fuel with
  | zero => intro _ _ _ _ s h; exact pageFault_keeps hP acc va h
  | succ n ih =>
    intro table level upper idx s h
    refine (physRead_keeps acc va _ 8 h).bind fun v t ht => ?_
    dsimp only
    split
    · exact pageFault_keeps hP acc va ht
    · split
      · exact ht
      · split
        · split
          · trivial
          · split
            · exact pageFault_keeps hP acc va ht
            · exact ht
        · split
          · exact pageFault_keeps hP acc va ht
          · exact ih _ _ _ _ _ ht

theorem walk_keeps (hP : Closed P) (acc : Access) (va : Word) {s : State} (h : P s) : (walk acc va s).Keeps P := by
  unfold walk
  split
  · trivial
  · dsimp only
    split
    · exact pageFault_keeps hP acc va h
    · exact walkTable_keeps hP acc va _ _ _ _ _ _ h

theorem lookup_keeps (hP : Closed P) (acc : Access) (va : Word) {s : State} (h : P s) : (lookup acc va s).Keeps P := by
  unfold lookup
  split
  · exact h
  · exact (walk_keeps hP acc va h).bind fun e t ht => hP.tlb _ _ ht

theorem loadRights_keeps (hP : Closed P) (acc : Access) (va : Word) (e : TlbEntry) {s : State} (h : P s) :
    (loadRights acc va e s).Keeps P := by
  unfold loadRights
  split
  · exact h
  · exact (physRead_keeps acc va _ 16 h).bind fun p t ht => hP.tlb _ _ ht

/-- What translating an address can change. -/
theorem translate_keeps (hP : Closed P) (acc : Access) (n : Nat) (start va : Word) {s : State} (h : P s) :
    (translate acc n start va s).Keeps P := by
  refine (lookup_keeps hP acc va h).bind fun e t ht => (loadRights_keeps hP acc va e ht).bind fun e t ht => ?_
  split
  · exact ht
  · split
    · trivial
    · exact ht

theorem busCheck_keeps (acc : Access) (va : Word) (base first count : Nat) {s : State} (h : P s) :
    (busCheck acc va base first count s).Keeps P := by
  unfold busCheck; split <;> exact h

theorem alignCheck_keeps (acc : Access) (va : Word) (n : Nat) {s : State} (h : P s) : (alignCheck acc va n s).Keeps P := by
  unfold alignCheck; split
  · exact h
  · split <;> first | exact h | trivial

theorem spanOf_keeps (hP : Closed P) (acc : Access) (g : Nat) (va : Word) (n : Nat) {s : State} (h : P s) :
    (spanOf acc g va n s).Keeps P := by
  refine (translate_keeps hP acc g va va h).bind fun lo t ht => (busCheck_keeps acc va _ _ _ ht).bind fun _ t ht => ?_
  split
  · exact ht
  · exact (translate_keeps hP acc g va _ ht).bind fun hi t ht => (busCheck_keeps acc va _ _ _ ht).bind fun _ _ ht => ht

/-- A device read changes nothing. -/
theorem deviceRead_keeps (p : Place) (n : Nat) {s : State} (h : P s) : (deviceRead p n s).Keeps P := by
  unfold deviceRead
  dsimp only
  split <;> first | exact h | trivial | (split <;> first | exact h | trivial)

/-- What a load can change. -/
theorem load_keeps (hP : Closed P) (va : Word) (n : Nat) {s : State} (h : P s) : (load va n s).Keeps P := by
  refine (alignCheck_keeps .read va n h).bind fun _ t ht => (spanOf_keeps hP .read n va n ht).bind fun sp t ht => ?_
  split
  · split
    · exact deviceRead_keeps _ _ ht
    · trivial
  · exact ht

/-- What storing bytes in memory can change. -/
theorem storeBytes_keeps (hb : ∀ s pa b, P s → P (s.storeByte pa b)) (va : Word) (sp : Span) (v : Word) (n : Nat) {s : State}
    (h : P s) : P (storeBytes s va sp v n) := by
  induction n with
  | zero => exact h
  | succ n ih =>
    simp only [storeBytes]
    split
    · exact hb _ _ _ ih
    · exact ih

theorem noteStore_keeps (hP : Closed P) (va : Word) (n : Nat) {s : State} (h : P s) : P (s.noteStore va n) := by
  have key : ∀ (a : Word) (t : State), P t → P (t.notePage a) := by
    intro a t ht
    unfold State.notePage
    dsimp only
    split
    · exact ht
    · exact hP.note _ _ ht
  exact key _ _ (key _ _ h)

/-- What a store can change: what an access can, and the bytes or the device that it reaches. -/
theorem storeAt_keeps (hP : Closed P) (hb : ∀ s pa b, P s → P (s.storeByte pa b))
    (hd : ∀ p n v s, P s → (deviceWrite p n v s).Keeps P) (va : Word) (n : Nat) (v : Word) {s : State} (h : P s) :
    (storeAt va n v s).Keeps P := by
  refine (alignCheck_keeps .write va n h).bind fun _ t ht => (spanOf_keeps hP .write n va n ht).bind fun sp t ht => ?_
  split
  · split
    · exact (hd _ _ _ _ ht).bind fun _ _ h => noteStore_keeps hP va n h
    · trivial
  · exact noteStore_keeps hP va n (storeBytes_keeps hb va sp v n ht)

theorem fetchByte_keeps (va : Word) (sp : Span) (k : Nat) {s : State} (h : P s) : (fetchByte va sp k s).Keeps P := by
  unfold fetchByte
  split
  · split <;> first | exact h | trivial
  · exact (deviceRead_keeps _ _ h).bind fun _ _ h => h

theorem fetchValue_keeps (va : Word) (sp : Span) (n : Nat) {s : State} (h : P s) : (fetchValue va sp n s).Keeps P := by
  induction n with
  | zero => exact h
  | succ n ih => exact ih.bind fun _ _ h => (fetchByte_keeps va sp n h).bind fun _ _ h => h

/-- What fetching bytes can change. -/
theorem fetchBytes_keeps (hP : Closed P) (g : Nat) (va : Word) (n : Nat) {s : State} (h : P s) :
    (fetchBytes g va n s).Keeps P :=
  (spanOf_keeps hP .execute g va n h).bind fun sp _ ht => fetchValue_keeps va sp n ht

theorem fetchPostfix_keeps (hP : Closed P) (va : Word) {s : State} (h : P s) : (fetchPostfix va s).Keeps P := by
  unfold fetchPostfix
  split
  · exact h
  · split
    · split
      · trivial
      · refine (fetchBytes_keeps hP _ va _ h).bind fun v t ht => ?_
        split
        · trivial
        · exact ht
    · exact h

/-! ## The invariant under the shared operations -/

theorem State.Inv.closed : Closed State.Inv where
  tlb _ _ h := { h with }
  fault _ _ _ h := { h with }
  note _ _ h := { h with }

theorem State.Inv.keep_setPhys {s : State} (h : s.Inv) (i : BitVec 6) (v : Word) (b : Bool) : (s.setPhys i v b).Inv := by
  unfold State.setPhys
  split
  · exact h
  · rename_i hi
    have hn : i.toNat ≠ 0 := fun e => hi (by simp only [beq_iff_eq]; exact BitVec.eq_of_toNat_eq e)
    exact { h with zero := by simp [hn, h.zero] }

theorem State.Inv.keep_advance {s : State} (h : s.Inv) (n : Nat) : (s.advance n).Inv := { h with }
theorem State.Inv.keep_goto {s : State} (h : s.Inv) (t : Word) : (s.goto t).Inv := { h with }
theorem State.Inv.keep_setGpr {s : State} (h : s.Inv) (r : BitVec 6) (v : Word) : (s.setGpr r v).Inv := h.keep_setPhys _ _ _
theorem State.Inv.keep_setCap {s : State} (h : s.Inv) (r : BitVec 6) (v : Word) (b : Bool) : (s.setCap r v b).Inv := h.keep_setPhys _ _ _

theorem State.Inv.keep_storeByte {s : State} (h : s.Inv) (pa : Nat) (b : Byte) : (s.storeByte pa b).Inv :=
  { h with
    mem := Memory.wf_setByte _ _ _ h.mem
    tags := Sparse.wf_set _ _ _ h.tags
    stale := Sparse.wf_set _ _ _ h.stale }

theorem State.Inv.keep_setMemTag {s : State} (h : s.Inv) (pa : Nat) (b : Bool) : (s.setMemTag pa b).Inv :=
  { h with tags := Sparse.wf_set _ _ _ h.tags }

theorem State.Inv.keep_storeTag {s : State} (h : s.Inv) (ea : Word) (sp : Span) (b : Bool) : (storeTag ea sp b s).Inv := by
  unfold storeTag; split
  · exact h.keep_setMemTag _ _
  · exact h

/-- The reserved bit stays zero when an exception is taken. -/
theorem srEnter_defined (sr : BitVec 32) (ipl : BitVec 6) (h : sr &&& srDefined = sr) :
    srEnter sr ipl &&& srDefined = srEnter sr ipl := by
  apply BitVec.eq_of_getLsbD_eq
  intro i hi
  have hb := congrArg (·.getLsbD i) h
  simp only [BitVec.getLsbD_and] at hb
  by_cases h23 : i = 23
  · subst h23
    simp [srDefined] at hb
    simp [srEnter, srDefined, hb]
  · have : srDefined.getLsbD i = true := by
      revert hi h23
      clear hb h
      revert i
      decide
    simp [this]

theorem State.Inv.keep_trapEntry {s : State} (h : s.Inv) (t : Trap) : (trapEntry t s).Inv :=
  { h with
    reserved := srEnter_defined _ _ h.reserved
    saved := by
      intro k
      simp only [trapEntry_exc, ExcStacks.push, pushStack]
      have hr := h.reserved
      have hs := h.saved
      match k with
      | 0 => exact hr
      | 1 => exact hs 0
      | 2 => exact hs 1
      | 3 => exact hs 2
      | 4 => exact hs 3
      | 5 => exact hs 4
      | 6 => exact hs 5
      | 7 => exact hs 6
    window := by simp }

theorem State.Inv.keep_exceptionReturn {s : State} (h : s.Inv) (n : BitVec 4) : (exceptionReturn n s).Inv :=
  { h with
    reserved := by simp [BitVec.and_assoc]
    saved := by
      intro k
      simp only [exceptionReturn_exc, ExcStacks.pop, popStack]
      have hs := h.saved
      match k with
      | 0 => exact hs 1
      | 1 => exact hs 2
      | 2 => exact hs 3
      | 3 => exact hs 4
      | 4 => exact hs 5
      | 5 => exact hs 6
      | 6 => exact hs 7
      | 7 => exact hs 7 }

end Sys2Proof.Machine
end

