-- ==== Sys2Proof/Laws/Exec.lean ====
section
/-! SUPPORT. What no instruction can break: a property that each of the few ways in which a meaning changes the state keeps is
kept by `exec`, up to the exception that the instruction may end in. -/

namespace Sys2Proof.Machine

/-- A property that every way in which a meaning changes the state keeps. -/
structure Stable (P : State → Prop) : Prop extends Closed P where
  reg : ∀ s i v b, P s → P (s.setPhys i v b)
  ip : ∀ s a, P s → P { s with ip := a }
  byte : ∀ s pa b, P s → P (s.storeByte pa b)
  tag : ∀ s pa b, P s → P (s.setMemTag pa b)
  device : ∀ p n v s, P s → (deviceWrite p n v s).Keeps P
  cards : ∀ s pa, P s → P { s with cards := s.cards.mark pa }
  stale : ∀ s f, P s → P { s with stale := s.stale.filter f }
  clear : ∀ s, P s → P s.tlbClear
  atom : ∀ s l, l.length ≤ 11 → P s → P { s with atom := l }
  tick : ∀ s v, P s → P { s with csr := { s.csr with tick := v } }
  csr : ∀ s n v, (csrLevel n).ule s.mode = true → P s → P (s.csrSet (csrName n) v)
  pop : ∀ s, s.mode = 3#2 → P s → P { s with exc := s.exc.pop }
  ret : ∀ s n, s.mode = 3#2 → P s → P (exceptionReturn n s)

/-- The state is one that taking an exception leaves, or BRK, which sets `sr.dbg` too. -/
def Trapped (P : State → Prop) (t : State) : Prop :=
  ∃ tr s, P s ∧ (t = trapEntry tr s ∨ t = { trapEntry tr s with sr := (trapEntry tr s).sr ||| srDbg })

/-- How a meaning ends. -/
theorem finish_stable {P : State → Prop} {x : Res Unit} (hx : x.Keeps P) {t : State} (h : x.finish = .next t) :
    P t ∨ Trapped P t := by
  cases x with
  | ok a s => cases h; exact .inl hx
  | trap tr s => cases h; exact .inr ⟨tr, s, hx, .inl rfl⟩
  | stop r => cases h

variable {P : State → Prop}

/-! ## The shared shapes -/

theorem ok_keeps {α : Type} (a : α) {s : State} (h : P s) : (Res.ok a s).Keeps P := h
theorem stop_keeps {α : Type} (r : Refusal) : (Res.stop r : Res α).Keeps P := trivial
theorem raise_keeps {α : Type} (t : Trap) {s : State} (h : P s) : (Res.trap t s : Res α).Keeps P := h
theorem ite_keeps {α : Type} {c : Prop} [Decidable c] {x y : Res α} (hx : x.Keeps P) (hy : y.Keeps P) :
    (if c then x else y).Keeps P := by split <;> assumption

theorem finishWrite_keeps (hP : Stable P) (rt : BitVec 6) (len : Nat) (v : Word) {s : State} (h : P s) :
    (finishWrite rt len v s).Keeps P := hP.ip _ _ (hP.reg _ _ _ _ h)

theorem finishCap_keeps (hP : Stable P) (ct : BitVec 6) (len : Nat) (v : Word) (b : Bool) {s : State} (h : P s) :
    (finishCap ct len v b s).Keeps P := hP.ip _ _ (hP.reg _ _ _ _ h)

theorem lanes3_keeps (hP : Stable P) (f : R3) (g : LaneFn) {s : State} (h : P s) : (lanes3 f g s).Keeps P :=
  (operand_keeps _ _ h).bind fun _ _ h => (operand_keeps _ _ h).bind fun _ _ h => (operand_keeps _ _ h).bind fun _ _ h =>
    (target_keeps _ h).bind fun _ _ h => finishWrite_keeps hP _ _ _ h

theorem fused_keeps (hP : Stable P) (f : R3) (g : (w : Nat) → BitVec w → BitVec w → BitVec w → BitVec w)
    (r : (w : Nat) → BitVec w → BitVec w) {s : State} (h : P s) : (fused f g r s).Keeps P :=
  (requireDefined_keeps _ h).bind fun _ _ h => lanes3_keeps hP _ _ h

theorem lanes1_keeps (hP : Stable P) (f : R1) (g : (w : Nat) → BitVec w → BitVec w) {s : State} (h : P s) :
    (lanes1 f g s).Keeps P :=
  (operand_keeps _ _ h).bind fun _ _ h => (target_keeps _ h).bind fun _ _ h => finishWrite_keeps hP _ _ _ h

theorem lanesImm_keeps (hP : Stable P) (v : ImmView) (imm : Word)
    (g : (w : Nat) → BitVec w → BitVec w → BitVec w → BitVec w) {s : State} (h : P s) : (lanesImm v imm g s).Keeps P :=
  (operand_keeps _ _ h).bind fun _ _ h => (target_keeps _ h).bind fun _ _ h => finishWrite_keeps hP _ _ _ h

theorem count_keeps (hP : Stable P) (f : R1) (g : (w : Nat) → BitVec w → Nat) {s : State} (h : P s) :
    (count f g s).Keeps P := (require_keeps _ _ h).bind fun _ _ h => lanes1_keeps hP _ _ h

theorem multiplied_keeps (hP : Stable P) (f : R3) {s : State} (h : P s) : (multiplied f s).Keeps P :=
  fused_keeps hP _ _ _ h

theorem dividedSigned_keeps (hP : Stable P) (f : R3) (g : (w : Nat) → BitVec w → BitVec w → BitVec w → BitVec w)
    {s : State} (h : P s) : (dividedSigned f g s).Keeps P :=
  (requireDefined_keeps _ h).bind fun _ _ h => (operand_keeps _ _ h).bind fun _ _ h => (operand_keeps _ _ h).bind fun _ _ h =>
    (operand_keeps _ _ h).bind fun _ _ h => (target_keeps _ h).bind fun _ _ h =>
      ite_keeps h (finishWrite_keeps hP _ _ _ h)

theorem compare_keeps (hP : Stable P) (signed : Bool) (f : R3) {s : State} (h : P s) : (compare signed f s).Keeps P :=
  ite_keeps (lanes3_keeps hP _ _ h) (fused_keeps hP _ _ _ h)

theorem cmovRel_keeps (hP : Stable P) (r : Rel) (f : R3) {s : State} (h : P s) : (cmovRel r f s).Keeps P :=
  (operand_keeps _ _ h).bind fun _ _ h => (operand_keeps _ _ h).bind fun _ _ h => (operand_keeps _ _ h).bind fun _ _ h =>
    (target_keeps _ h).bind fun _ _ h => (require_keeps _ _ h).bind fun _ _ h => finishWrite_keeps hP _ _ _ h

theorem mid3_keeps (hP : Stable P) (signed : Bool) (f : R3) {s : State} (h : P s) : (mid3 signed f s).Keeps P := by
  unfold mid3
  split
  · exact lanes3_keeps hP _ _ h
  · exact lanes3_keeps hP _ _ h
  · exact (operand_keeps _ _ h).bind fun _ _ h => (operand_keeps _ _ h).bind fun _ _ h =>
      (operand_keeps _ _ h).bind fun _ _ h => (target_keeps _ h).bind fun _ _ h =>
        (require_keeps _ _ h).bind fun _ _ h => lanes3_keeps hP _ _ h

theorem rounding_keeps (rm : BitVec 3) {s : State} (h : P s) : (rounding rm s).Keeps P := by
  unfold rounding; split
  · exact h
  · trivial

theorem fcompare_keeps (hP : Stable P) (f : FltCmp) (g : Word → Word → Word → Word) {s : State} (h : P s) :
    (fcompare f g s).Keeps P :=
  (operand_keeps _ _ h).bind fun _ _ h => (operand_keeps _ _ h).bind fun _ _ h => (target_keeps _ h).bind fun _ _ h =>
    finishWrite_keeps hP _ _ _ h

theorem fmaOp_keeps (hP : Stable P) (b : Bool) (f : Flt3) {s : State} (h : P s) : (fmaOp b f s).Keeps P :=
  (rounding_keeps _ h).bind fun _ _ h => (operand_keeps _ _ h).bind fun _ _ h => (operand_keeps _ _ h).bind fun _ _ h =>
    (operand_keeps _ _ h).bind fun _ _ h => (target_keeps _ h).bind fun _ _ h => finishWrite_keeps hP _ _ _ h

theorem faddOp_keeps (hP : Stable P) (b : Bool) (f : FltAdd) {s : State} (h : P s) : (faddOp b f s).Keeps P :=
  (rounding_keeps _ h).bind fun _ _ h => (operand_keeps _ _ h).bind fun _ _ h => (operand_keeps _ _ h).bind fun _ _ h =>
    (target_keeps _ h).bind fun _ _ h => finishWrite_keeps hP _ _ _ h

theorem fsqrtOp_keeps (hP : Stable P) (f : Flt1) {s : State} (h : P s) : (fsqrtOp f s).Keeps P :=
  (rounding_keeps _ h).bind fun _ _ h => (operand_keeps _ _ h).bind fun _ _ h =>
    (target_keeps _ h).bind fun _ _ h => finishWrite_keeps hP _ _ _ h

theorem fcosOp_keeps (hP : Stable P) (f : FltCos) {s : State} (h : P s) : (fcosOp f s).Keeps P :=
  (require_keeps _ _ h).bind fun _ _ h => (rounding_keeps _ h).bind fun _ _ h => (operand_keeps _ _ h).bind fun _ _ h =>
    (target_keeps _ h).bind fun _ _ h => finishWrite_keeps hP _ _ _ h

theorem ftruncOp_keeps (hP : Stable P) (f : Flt1) {s : State} (h : P s) : (ftruncOp f s).Keeps P :=
  (operand_keeps _ _ h).bind fun _ _ h => (target_keeps _ h).bind fun _ _ h => finishWrite_keeps hP _ _ _ h

theorem fabsOp_keeps (hP : Stable P) (b : Bool) (f : FltAbs) {s : State} (h : P s) : (fabsOp b f s).Keeps P :=
  (operand_keeps _ _ h).bind fun _ _ h => (target_keeps _ h).bind fun _ _ h => finishWrite_keeps hP _ _ _ h

theorem auiip_keeps (hP : Stable P) (imm : Option Word) (nt : Bool) (rt : BitVec 6) (len : Nat) {s : State} (h : P s) :
    (auiip imm nt rt len s).Keeps P := by
  unfold auiip; split
  · trivial
  · exact (target_keeps _ h).bind fun _ _ h => finishWrite_keeps hP _ _ _ h

theorem single58_keeps (hP : Stable P) (w : BitVec 96) {s : State} (h : P s) : (single58 w s).Keeps P := by
  unfold single58
  split
  · exact fmaOp_keeps hP _ _ h
  · exact fmaOp_keeps hP _ _ h
  · exact faddOp_keeps hP _ _ h
  · exact faddOp_keeps hP _ _ h
  · exact fcompare_keeps hP _ _ h
  · exact fcompare_keeps hP _ _ h
  · exact fcompare_keeps hP _ _ h
  · exact fabsOp_keeps hP _ _ h
  · exact fabsOp_keeps hP _ _ h
  · exact fsqrtOp_keeps hP _ h
  · exact ftruncOp_keeps hP _ h
  · exact fcosOp_keeps hP _ h
  · exact h
  · trivial

theorem csrFinish_keeps (hP : Stable P) (n : BitVec 14) (rt : BitVec 6) (new : Word → Option Word) {s : State}
    (hn : (csrLevel n).ule s.mode = true) (h : P s) : (csrFinish n rt new s).Keeps P := by
  unfold csrFinish
  have hr : P (s.csrAfterRead (csrName n)) := by
    unfold State.csrAfterRead; split
    · exact hP.tick _ _ h
    · exact h
  have hm : ((s.csrAfterRead (csrName n)).setGpr rt (s.csrValue (csrName n))).mode = s.mode := by
    unfold State.csrAfterRead; split <;> simp [State.mode]
  dsimp only
  split
  · exact hP.ip _ _ (hP.reg _ _ _ _ hr)
  · exact hP.ip _ _ (hP.csr _ _ _ (hm ▸ hn) (hP.reg _ _ _ _ hr))

theorem csrCheck_keeps (n : BitVec 14) {s : State} (h : P s) : (csrCheck n s).Keeps P := by
  unfold csrCheck; split <;> exact h

/-- A part that leaves the state alone. -/
theorem Res.Keeps.bind_same {α β : Type} {x : Res α} {s : State} {f : α → State → Res β} (hx : x.Keeps (· = s))
    (h : P s) (hf : ∀ a, (f a s).Keeps P) : (x.bind f).Keeps P := by
  cases x with
  | ok a t => cases hx; exact hf a
  | trap t u => cases hx; exact h
  | stop r => trivial

theorem csrReg_keeps (hP : Stable P) (f : Csr) (new : Word → Word → Option Word) {s : State} (h : P s) :
    (csrReg f new s).Keeps P := by
  unfold csrReg
  by_cases hn : (csrLevel f.regno).ule s.mode = true
  · rw [show csrCheck f.regno s = .ok () s by simp [csrCheck, hn], Res.bind_ok]
    exact (require_keeps (P := (· = s)) _ _ rfl).bind_same h fun _ => (operand_keeps (P := (· = s)) _ _ rfl).bind_same h fun _ =>
      (target_keeps (P := (· = s)) _ rfl).bind_same h fun _ => csrFinish_keeps hP _ _ _ hn h
  · rw [show csrCheck f.regno s = raisePrivilege s by simp [csrCheck, hn]]
    exact h

theorem csrImm_keeps (hP : Stable P) (f : CsrImm) (new : Word → Word → Option Word) {s : State} (h : P s) :
    (csrImm f new s).Keeps P := by
  unfold csrImm
  by_cases hn : (csrLevel f.regno).ule s.mode = true
  · rw [show csrCheck f.regno s = .ok () s by simp [csrCheck, hn], Res.bind_ok]
    exact (require_keeps (P := (· = s)) _ _ rfl).bind_same h fun _ =>
      (target_keeps (P := (· = s)) _ rfl).bind_same h fun _ => csrFinish_keeps hP _ _ _ hn h
  · rw [show csrCheck f.regno s = raisePrivilege s by simp [csrCheck, hn]]
    exact h

theorem check_keeps (hP : Stable P) (signed : Bool) (f : Chk) {s : State} (h : P s) : (check signed f s).Keeps P := by
  unfold check
  refine (requireDefined_keeps _ h).bind fun _ _ h => (operand_keeps _ _ h).bind fun _ _ h =>
    (operand_keeps _ _ h).bind fun _ _ h => (operand_keeps _ _ h).bind fun _ _ h => ?_
  split
  · exact h
  · exact hP.ip _ _ h
  · exact h

theorem scaled_keeps (hP : Stable P) (f : R3) (g : (w : Nat) → BitVec w → BitVec w → Nat → BitVec w) {s : State}
    (h : P s) : (scaled f g s).Keeps P := by
  refine (operand_keeps _ _ h).bind fun _ _ h => (operand_keeps _ _ h).bind fun _ _ h => Res.Keeps.bind ?_ fun _ _ h =>
    (target_keeps _ h).bind fun _ _ h => finishWrite_keeps hP _ _ _ h
  unfold scaleOperand
  split
  · exact h
  · exact operand_keeps _ _ h

theorem short3_keeps (hP : Stable P) (f : R24) (g : Word → Word → Word) {s : State} (h : P s) : (short3 f g s).Keeps P :=
  (operand_keeps _ _ h).bind fun _ _ h => (operand_keeps _ _ h).bind fun _ _ h => (target_keeps _ h).bind fun _ _ h =>
    finishWrite_keeps hP _ _ _ h

theorem ndx_keeps (hP : Stable P) (w : Nat) (f : Ndx) {s : State} (h : P s) : (ndx w f s).Keeps P :=
  (require_keeps _ _ h).bind fun _ _ h => (operand_keeps _ _ h).bind fun _ _ h => (operand_keeps _ _ h).bind fun _ _ h =>
    (target_keeps _ h).bind fun _ _ h => finishWrite_keeps hP _ _ _ h

theorem shiftReg_keeps (hP : Stable P) (f : Shift) (g : Range → (w : Nat) → BitVec (w + w) → BitVec w) {s : State}
    (h : P s) : (shiftReg f g s).Keeps P :=
  (require_keeps _ _ h).bind fun _ _ h => (operand_keeps _ _ h).bind fun _ _ h => (operand_keeps _ _ h).bind fun _ _ h =>
    (operand_keeps _ _ h).bind fun _ _ h => (target_keeps _ h).bind fun _ _ h => finishWrite_keeps hP _ _ _ h

theorem shiftImm_keeps (hP : Stable P) (f : ShiftI) (g : Range → (w : Nat) → BitVec (w + w) → BitVec w) {s : State}
    (h : P s) : (shiftImm f g s).Keeps P :=
  (operand_keeps _ _ h).bind fun _ _ h => (operand_keeps _ _ h).bind fun _ _ h =>
    (target_keeps _ h).bind fun _ _ h => finishWrite_keeps hP _ _ _ h

theorem deposit_keeps (hP : Stable P) (p : Prec) (r : Range) (x nb : Bool) (ra rt : BitVec 6) (b : Word) {s : State}
    (h : P s) : (deposit p r x nb ra rt b s).Keeps P :=
  (target_keeps _ h).bind fun _ _ h => (target_keeps _ h).bind fun _ _ h => hP.ip _ _ (hP.reg _ _ _ _ (hP.reg _ _ _ _ h))

theorem depositAllowed_keeps (na nt : Bool) (ra rt : BitVec 6) {s : State} (h : P s) :
    (depositAllowed na nt ra rt s).Keeps P :=
  (require_keeps _ _ h).bind fun _ _ h => (require_keeps _ _ h).bind fun _ _ h => require_keeps _ _ h

theorem depositReg_keeps (hP : Stable P) (x : Bool) (f : Shift) {s : State} (h : P s) : (depositReg x f s).Keeps P :=
  (require_keeps _ _ h).bind fun _ _ h => (depositAllowed_keeps _ _ _ _ h).bind fun _ _ h =>
    (operand_keeps _ _ h).bind fun _ _ h => (operand_keeps _ _ h).bind fun _ _ h => deposit_keeps hP _ _ _ _ _ _ _ h

theorem depositImm_keeps (hP : Stable P) (x : Bool) (f : ShiftI) {s : State} (h : P s) : (depositImm x f s).Keeps P :=
  (depositAllowed_keeps _ _ _ _ h).bind fun _ _ h => (operand_keeps _ _ h).bind fun _ _ h =>
    deposit_keeps hP _ _ _ _ _ _ _ h

theorem setReg_keeps (hP : Stable P) (r : Rel) (f : R3) {s : State} (h : P s) : (setReg r f s).Keeps P := by
  unfold setReg; split
  · trivial
  · exact cmovRel_keeps hP _ _ h

theorem zsetReg_keeps (hP : Stable P) (r : Rel) (f : R3) {s : State} (h : P s) : (zsetReg r f s).Keeps P := by
  unfold zsetReg; split
  · trivial
  · exact lanes3_keeps hP _ _ h

/-! ## Loads, stores, branches -/

theorem loadReg_keeps (hP : Stable P) {addr : State → Res Word} (ha : ∀ s, P s → (addr s).Keeps P) (rt : BitVec 6)
    (n len : Nat) (g : Word → State → Word) {s : State} (h : P s) : (loadReg addr rt n len g s).Keeps P :=
  (ha _ h).bind fun _ _ h => (target_keeps _ h).bind fun _ _ h => (load_keeps hP.toClosed _ _ h).bind fun _ _ h =>
    finishWrite_keeps hP _ _ _ h

theorem loadLS_keeps (hP : Stable P) (f : LS) (n : Nat) (g : Word → State → Word) {s : State} (h : P s) :
    (loadLS f n g s).Keeps P := loadReg_keeps hP (fun _ h => indexed_keeps f h) _ _ _ _ h

theorem storeVal_keeps (hP : Stable P) {data addr : State → Res Word} (hd : ∀ s, P s → (data s).Keeps P)
    (ha : ∀ s, P s → (addr s).Keeps P) (n : Nat) {s : State} (h : P s) : (storeVal data addr n s).Keeps P :=
  (hd _ h).bind fun _ _ h => (ha _ h).bind fun _ _ h => storeAt_keeps hP.toClosed hP.byte hP.device _ _ _ h

theorem storeLS_keeps (hP : Stable P) (f : LS) (n : Nat) {s : State} (h : P s) : (storeLS f n s).Keeps P :=
  (storeVal_keeps hP (fun _ h => operand_keeps _ _ h) (fun _ h => indexed_keeps f h) n h).bind fun _ _ h => hP.ip _ _ h

theorem storeImmLS_keeps (hP : Stable P) (f : LS) (n : Nat) {s : State} (h : P s) : (storeImmLS f n s).Keeps P :=
  (storeVal_keeps hP (fun s h => show (storeImm f.rt s).Keeps P from h) (fun _ h => indexed_keeps f h) n h).bind fun _ _ h => hP.ip _ _ h

theorem storePointer_keeps (hP : Stable P) {data addr : State → Res Word} (hd : ∀ s, P s → (data s).Keeps P)
    (ha : ∀ s, P s → (addr s).Keeps P) (len : Nat) {s : State} (h : P s) : (storePointer data addr len s).Keeps P :=
  (storeVal_keeps hP hd ha 8 h).bind fun _ _ h => hP.ip _ _ (hP.cards _ _ h)

theorem cacheCommand_stable (hP : Stable P) (cmd : BitVec 6) (ea : Word) (pa : Nat) {s : State} (h : P s) :
    P (cacheCommand cmd ea pa s) := by
  unfold cacheCommand
  split
  · simpa using hP.stale s (fun _ => false) h
  · exact hP.stale _ _ h
  · exact hP.clear _ h
  · exact hP.tlb _ _ h
  · exact h

theorem branchTo_stable (hP : Stable P) (b : Bool) (t : Word) {s : State} (h : P s) : P (branchTo b t s) := by
  unfold branchTo; split <;> exact hP.ip _ _ h

theorem dispTarget_keeps (tgt : BitVec 21) {s : State} (h : P s) : (dispTarget tgt s).Keeps P := h

theorem regTarget_keeps (tgt : BitVec 15) (rc : BitVec 6) {s : State} (h : P s) : (regTarget tgt rc s).Keeps P :=
  (require_keeps _ _ h).bind fun _ _ h => operand_keeps _ _ h

theorem branch_keeps (hP : Stable P) (prc : BitVec 2) (ra rb : BitVec 6) {tgt : State → Res Word}
    (ht : ∀ s, P s → (tgt s).Keeps P) (c : Cond) {upd : Word → State → State} (hu : ∀ a s, P s → P (upd a s)) {s : State}
    (h : P s) : (branch prc ra rb tgt c upd s).Keeps P :=
  (require_keeps _ _ h).bind fun _ _ h => (operand_keeps _ _ h).bind fun _ _ h => (operand_keeps _ _ h).bind fun _ _ h =>
    (ht _ h).bind fun _ _ h => hu _ _ (branchTo_stable hP _ _ h)

theorem branchDisp_keeps (hP : Stable P) (c : Cond) (f : Br) {s : State} (h : P s) : (branchDisp c f s).Keeps P :=
  branch_keeps hP _ _ _ (fun _ h => dispTarget_keeps f.tgt h) c (fun _ _ h => h) h

theorem branchReg_keeps (hP : Stable P) (c : Cond) (f : BrReg) {s : State} (h : P s) : (branchReg c f s).Keeps P :=
  branch_keeps hP _ _ _ (fun _ h => regTarget_keeps _ _ h) c (fun _ _ h => h) h

theorem branchBit_keeps (hP : Stable P) (b : Bool) (prc : BitVec 2) (ra n : BitVec 6) {tgt : State → Res Word}
    (ht : ∀ s, P s → (tgt s).Keeps P) {s : State} (h : P s) : (branchBit b prc ra n tgt s).Keeps P :=
  branch_keeps hP _ _ _ ht _ (fun _ _ h => h) h

theorem floatBranch_keeps (hP : Stable P) (prc : BitVec 2) (fn : BitVec 4) (ra rb : BitVec 6) {tgt : State → Res Word}
    (ht : ∀ s, P s → (tgt s).Keeps P) {s : State} (h : P s) : (floatBranch prc fn ra rb tgt s).Keeps P := by
  refine (require_keeps _ _ h).bind fun _ _ h => (requireDefined_keeps _ h).bind fun _ _ h => (require_keeps _ _ h).bind fun _ _ h => ?_
  split
  · trivial
  · exact (operand_keeps _ _ h).bind fun _ _ h => (operand_keeps _ _ h).bind fun _ _ h => (ht _ h).bind fun _ _ h =>
      branchTo_stable hP _ _ h

theorem countBranch_keeps (hP : Stable P) (d : Word) (prc : BitVec 2) (ra rb : BitVec 6) {tgt : State → Res Word}
    (ht : ∀ s, P s → (tgt s).Keeps P) {s : State} (h : P s) : (countBranch d prc ra rb tgt s).Keeps P :=
  (require_keeps _ _ h).bind fun _ _ h => branch_keeps hP _ _ _ ht _ (fun _ _ h => hP.reg _ _ _ _ h) h

theorem link_stable (hP : Stable P) (lk : BitVec 2) {s : State} (h : P s) : P (s.link lk) := by
  unfold State.link; split
  · exact h
  · exact hP.reg _ _ _ _ h

theorem tableJump_keeps (hP : Stable P) (f : JmpI) {c : State → Res Unit} (hc : ∀ s, P s → (c s).Keeps P)
    {l : State → State} (hl : ∀ s, P s → P (l s)) {s : State} (h : P s) : (tableJump f c l s).Keeps P :=
  Res.Keeps.bind ((require_keeps _ _ h).bind fun _ _ h => requireDefined_keeps _ h) fun _ _ h =>
    (operand_keeps _ _ h).bind fun _ _ h => (operand_keeps _ _ h).bind fun _ _ h => (hc _ h).bind fun _ _ h =>
      (load_keeps hP.toClosed _ _ h).bind fun _ _ h => hP.ip _ _ (hl _ h)

theorem returnTo_keeps (hP : Stable P) (ra : BitVec 6) (na : Bool) (o : BitVec 4) (imm : Word) {s : State} (h : P s) :
    (returnTo ra na o imm s).Keeps P :=
  (requireDefined_keeps _ h).bind fun _ _ h => (require_keeps _ _ h).bind fun _ _ h => (operand_keeps _ _ h).bind fun _ _ h =>
    hP.ip _ _ (hP.reg _ _ _ _ h)

theorem requireCap_keeps {s : State} (h : P s) : (requireCap s).Keeps P := require_keeps _ _ h

theorem storeTag_stable (hP : Stable P) (ea : Word) (sp : Span) (b : Bool) {s : State} (h : P s) : P (storeTag ea sp b s) := by
  unfold storeTag; split
  · exact hP.tag _ _ _ h
  · exact h

/-! ## Every instruction -/

theorem setImm_keeps (hP : Stable P) (r : Rel) (z : Bool) (f : RI) {s : State} (h : P s) : (setImm r z f s).Keeps P :=
  (operand_keeps _ _ h).bind fun _ _ h => (target_keeps _ h).bind fun _ _ h => finishWrite_keeps hP _ _ _ h

theorem setImmBy_keeps (hP : Stable P) (r : Rel) (z : Bool) (f : SetImm) {s : State} (h : P s) :
    (setImmBy r z f s).Keeps P := by
  unfold setImmBy; split
  · trivial
  · split
    · exact h
    · exact setImm_keeps hP _ _ _ h

theorem moveSource_keeps (f : MoveF) {s : State} (h : P s) : (moveSource f s).Keeps P := by
  unfold moveSource; split
  · exact h
  · split <;> exact h

theorem moveTarget_keeps (f : MoveF) {s : State} (h : P s) : (moveTarget f s).Keeps P := by
  unfold moveTarget; split
  · trivial
  · split <;> exact h

theorem execStctx_stable {s t : State} (h : P s) (e : execStctx s = .next t) : P t ∨ Trapped P t := by
  unfold execStctx at e
  split at e
  · exact finish_stable (x := raiseUnimplemented s) h e
  · cases e

/-- What no instruction can break: a stable property holds of the next state, or the instruction took an exception from a
state of which it holds. -/
theorem exec_stable (hP : Stable P) (i : Instr) {s t : State} (h : P s) (e : exec i s = .next t) : P t ∨ Trapped P t := by
  cases i with
  | zx f => exact finish_stable ((require_keeps _ _ h).bind fun _ _ h => (target_keeps _ h).bind fun _ _ h => finishWrite_keeps hP _ _ _ h) e
  | sxImm f => exact finish_stable ((require_keeps _ _ h).bind fun _ _ h => (target_keeps _ h).bind fun _ _ h => finishWrite_keeps hP _ _ _ h) e
  | sxReg f => exact finish_stable ((require_keeps _ _ h).bind fun _ _ h => (operand_keeps _ _ h).bind fun _ _ h => (target_keeps _ h).bind fun _ _ h => finishWrite_keeps hP _ _ _ h) e
  | move f => exact finish_stable ((moveSource_keeps _ h).bind fun _ _ h => (moveTarget_keeps _ h).bind fun _ _ h => (require_keeps _ _ h).bind fun _ _ h => ok_keeps () (hP.ip _ _ (hP.reg _ _ _ _ h))) e
  | addi f => exact finish_stable (lanesImm_keeps hP _ _ _ h) e
  | subfi f => exact finish_stable (lanesImm_keeps hP _ _ _ h) e
  | muli f => exact finish_stable (lanesImm_keeps hP _ _ _ h) e
  | andi f => exact finish_stable (lanesImm_keeps hP _ _ _ h) e
  | ori f => exact finish_stable (lanesImm_keeps hP _ _ _ h) e
  | eori f => exact finish_stable (lanesImm_keeps hP _ _ _ h) e
  | cmpi f => exact finish_stable (lanesImm_keeps hP _ _ _ h) e
  | divi f => exact finish_stable (lanesImm_keeps hP _ _ _ h) e
  | mului f => exact finish_stable (lanesImm_keeps hP _ _ _ h) e
  | cmpui f => exact finish_stable (lanesImm_keeps hP _ _ _ h) e
  | divui f => exact finish_stable (lanesImm_keeps hP _ _ _ h) e
  | add2ui f => exact finish_stable (lanesImm_keeps hP _ _ _ h) e
  | add4ui f => exact finish_stable (lanesImm_keeps hP _ _ _ h) e
  | add8ui f => exact finish_stable (lanesImm_keeps hP _ _ _ h) e
  | add16ui f => exact finish_stable (lanesImm_keeps hP _ _ _ h) e
  | auiip f => exact by cases f <;> exact finish_stable (auiip_keeps hP _ _ _ _ h) e
  | opcode58 payload =>
    unfold exec execOpcode58 at e
    refine finish_stable ?_ e
    split
    · trivial
    · exact auiip_keeps hP _ _ _ _ h
    · exact single58_keeps hP _ h
  | seqi f => exact finish_stable (setImm_keeps hP _ _ _ h) e
  | zseqi f => exact finish_stable (setImm_keeps hP _ _ _ h) e
  | snei f => exact finish_stable (setImmBy_keeps hP _ _ _ h) e
  | slti f => exact finish_stable (setImmBy_keeps hP _ _ _ h) e
  | slei f => exact finish_stable (setImmBy_keeps hP _ _ _ h) e
  | sgti f => exact finish_stable (setImmBy_keeps hP _ _ _ h) e
  | sgei f => exact finish_stable (setImmBy_keeps hP _ _ _ h) e
  | sltui f => exact finish_stable (setImmBy_keeps hP _ _ _ h) e
  | sleui f => exact finish_stable (setImmBy_keeps hP _ _ _ h) e
  | sgtui f => exact finish_stable (setImmBy_keeps hP _ _ _ h) e
  | sgeui f => exact finish_stable (setImmBy_keeps hP _ _ _ h) e
  | zsnei f => exact finish_stable (setImmBy_keeps hP _ _ _ h) e
  | zslti f => exact finish_stable (setImmBy_keeps hP _ _ _ h) e
  | zslei f => exact finish_stable (setImmBy_keeps hP _ _ _ h) e
  | zsgti f => exact finish_stable (setImmBy_keeps hP _ _ _ h) e
  | zsgei f => exact finish_stable (setImmBy_keeps hP _ _ _ h) e
  | zsltui f => exact finish_stable (setImmBy_keeps hP _ _ _ h) e
  | zsleui f => exact finish_stable (setImmBy_keeps hP _ _ _ h) e
  | zsgtui f => exact finish_stable (setImmBy_keeps hP _ _ _ h) e
  | zsgeui f => exact finish_stable (setImmBy_keeps hP _ _ _ h) e
  | csrrd f => exact finish_stable (csrReg_keeps hP _ _ h) e
  | csrrw f => exact finish_stable (csrReg_keeps hP _ _ h) e
  | csrrs f => exact finish_stable (csrReg_keeps hP _ _ h) e
  | csrrc f => exact finish_stable (csrReg_keeps hP _ _ h) e
  | csrrwImm f => exact finish_stable (csrImm_keeps hP _ _ h) e
  | csrrsImm f => exact finish_stable (csrImm_keeps hP _ _ h) e
  | csrrcImm f => exact finish_stable (csrImm_keeps hP _ _ h) e
  | chk f => exact finish_stable (check_keeps hP _ _ h) e
  | chku f => exact finish_stable (check_keeps hP _ _ h) e
  | and f => exact finish_stable (fused_keeps hP _ _ _ h) e
  | or f => exact finish_stable (ite_keeps (lanes3_keeps hP _ _ h) (fused_keeps hP _ _ _ h)) e
  | eor f => exact finish_stable (ite_keeps (lanes3_keeps hP _ _ h) (fused_keeps hP _ _ _ h)) e
  | cmp f => exact finish_stable (compare_keeps hP _ _ h) e
  | add f => exact finish_stable ((require_keeps _ _ h).bind fun _ _ h => fused_keeps hP _ _ _ h) e
  | cmpu f => exact finish_stable (compare_keeps hP _ _ h) e
  | cpuid f => exact finish_stable ((require_keeps _ _ h).bind fun _ _ h => (operand_keeps _ _ h).bind fun _ _ h => (operand_keeps _ _ h).bind fun _ _ h => (target_keeps _ h).bind fun _ _ h => finishWrite_keeps hP _ _ _ h) e
  | cmov f => exact finish_stable (lanes3_keeps hP _ _ h) e
  | abs f => exact finish_stable ((requireDefined_keeps _ h).bind fun _ _ h => lanes3_keeps hP _ _ h) e
  | maj f => exact finish_stable (lanes3_keeps hP _ _ h) e
  | mul f => exact finish_stable (multiplied_keeps hP _ h) e
  | div f => exact finish_stable (dividedSigned_keeps hP _ _ h) e
  | mulu f => exact finish_stable ((require_keeps _ _ h).bind fun _ _ h => multiplied_keeps hP _ h) e
  | divu f => exact finish_stable (fused_keeps hP _ _ _ h) e
  | mulsu f => exact finish_stable (multiplied_keeps hP _ h) e
  | rem f => exact finish_stable (dividedSigned_keeps hP _ _ h) e
  | remu f => exact finish_stable (fused_keeps hP _ _ _ h) e
  | min3 f => exact finish_stable (lanes3_keeps hP _ _ h) e
  | mid3 f => exact finish_stable (mid3_keeps hP _ _ h) e
  | max3 f => exact finish_stable (lanes3_keeps hP _ _ h) e
  | minu3 f => exact finish_stable (lanes3_keeps hP _ _ h) e
  | midu3 f => exact finish_stable (mid3_keeps hP _ _ h) e
  | maxu3 f => exact finish_stable (lanes3_keeps hP _ _ h) e
  | cntlz f => exact finish_stable (count_keeps hP _ _ h) e
  | cntlo f => exact finish_stable (count_keeps hP _ _ h) e
  | cntpop f => exact finish_stable (count_keeps hP _ _ h) e
  | sqrt f => exact finish_stable ((require_keeps _ _ h).bind fun _ _ h => lanes1_keeps hP _ _ h) e
  | cnttz f => exact finish_stable (count_keeps hP _ _ h) e
  | revbit f => exact finish_stable (lanes1_keeps hP _ _ h) e
  | revbitp f => exact finish_stable (lanes1_keeps hP _ _ h) e
  | revn f => exact finish_stable (lanes1_keeps hP _ _ h) e
  | revb f => exact finish_stable (lanes1_keeps hP _ _ h) e
  | revw f => exact finish_stable (lanes1_keeps hP _ _ h) e
  | revt f => exact finish_stable (lanes1_keeps hP _ _ h) e
  | revo f => exact finish_stable (lanes1_keeps hP _ _ h) e
  | ptrdif f => exact finish_stable (scaled_keeps hP _ _ h) e
  | avgTrunc f => exact finish_stable (scaled_keeps hP _ _ h) e
  | avgRound f => exact finish_stable (scaled_keeps hP _ _ h) e
  | mux f => exact finish_stable ((requireDefined_keeps _ h).bind fun _ _ h => lanes3_keeps hP _ _ h) e
  | bmm f => exact finish_stable ((require_keeps _ _ h).bind fun _ _ h => (operand_keeps _ _ h).bind fun _ _ h => (operand_keeps _ _ h).bind fun _ _ h => (target_keeps _ h).bind fun _ _ h => finishWrite_keeps hP _ _ _ h) e
  | bmap f => exact finish_stable ((requireDefined_keeps _ h).bind fun _ _ h => (require_keeps _ _ h).bind fun _ _ h => (operand_keeps _ _ h).bind fun _ _ h => (operand_keeps _ _ h).bind fun _ _ h => (target_keeps _ h).bind fun _ _ h => finishWrite_keeps hP _ _ _ h) e
  | bytendx f => exact finish_stable (ndx_keeps hP _ _ h) e
  | wydendx f => exact finish_stable (ndx_keeps hP _ _ h) e
  | tetrandx f => exact finish_stable (ndx_keeps hP _ _ h) e
  | cmoveq f => exact finish_stable (cmovRel_keeps hP _ _ h) e
  | cmovne f => exact finish_stable (cmovRel_keeps hP _ _ h) e
  | cmovlt f => exact finish_stable (cmovRel_keeps hP _ _ h) e
  | cmovle f => exact finish_stable (cmovRel_keeps hP _ _ h) e
  | seq f => exact finish_stable (setReg_keeps hP _ _ h) e
  | sne f => exact finish_stable (setReg_keeps hP _ _ h) e
  | slt f => exact finish_stable (setReg_keeps hP _ _ h) e
  | sle f => exact finish_stable (setReg_keeps hP _ _ h) e
  | sltu f => exact finish_stable (setReg_keeps hP _ _ h) e
  | sleu f => exact finish_stable (setReg_keeps hP _ _ h) e
  | sltuCode100 f => exact finish_stable (setReg_keeps hP _ _ h) e
  | sleuCode101 f => exact finish_stable (setReg_keeps hP _ _ h) e
  | zseq f => exact finish_stable (zsetReg_keeps hP _ _ h) e
  | zsne f => exact finish_stable (zsetReg_keeps hP _ _ h) e
  | zslt f => exact finish_stable (zsetReg_keeps hP _ _ h) e
  | zsle f => exact finish_stable (zsetReg_keeps hP _ _ h) e
  | zsltu f => exact finish_stable (zsetReg_keeps hP _ _ h) e
  | zsleu f => exact finish_stable (zsetReg_keeps hP _ _ h) e
  | zseqCode120 f => exact finish_stable (zsetReg_keeps hP _ _ h) e
  | zsneCode121 f => exact finish_stable (zsetReg_keeps hP _ _ h) e
  | zsltCode122 f => exact finish_stable (zsetReg_keeps hP _ _ h) e
  | zsleCode123 f => exact finish_stable (zsetReg_keeps hP _ _ h) e
  | zsltuCode124 f => exact finish_stable (zsetReg_keeps hP _ _ h) e
  | zsleuCode125 f => exact finish_stable (zsetReg_keeps hP _ _ h) e
  | sllp f => exact finish_stable ((require_keeps _ _ h).bind fun _ _ h => (operand_keeps _ _ h).bind fun _ _ h => (operand_keeps _ _ h).bind fun _ _ h => (operand_keeps _ _ h).bind fun _ _ h => (target_keeps _ h).bind fun _ _ h => finishWrite_keeps hP _ _ _ h) e
  | srlp f => exact finish_stable (shiftReg_keeps hP _ _ h) e
  | srap f => exact finish_stable (shiftReg_keeps hP _ _ h) e
  | sraprz f => exact finish_stable (shiftReg_keeps hP _ _ h) e
  | srapru f => exact finish_stable (shiftReg_keeps hP _ _ h) e
  | dep f => exact finish_stable (depositReg_keeps hP _ _ h) e
  | depxor f => exact finish_stable (depositReg_keeps hP _ _ h) e
  | sllpi f => exact finish_stable ((operand_keeps _ _ h).bind fun _ _ h => (operand_keeps _ _ h).bind fun _ _ h => (target_keeps _ h).bind fun _ _ h => finishWrite_keeps hP _ _ _ h) e
  | srlpi f => exact finish_stable (shiftImm_keeps hP _ _ h) e
  | srapi f => exact finish_stable (shiftImm_keeps hP _ _ h) e
  | sraprzi f => exact finish_stable (shiftImm_keeps hP _ _ h) e
  | sraprui f => exact finish_stable (shiftImm_keeps hP _ _ h) e
  | depi f => exact finish_stable (depositImm_keeps hP _ _ h) e
  | depxori f => exact finish_stable (depositImm_keeps hP _ _ h) e
  | fma f => exact finish_stable (fmaOp_keeps hP _ _ h) e
  | fms f => exact finish_stable (fmaOp_keeps hP _ _ h) e
  | fadd f => exact finish_stable (faddOp_keeps hP _ _ h) e
  | fsub f => exact finish_stable (faddOp_keeps hP _ _ h) e
  | fsne f => exact finish_stable (fcompare_keeps hP _ _ h) e
  | fslt f => exact finish_stable (fcompare_keeps hP _ _ h) e
  | fcmp f => exact finish_stable (fcompare_keeps hP _ _ h) e
  | fabs f => exact finish_stable (fabsOp_keeps hP _ _ h) e
  | fnabs f => exact finish_stable (fabsOp_keeps hP _ _ h) e
  | fsqrt f => exact finish_stable (fsqrtOp_keeps hP _ h) e
  | ftrunc f => exact finish_stable (ftruncOp_keeps hP _ h) e
  | fcos f => exact finish_stable (fcosOp_keeps hP _ h) e
  | ldb f => exact finish_stable (loadLS_keeps hP _ _ _ h) e
  | ldw f => exact finish_stable (loadLS_keeps hP _ _ _ h) e
  | ldt f => exact finish_stable (loadLS_keeps hP _ _ _ h) e
  | ldo f => exact finish_stable (loadLS_keeps hP _ _ _ h) e
  | ldo24 f => exact finish_stable (loadReg_keeps hP (fun _ h => shortIndexed_keeps f h) _ _ _ _ h) e
  | ldbu f => exact finish_stable (loadLS_keeps hP _ _ _ h) e
  | ldwu f => exact finish_stable (loadLS_keeps hP _ _ _ h) e
  | ldtu f => exact finish_stable (loadLS_keeps hP _ _ _ h) e
  | fldh f => exact finish_stable (loadLS_keeps hP _ _ _ h) e
  | flds f => exact finish_stable (loadLS_keeps hP _ _ _ h) e
  | fldd f => exact finish_stable (loadLS_keeps hP _ _ _ h) e
  | ldcapd f => exact finish_stable ((requireCap_keeps h).bind fun _ _ h => (capOperand_keeps _ _ h).bind fun _ _ h => (operand_keeps _ _ h).bind fun _ _ h => (target_keeps _ h).bind fun _ _ h => (requireCapability_keeps _ h).bind fun _ _ h => (load_keeps hP.toClosed _ _ h).bind fun _ _ h => (translate_keeps hP.toClosed _ _ _ _ h).bind fun _ _ h => finishCap_keeps hP _ _ _ _ h) e
  | cache f => exact finish_stable ((indexed_keeps _ h).bind fun _ _ h => Res.Keeps.bind ((translate_keeps hP.toClosed _ _ _ _ h).bind fun _ _ h => (busCheck_keeps _ _ _ _ _ h).bind fun _ _ h => ok_keeps _ h) fun _ _ h => ok_keeps () (hP.ip _ _ (cacheCommand_stable hP _ _ _ h))) e
  | stb f => exact finish_stable (storeLS_keeps hP _ _ h) e
  | stw f => exact finish_stable (storeLS_keeps hP _ _ h) e
  | stt f => exact finish_stable (storeLS_keeps hP _ _ h) e
  | sto f => exact finish_stable (storeLS_keeps hP _ _ h) e
  | sto24 f => exact finish_stable ((storeVal_keeps hP (fun _ h => operand_keeps _ _ h) (fun _ h => shortIndexed_keeps f h) 8 h).bind fun _ _ h => ok_keeps () (hP.ip _ _ h)) e
  | stib f => exact finish_stable (storeImmLS_keeps hP _ _ h) e
  | stiw f => exact finish_stable (storeImmLS_keeps hP _ _ h) e
  | stit f => exact finish_stable (storeImmLS_keeps hP _ _ h) e
  | stio f => exact finish_stable (storeImmLS_keeps hP _ _ h) e
  | fsth f => exact finish_stable (storeLS_keeps hP _ _ h) e
  | fsts f => exact finish_stable (storeLS_keeps hP _ _ h) e
  | fstd f => exact finish_stable (storeLS_keeps hP _ _ h) e
  | stcapd f => exact finish_stable ((requireCap_keeps h).bind fun _ _ h => (capOperand_keeps _ _ h).bind fun _ _ h => (operand_keeps _ _ h).bind fun _ _ h => (capOperand_keeps _ _ h).bind fun _ _ h => (requireCapability_keeps _ h).bind fun _ _ h => (storeAt_keeps hP.toClosed hP.byte hP.device _ _ _ h).bind fun _ _ h => ok_keeps () (hP.ip _ _ (storeTag_stable hP _ _ _ h))) e
  | stptr f => exact finish_stable (storePointer_keeps hP (fun _ h => operand_keeps _ _ h) (fun _ h => indexed_keeps f h) _ h) e
  | stptr24 f => exact finish_stable (storePointer_keeps hP (fun _ h => operand_keeps _ _ h) (fun _ h => shortIndexed_keeps f h) _ h) e
  | loada f => exact finish_stable ((indexed_keeps _ h).bind fun _ _ h => (target_keeps _ h).bind fun _ _ h => finishWrite_keeps hP _ _ _ h) e
  | beq f => exact finish_stable (branchDisp_keeps hP _ _ h) e
  | beqReg f => exact finish_stable (branchReg_keeps hP _ _ h) e
  | bne f => exact finish_stable (branchDisp_keeps hP _ _ h) e
  | bneReg f => exact finish_stable (branchReg_keeps hP _ _ h) e
  | bltu f => exact finish_stable (branchDisp_keeps hP _ _ h) e
  | bltuReg f => exact finish_stable (branchReg_keeps hP _ _ h) e
  | bleu f => exact finish_stable (branchDisp_keeps hP _ _ h) e
  | bleuReg f => exact finish_stable (branchReg_keeps hP _ _ h) e
  | bgeu f => exact finish_stable (branchDisp_keeps hP _ _ h) e
  | bgeuReg f => exact finish_stable (branchReg_keeps hP _ _ h) e
  | bgtu f => exact finish_stable (branchDisp_keeps hP _ _ h) e
  | bgtuReg f => exact finish_stable (branchReg_keeps hP _ _ h) e
  | bbc f => exact finish_stable (branchDisp_keeps hP _ _ h) e
  | bbcReg f => exact finish_stable (branchReg_keeps hP _ _ h) e
  | bbs f => exact finish_stable (branchDisp_keeps hP _ _ h) e
  | bbsReg f => exact finish_stable (branchReg_keeps hP _ _ h) e
  | bbcImm f => exact finish_stable (branchBit_keeps hP _ _ _ _ (fun _ h => dispTarget_keeps _ h) h) e
  | bbcImmReg f => exact finish_stable (branchBit_keeps hP _ _ _ _ (fun _ h => regTarget_keeps _ _ h) h) e
  | bbsImm f => exact finish_stable (branchBit_keeps hP _ _ _ _ (fun _ h => dispTarget_keeps _ h) h) e
  | bbsImmReg f => exact finish_stable (branchBit_keeps hP _ _ _ _ (fun _ h => regTarget_keeps _ _ h) h) e
  | bnandb f => exact finish_stable (branchDisp_keeps hP _ _ h) e
  | bnandbReg f => exact finish_stable (branchReg_keeps hP _ _ h) e
  | bandb f => exact finish_stable (branchDisp_keeps hP _ _ h) e
  | bandbReg f => exact finish_stable (branchReg_keeps hP _ _ h) e
  | bnorb f => exact finish_stable (branchDisp_keeps hP _ _ h) e
  | bnorbReg f => exact finish_stable (branchReg_keeps hP _ _ h) e
  | borb f => exact finish_stable (branchDisp_keeps hP _ _ h) e
  | borbReg f => exact finish_stable (branchReg_keeps hP _ _ h) e
  | benor f => exact finish_stable (branchDisp_keeps hP _ _ h) e
  | benorReg f => exact finish_stable (branchReg_keeps hP _ _ h) e
  | beor f => exact finish_stable (branchDisp_keeps hP _ _ h) e
  | beorReg f => exact finish_stable (branchReg_keeps hP _ _ h) e
  | blt f => exact finish_stable (branchDisp_keeps hP _ _ h) e
  | bltReg f => exact finish_stable (branchReg_keeps hP _ _ h) e
  | ble f => exact finish_stable (branchDisp_keeps hP _ _ h) e
  | bleReg f => exact finish_stable (branchReg_keeps hP _ _ h) e
  | bge f => exact finish_stable (branchDisp_keeps hP _ _ h) e
  | bgeReg f => exact finish_stable (branchReg_keeps hP _ _ h) e
  | bgt f => exact finish_stable (branchDisp_keeps hP _ _ h) e
  | bgtReg f => exact finish_stable (branchReg_keeps hP _ _ h) e
  | bnand f => exact finish_stable (branchDisp_keeps hP _ _ h) e
  | bnandReg f => exact finish_stable (branchReg_keeps hP _ _ h) e
  | band f => exact finish_stable (branchDisp_keeps hP _ _ h) e
  | bandReg f => exact finish_stable (branchReg_keeps hP _ _ h) e
  | bnor f => exact finish_stable (branchDisp_keeps hP _ _ h) e
  | bnorReg f => exact finish_stable (branchReg_keeps hP _ _ h) e
  | bor f => exact finish_stable (branchDisp_keeps hP _ _ h) e
  | borReg f => exact finish_stable (branchReg_keeps hP _ _ h) e
  | fbcc f => exact finish_stable (floatBranch_keeps hP _ _ _ _ (fun _ h => dispTarget_keeps _ h) h) e
  | fbccReg f => exact finish_stable (floatBranch_keeps hP _ _ _ _ (fun _ h => regTarget_keeps _ _ h) h) e
  | ibne f => exact finish_stable (countBranch_keeps hP _ _ _ _ (fun _ h => dispTarget_keeps _ h) h) e
  | ibneReg f => exact finish_stable (countBranch_keeps hP _ _ _ _ (fun _ h => regTarget_keeps _ _ h) h) e
  | dbne f => exact finish_stable (countBranch_keeps hP _ _ _ _ (fun _ h => dispTarget_keeps _ h) h) e
  | dbneReg f => exact finish_stable (countBranch_keeps hP _ _ _ _ (fun _ h => regTarget_keeps _ _ h) h) e
  | bra const => exact by cases e; exact .inl (hP.ip _ _ h)
  | bsr f => exact by cases e; exact .inl (hP.ip _ _ (link_stable hP _ h))
  | jmpDirect const => exact by cases e; exact .inl (hP.ip _ _ h)
  | jsrDirect f => exact by cases e; exact .inl (hP.ip _ _ (link_stable hP _ h))
  | jmpIndirect f => exact finish_stable (tableJump_keeps hP _ (fun _ h => ok_keeps () h) (fun _ h => h) h) e
  | jsrIndirect f => exact finish_stable (tableJump_keeps hP _ (fun _ h => target_keeps _ h) (fun _ h => hP.reg _ _ _ _ h) h) e
  | jmpScaled f => exact finish_stable ((indexed_keeps _ h).bind fun _ _ h => ok_keeps () (hP.ip _ _ h)) e
  | jsrScaled f => exact finish_stable ((indexed_keeps _ h).bind fun _ _ h => (target_keeps _ h).bind fun _ _ h => ok_keeps () (hP.ip _ _ (hP.reg _ _ _ _ h))) e
  | ret f => exact by cases f <;> exact finish_stable (returnTo_keeps hP _ _ _ _ h) e
  | rte offs =>
    refine finish_stable ?_ e
    by_cases hm : s.mode = 3#2
    · simpa [require, hm, Res.Keeps] using hP.ret s _ hm h
    · simp [require, hm, Res.Keeps]
  | rte2 offs =>
    refine finish_stable ?_ e
    by_cases hm : s.mode = 3#2
    · simpa [require, hm, Res.Keeps] using hP.ret { s with exc := s.exc.pop } _ hm (hP.pop _ hm h)
    · simp [require, hm, Res.Keeps]
  | cAndPerm f => exact finish_stable ((requireCap_keeps h).bind fun _ _ h => (require_keeps _ _ h).bind fun _ _ h => (capOperand_keeps _ _ h).bind fun _ _ h => (operand_keeps _ _ h).bind fun _ _ h => (target_keeps _ h).bind fun _ _ h => finishCap_keeps hP _ _ _ _ h) e
  | cAndPermi f => exact finish_stable ((requireCap_keeps h).bind fun _ _ h => (require_keeps _ _ h).bind fun _ _ h => (capOperand_keeps _ _ h).bind fun _ _ h => (target_keeps _ h).bind fun _ _ h => finishCap_keeps hP _ _ _ _ h) e
  | cBuildCap f => exact finish_stable ((requireCap_keeps h).bind fun _ _ h => (capOperand_keeps _ _ h).bind fun _ _ h => (capOperand_keeps _ _ h).bind fun _ _ h => (target_keeps _ h).bind fun _ _ h => finishCap_keeps hP _ _ _ _ h) e
  | cClearTag f => exact finish_stable ((operand_keeps _ _ h).bind fun _ _ h => (target_keeps _ h).bind fun _ _ h => finishCap_keeps hP _ _ _ _ h) e
  | cCmp f => exact finish_stable ((requireCap_keeps h).bind fun _ _ h => (capOperand_keeps _ _ h).bind fun _ _ h => (capOperand_keeps _ _ h).bind fun _ _ h => (target_keeps _ h).bind fun _ _ h => finishWrite_keeps hP _ _ _ h) e
  | atom f =>
    cases f <;> cases e <;> exact .inl (hP.ip _ _ (hP.atom _ _ (by simp [atomLevels]) h))
  | brk => exact by cases e; exact .inr ⟨_, s, h, .inr rfl⟩
  | add24 =>
    unfold exec execAdd24 at e
    refine finish_stable ?_ e
    split
    · trivial
    · exact short3_keeps hP _ _ h
    · exact short3_keeps hP _ _ h
  | csrOp4 => exact finish_stable (raise_keeps _ h) e
  | absR1 => cases e
  | not => cases e
  | nnatrig => cases e
  | nnastat => cases e
  | nnamfact => cases e
  | mkbool => cases e
  | rex => cases e
  | sm3p0 => cases e
  | sm3p1 => cases e
  | aes64ds => cases e
  | aes64dsm => cases e
  | aes64es => cases e
  | aes64esm => cases e
  | aes64im => cases e
  | sha256sig0 => cases e
  | sha256sig1 => cases e
  | sha256sum0 => cases e
  | sha256sum1 => cases e
  | sha512sig0 => cases e
  | sha512sig1 => cases e
  | sha512sum0 => cases e
  | sha512sum1 => cases e
  | nand => cases e
  | nor => cases e
  | enor => cases e
  | cmovnz => cases e
  | divsu => cases e
  | mulw => cases e
  | muluw => cases e
  | mulsuw => cases e
  | modsu => cases e
  | divmod => cases e
  | divmodu => cases e
  | dif => cases e
  | nnamtwt => cases e
  | nnamtin => cases e
  | nnamtbias => cases e
  | nnamtfb => cases e
  | nnamtmc => cases e
  | nnamtbc => cases e
  | v2bits => cases e
  | bits2v => cases e
  | vex => cases e
  | veins => cases e
  | vgndx => cases e
  | vshlv => cases e
  | vshrv => cases e
  | vsetmask => cases e
  | vshlvi => cases e
  | vshrvi => cases e
  | aes64k1i => cases e
  | aes64ks2 => cases e
  | sm4ed => cases e
  | sm4ks => cases e
  | clmul => cases e
  | mvvr => cases e
  | reservedFunc4x7 => exact finish_stable (raise_keeps _ h) e
  | reservedFunc4x15 => exact finish_stable (raise_keeps _ h) e
  | fconst => cases e
  | fnop => cases e
  | fmin => cases e
  | fmax => cases e
  | fsubCode5 => cases e
  | fmul => cases e
  | fdiv => cases e
  | fseq => cases e
  | fsle => cases e
  | fnxt => cases e
  | frem => cases e
  | fsgnj => cases e
  | fsgnjn => cases e
  | fsgnjx => cases e
  | fscaleb => cases e
  | fneg => cases e
  | ftoi => cases e
  | itof => cases e
  | fsign => cases e
  | fsig => cases e
  | fcvts2d => cases e
  | fcvts2q => cases e
  | fcvtd2q => cases e
  | fcvth2s => cases e
  | fcvth2d => cases e
  | isnan => cases e
  | finite => cases e
  | fcvtq2h => cases e
  | fcvtq2s => cases e
  | fcvtq2d => cases e
  | fcvth2q => cases e
  | frsqrt => cases e
  | fres => cases e
  | fcvtd2s => cases e
  | fclass => cases e
  | fsin => cases e
  | ftan => cases e
  | fatan => cases e
  | fsigmoid => cases e
  | reservedLd65x3 => exact finish_stable (raise_keeps _ h) e
  | dfldd => cases e
  | dfldq => cases e
  | pldw => cases e
  | pldt => cases e
  | pldo => cases e
  | ldcapq => cases e
  | dfstd => cases e
  | pstw => cases e
  | pstt => cases e
  | psto => cases e
  | stcapq => cases e
  | stptrt => cases e
  | reservedBcc40x14 => exact finish_stable (raise_keeps _ h) e
  | reservedBcc48x14 => exact finish_stable (raise_keeps _ h) e
  | irq40 => cases e
  | irq48 => cases e
  | irq41 => cases e
  | irq49 => cases e
  | reservedBcc41x6 => exact finish_stable (raise_keeps _ h) e
  | reservedBcc49x6 => exact finish_stable (raise_keeps _ h) e
  | reservedBcc41x7 => exact finish_stable (raise_keeps _ h) e
  | reservedBcc49x7 => exact finish_stable (raise_keeps _ h) e
  | reservedBcc41x8 => exact finish_stable (raise_keeps _ h) e
  | reservedBcc49x8 => exact finish_stable (raise_keeps _ h) e
  | reservedBcc41x9 => exact finish_stable (raise_keeps _ h) e
  | reservedBcc49x9 => exact finish_stable (raise_keeps _ h) e
  | reservedBcc41x14 => exact finish_stable (raise_keeps _ h) e
  | reservedBcc49x14 => exact finish_stable (raise_keeps _ h) e
  | dfbcc => cases e
  | dfbccReg => cases e
  | pbcc => cases e
  | pbccReg => cases e
  | cbcc => cases e
  | cbccReg => cases e
  | cjmp34 => cases e
  | cjmp37 => cases e
  | cjmp39 => cases e
  | nop => exact by cases e; exact .inl (hP.ip _ _ h)
  | cRetd => cases e
  | cInvoke => cases e
  | cCopyType => cases e
  | cIncOffs => cases e
  | cSeal => cases e
  | cSetAddr => cases e
  | cSetBounds => cases e
  | cSetFlags => cases e
  | cSetHigh => cases e
  | cSetOffs => cases e
  | cSpeicalRW => cases e
  | cUnseal => cases e
  | cGetFlags => cases e
  | cGetHigh => cases e
  | cGetLen => cases e
  | cGetOffs => cases e
  | cGetPerms => cases e
  | cGetTag => cases e
  | cGetTop => cases e
  | cGetType => cases e
  | cLoadTags => cases e
  | cAlignMsk => cases e
  | cRoundLen => cases e
  | cSealEntry => cases e
  | cGetBase => cases e
  | qext => cases e
  | pred => cases e
  | pfx => cases e
  | r3x128 => cases e
  | flt128 => cases e
  | dflt => cases e
  | pst => cases e
  | chksc => cases e
  | stctx => exact execStctx_stable h e
  | enter => cases e
  | leave => cases e
  | push => cases e
  | pop => cases e
  | blend => cases e
  | bfind => cases e
  | bcmp => cases e
  | block => cases e
  | amo => cases e
  | cas => cases e
  | stopOp => cases e
  | fence => cases e
  | pfi => cases e
  | reservedRoot12 => exact finish_stable (raise_keeps _ h) e
  | reservedRoot20 => exact finish_stable (raise_keeps _ h) e
  | reservedRoot56 => exact finish_stable (raise_keeps _ h) e
  | reservedRoot91 => exact finish_stable (raise_keeps _ h) e
  | reservedRoot110 => exact finish_stable (raise_keeps _ h) e
  | reservedRoot116 => exact finish_stable (raise_keeps _ h) e
  | reservedRoot117 => exact finish_stable (raise_keeps _ h) e
  | reservedRoot118 => exact finish_stable (raise_keeps _ h) e
  | reservedRoot119 => exact finish_stable (raise_keeps _ h) e
  | reservedRoot123 => exact finish_stable (raise_keeps _ h) e
  | reservedRoot125 => exact finish_stable (raise_keeps _ h) e
  | reservedRoot126 => exact finish_stable (raise_keeps _ h) e
  | reservedRoot1648 => exact finish_stable (raise_keeps _ h) e
  | reservedRoot1672 => exact finish_stable (raise_keeps _ h) e
  | reservedRoot1696 => exact finish_stable (raise_keeps _ h) e

end Sys2Proof.Machine
end

