-- ==== Sys2Proof/Laws/Fetch.lean ====
section
/-! SUPPORT. What fetching an instruction leaves in the state, and what address its exceptions save. -/

namespace Sys2Proof.Machine

/-- A part of a step whose value is there comes from two parts whose values are there. -/
theorem Res.bind_ok_inv {α β : Type} {x : Res α} {f : α → State → Res β} {b : β} {t : State} (h : x.bind f = .ok b t) :
    ∃ a u, x = .ok a u ∧ f a u = .ok b t := by
  cases x with
  | ok a u => exact ⟨a, u, rfl, h⟩
  | trap _ _ => cases h
  | stop _ => cases h

/-- What fetching an instruction can change: what an access can, the instruction and its postfix, and the ATOM window. -/
theorem fetch_keeps {P : State → Prop} (hP : Closed P)
    (hf : ∀ s w p, P s → P { s with ir := w, pfx := p, atom := s.atom.tail }) {s : State} (h : P s) : (fetch s).Keeps P := by
  refine (fetchBytes_keeps hP _ _ _ h).bind fun _ _ h => (fetchBytes_keeps hP _ _ _ h).bind fun _ _ h =>
    (fetchPostfix_keeps hP _ h).bind fun _ t h => ?_
  exact hf _ _ _ h

/-- Fetching leaves the instruction pointer, whatever it ends in. -/
theorem fetch_ip (s : State) : (fetch s).Keeps fun t => t.ip = s.ip :=
  fetch_keeps { tlb := fun _ _ h => h, fault := fun _ _ _ h => h, note := fun _ _ h => h } (fun _ _ _ h => h) rfl

/-- A fetch that succeeds has read the bytes of the instruction and looked for its postfix, and leaves both in the state. -/
theorem fetch_inv {s t : State} {w : BitVec 96} (h : fetch s = .ok w t) :
    ∃ b n p x y z, fetchBytes 0 s.ip 1 s = .ok b x ∧
      fetchBytes (wordLen (BitVec.ofNat 96 b)) s.ip (wordLen (BitVec.ofNat 96 b)) x = .ok n y ∧ w = BitVec.ofNat 96 n ∧
      fetchPostfix (s.ip + BitVec.ofNat 64 (wordLen (BitVec.ofNat 96 b))) y = .ok p z ∧
      t = { z with ir := w, pfx := p, atom := s.atom.tail } := by
  have c : Closed (fun t : State => t.ip = s.ip ∧ t.atom = s.atom) := { tlb := fun _ _ h => h, fault := fun _ _ _ h => h, note := fun _ _ h => h }
  unfold fetch at h
  obtain ⟨b, u1, h1, h⟩ := Res.bind_ok_inv h
  obtain ⟨v, u2, h2, h⟩ := Res.bind_ok_inv h
  obtain ⟨p, u3, h3, h⟩ := Res.bind_ok_inv h
  have k1 := fetchBytes_keeps c 0 s.ip 1 (s := s) ⟨rfl, rfl⟩
  rw [h1] at k1
  have k2 := fetchBytes_keeps c (wordLen (BitVec.ofNat 96 b)) u1.ip (wordLen (BitVec.ofNat 96 b)) (s := u1) k1
  rw [h2] at k2
  have k3 := fetchPostfix_keeps c (u2.ip + BitVec.ofNat 64 (wordLen (BitVec.ofNat 96 b))) (s := u2) k2
  rw [h3] at k3
  cases h
  rw [k1.1] at h2
  rw [k2.1] at h3
  exact ⟨b, v, p, u1, u2, u3, h1, h2, rfl, h3, by rw [k3.2]⟩

/-- A fetch that succeeds leaves the instruction in the state and moves the ATOM window on by one. -/
theorem fetch_ok {s t : State} {w : BitVec 96} (h : fetch s = .ok w t) : t.ir = w ∧ t.atom = s.atom.tail := by
  obtain ⟨_, _, _, _, _, _, _, _, _, _, rfl⟩ := fetch_inv h
  exact ⟨rfl, rfl⟩

/-! ## The saved address of an exception of an access is that of the instruction -/

/-- An exception that a part of a step ends in saves the address of the instruction. -/
def Res.SavesOwn {α : Type} : Res α → Prop
  | .ok _ _ => True
  | .trap t _ => t.eip = none
  | .stop _ => True

theorem Res.SavesOwn.bind {α β : Type} {x : Res α} {f : α → State → Res β} (hx : x.SavesOwn)
    (hf : ∀ a t, (f a t).SavesOwn) : (x.bind f).SavesOwn := by
  cases x with
  | ok a t => exact hf a t
  | trap t s => exact hx
  | stop r => trivial

theorem physRead_savesOwn (acc : Access) (va : Word) (pa n : Nat) (s : State) : (physRead acc va pa n s).SavesOwn := by
  unfold physRead; split
  · trivial
  · split
    · rfl
    · trivial

theorem pageFault_savesOwn {α : Type} (acc : Access) (va : Word) (s : State) : (pageFault acc va s : Res α).SavesOwn := rfl

theorem walkTable_savesOwn (acc : Access) (va : Word) (fuel : Nat) :
    ∀ (table level : Nat) (upper : BitVec 12) (idx : Nat) (s : State),
      (walkTable acc va fuel table level upper idx s).SavesOwn := by
  induction fuel with
  | zero => intro _ _ _ _ s; exact pageFault_savesOwn acc va s
  | succ n ih =>
    intro table level upper idx s
    refine (physRead_savesOwn acc va _ 8 s).bind fun v t => ?_
    dsimp only
    split
    · exact pageFault_savesOwn acc va t
    · split
      · trivial
      · split
        · split
          · trivial
          · split
            · exact pageFault_savesOwn acc va t
            · trivial
        · split
          · exact pageFault_savesOwn acc va t
          · exact ih _ _ _ _ _

theorem walk_savesOwn (acc : Access) (va : Word) (s : State) : (walk acc va s).SavesOwn := by
  unfold walk
  split
  · trivial
  · dsimp only
    split
    · exact pageFault_savesOwn acc va s
    · exact walkTable_savesOwn acc va _ _ _ _ _ _

theorem lookup_savesOwn (acc : Access) (va : Word) (s : State) : (lookup acc va s).SavesOwn := by
  unfold lookup
  split
  · trivial
  · exact (walk_savesOwn acc va s).bind fun _ _ => trivial

theorem loadRights_savesOwn (acc : Access) (va : Word) (e : TlbEntry) (s : State) : (loadRights acc va e s).SavesOwn := by
  unfold loadRights
  split
  · trivial
  · exact (physRead_savesOwn acc va _ 16 s).bind fun _ _ => trivial

/-- Translation: its exceptions save the address of the instruction. -/
theorem translate_savesOwn (acc : Access) (n : Nat) (start va : Word) (s : State) :
    (translate acc n start va s).SavesOwn := by
  refine (lookup_savesOwn acc va s).bind fun e t => (loadRights_savesOwn acc va e t).bind fun e t => ?_
  split
  · rfl
  · split
    · trivial
    · trivial

theorem busCheck_savesOwn (acc : Access) (va : Word) (base first count : Nat) (s : State) :
    (busCheck acc va base first count s).SavesOwn := by
  unfold busCheck; split <;> trivial

theorem spanOf_savesOwn (acc : Access) (g : Nat) (va : Word) (n : Nat) (s : State) : (spanOf acc g va n s).SavesOwn := by
  refine (translate_savesOwn acc g va va s).bind fun lo t => (busCheck_savesOwn acc va _ _ _ t).bind fun _ t => ?_
  split
  · trivial
  · exact (translate_savesOwn acc g va _ t).bind fun hi t => (busCheck_savesOwn acc va _ _ _ t).bind fun _ _ => trivial

theorem deviceRead_savesOwn (p : Place) (n : Nat) (s : State) : (deviceRead p n s).SavesOwn := by
  unfold deviceRead
  dsimp only
  split <;> first | trivial | (split <;> trivial)

theorem fetchValue_savesOwn (va : Word) (sp : Span) (n : Nat) (s : State) : (fetchValue va sp n s).SavesOwn := by
  induction n with
  | zero => trivial
  | succ n ih =>
    refine ih.bind fun _ t => Res.SavesOwn.bind ?_ fun _ _ => trivial
    unfold fetchByte
    split
    · split <;> trivial
    · exact (deviceRead_savesOwn _ _ t).bind fun _ _ => trivial

theorem fetchBytes_savesOwn (g : Nat) (va : Word) (n : Nat) (s : State) : (fetchBytes g va n s).SavesOwn :=
  (spanOf_savesOwn .execute g va n s).bind fun sp t => fetchValue_savesOwn va sp n t

theorem fetchPostfix_savesOwn (va : Word) (s : State) : (fetchPostfix va s).SavesOwn := by
  unfold fetchPostfix
  split
  · trivial
  · split
    · split
      · trivial
      · refine (fetchBytes_savesOwn _ va _ s).bind fun v t => ?_
        split <;> trivial
    · trivial

/-- The exceptions of a fetch save the address of the instruction. -/
theorem fetch_savesOwn (s : State) : (fetch s).SavesOwn :=
  (fetchBytes_savesOwn _ _ _ s).bind fun _ t => (fetchBytes_savesOwn _ _ _ t).bind fun _ t =>
    (fetchPostfix_savesOwn _ t).bind fun _ _ => trivial

end Sys2Proof.Machine
end

