-- ==== Sys2Proof/Laws/Inv.lean ====
section
/-! SUPPORT. The invariant under the operations that reach devices, control registers and the other agents. -/

namespace Sys2Proof.Machine

/-- The controller's tables are in canonical form. -/
def Qic.tablesOk (q : Qic) : Prop :=
  Sparse.wf q.afn = true ∧ Sparse.wf q.enable = true ∧ Sparse.wf q.pending = true ∧ Sparse.wf q.vt = true

theorem Qic.tablesOk_setPending {q : Qic} (h : q.tablesOk) (e b : Nat) (c : Bool) : (q.setPending e b c).tablesOk :=
  ⟨h.1, h.2.1, Sparse.wf_set _ _ _ h.2.2.1, h.2.2.2⟩

theorem Qic.tablesOk_receive {q : Qic} (h : q.tablesOk) (m : Msg) : (q.receive m).tablesOk := by
  unfold Qic.receive
  split
  · exact ⟨h.1, h.2.1, Sparse.wf_set _ _ _ h.2.2.1, Sparse.wf_set _ _ _ h.2.2.2⟩
  · exact ⟨h.1, h.2.1, h.2.2.1, Sparse.wf_set _ _ _ h.2.2.2⟩

theorem Qic.tablesOk_deliver {q : Qic} (h : q.tablesOk) (k : Nat) (m : Msg) : (q.deliver k m).tablesOk := by
  unfold Qic.deliver
  split
  · exact h
  · exact Qic.tablesOk_setPending h _ _ _

theorem Qic.tablesOk_writePending {q : Qic} (h : q.tablesOk) (e : Nat) (v f : Word) : (q.writePending e v f).tablesOk := by
  unfold Qic.writePending
  dsimp only
  split
  · exact Qic.tablesOk_receive h _
  · exact Qic.tablesOk_setPending h _ _ _

theorem Qic.tablesOk_ite {c : Prop} [Decidable c] {p q : Qic} (hp : p.tablesOk) (hq : q.tablesOk) :
    (if c then p else q).tablesOk := by split <;> assumption

theorem Qic.tablesOk_write {q : Qic} (h : q.tablesOk) (off : Nat) (v f : Word) : (q.write off v f).tablesOk :=
  tablesOk_ite h <| tablesOk_ite h <| tablesOk_ite h <| tablesOk_ite h <| tablesOk_ite h <| tablesOk_ite h <|
    tablesOk_ite h <| tablesOk_ite h <| tablesOk_ite ⟨Sparse.wf_set _ _ _ h.1, h.2⟩ <|
    tablesOk_ite ⟨h.1, Sparse.wf_set _ _ _ h.2.1, h.2.2⟩ <|
    tablesOk_ite (Qic.tablesOk_writePending h _ _ _) h

theorem wf_storeVectors (vt : Sparse 8) (off : Nat) (v : Word) (n : Nat) (h : Sparse.wf vt = true) :
    Sparse.wf (storeVectors vt off v n) = true := by
  induction n with
  | zero => exact h
  | succ n ih => exact Sparse.wf_set _ _ _ ih

theorem State.Inv.tables {s : State} (h : s.Inv) : s.qic.tablesOk := ⟨h.afn, h.enable, h.pending, h.vectors⟩

/-- The invariant with another state of the controller. -/
theorem State.Inv.keep_qic {s : State} (h : s.Inv) (q : Qic) (hq : q.tablesOk) : ({ s with qic := q } : State).Inv :=
  { h with afn := hq.1, enable := hq.2.1, pending := hq.2.2.1, vectors := hq.2.2.2 }

theorem State.Inv.keep_setQit {s : State} (h : s.Inv) (b : Bool) (q : Qit) : (s.setQit b q).Inv := by
  unfold State.setQit; split <;> exact { h with }

/-- The walker's registers stay in their legal values under a write that is not refused. -/
theorem ptw_write_ok (p : Ptw) (off : Nat) (v : Word) (ha : ptAttrSupported p.attr = true) (hb : p.base &&& 7#64 = 0#64)
    (hv : ¬(off / 8 = 0xFF30 / 8 ∧ (!ptAttrSupported v) = true)) :
    ptAttrSupported (p.write off v).attr = true ∧ (p.write off v).base &&& 7#64 = 0#64 := by
  unfold Ptw.write
  split
  · exact ⟨ha, hb⟩
  · split
    · exact ⟨ha, hb⟩
    · split
      · refine ⟨ha, ?_⟩
        show v &&& ~~~7#64 &&& 7#64 = 0#64
        rw [BitVec.and_assoc]
        simp
      · split
        · rename_i h4
          refine ⟨?_, hb⟩
          show ptAttrSupported v = true
          by_contra hn
          exact hv ⟨h4, by simp [hn]⟩
        · exact ⟨ha, hb⟩

theorem State.Inv.keep_busStore {s : State} (h : s.Inv) (pa : Nat) (v : Word) (n : Nat) : (busStore s pa v n).Inv := by
  induction n with
  | zero => exact h
  | succ n ih =>
    simp only [busStore]
    split
    · exact ih.keep_storeByte _ _
    · exact ih

theorem State.Inv.keep_deviceWrite {s : State} (h : s.Inv) (p : Place) (n : Nat) (v : Word) :
    (deviceWrite p n v s).Keeps State.Inv := by
  unfold deviceWrite
  split
  · split
    · exact h.keep_qic _ (Qic.tablesOk_write h.tables _ _ _)
    · trivial
  · split
    · exact h.keep_setQit _ _
    · trivial
  · exact h.keep_qic _ ⟨h.afn, h.enable, h.pending, wf_storeVectors _ _ _ _ h.vectors⟩
  · exact { h with }
  · dsimp only
    split
    · trivial
    · rename_i hv
      have hw := ptw_write_ok s.ptw _ _ h.walker h.root hv
      exact { h with walker := hw.1, root := hw.2 }
  · exact { h with }
  · exact h.keep_busStore _ _ _
  · exact h
  · exact h
  · exact h

/-- The views of the status register show defined bits only. -/
theorem srView_defined (v : BitVec 2) : srView v &&& srDefined = srView v := by
  revert v; decide

theorem State.Inv.keep_csrSet {s : State} (h : s.Inv) (c : CsrName) (v : Word) : (s.csrSet c v).Inv := by
  cases c
  case sr view =>
    refine { h with reserved := ?_ }
    have hv := srView_defined view
    show ((s.sr &&& ~~~srView view ||| v.setWidth 32 &&& srView view) &&& srDefined) =
      (s.sr &&& ~~~srView view ||| v.setWidth 32 &&& srView view)
    apply BitVec.eq_of_getLsbD_eq
    intro i hi
    have hr := congrArg (·.getLsbD i) h.reserved
    have hv := congrArg (·.getLsbD i) hv
    simp only [BitVec.getLsbD_and, BitVec.getLsbD_or] at hr hv ⊢
    revert hr hv
    cases s.sr.getLsbD i <;> cases (srView view).getLsbD i <;> cases srDefined.getLsbD i <;> simp
  case srStack k =>
    refine { h with saved := ?_ }
    intro j
    show (s.exc.sr.set k.toNat (v.setWidth 32 &&& srDefined) k.isLt)[j] &&& srDefined =
      (s.exc.sr.set k.toNat (v.setWidth 32 &&& srDefined) k.isLt)[j]
    have hj := h.saved j
    simp only [Fin.getElem_fin, Vector.getElem_set] at hj ⊢
    split
    · rw [BitVec.and_assoc, BitVec.and_self]
    · exact hj
  all_goals exact { h with }

/-- What a step can do to the state in a meaning keeps the invariant. -/
theorem State.Inv.stable : Stable State.Inv where
  toClosed := State.Inv.closed
  reg _ _ _ _ h := h.keep_setPhys _ _ _
  ip _ _ h := { h with }
  byte _ _ _ h := h.keep_storeByte _ _
  tag _ _ _ h := h.keep_setMemTag _ _
  device _ _ _ _ h := h.keep_deviceWrite _ _ _
  cards _ _ h := { h with hct := Sparse.wf_set _ _ _ h.hct }
  stale _ _ h := { h with stale := (Sparse.wf_filter _ _ h.stale).1 }
  clear _ h := { h with }
  atom _ _ hl h := { h with window := hl }
  tick _ _ h := { h with }
  csr _ _ _ _ h := h.keep_csrSet _ _
  pop s _ h :=
    { h with
      saved := by
        intro k
        simp only [ExcStacks.pop, popStack]
        have hs := h.saved
        match k with
        | 0 => exact hs 1
        | 1 => exact hs 2
        | 2 => exact hs 3
        | 3 => exact hs 4
        | 4 => exact hs 5
        | 5 => exact hs 6
        | 6 => exact hs 7
        | 7 => exact hs 7 }
  ret _ _ _ h := h.keep_exceptionReturn _

/-- `sr.dbg` is a defined bit. -/
theorem State.Inv.keep_dbg {s : State} (h : s.Inv) : ({ s with sr := s.sr ||| srDbg } : State).Inv := by
  refine { h with reserved := ?_ }
  apply BitVec.eq_of_getLsbD_eq
  intro i hi
  have hr := congrArg (·.getLsbD i) h.reserved
  have hv := congrArg (·.getLsbD i) (show srDbg &&& srDefined = srDbg by decide)
  simp only [BitVec.getLsbD_and, BitVec.getLsbD_or] at hr hv ⊢
  revert hr hv
  cases s.sr.getLsbD i <;> cases srDbg.getLsbD i <;> cases srDefined.getLsbD i <;> simp

/-- A state in which an exception was taken keeps the invariant. -/
theorem State.Inv.of_trapped {t : State} (h : Trapped State.Inv t) : t.Inv := by
  obtain ⟨tr, s, hs, rfl | rfl⟩ := h
  · exact hs.keep_trapEntry tr
  · exact (hs.keep_trapEntry tr).keep_dbg

/-! ## The moves of the other agents -/

theorem State.Inv.keep_setEntryBit {s : State} (h : s.Inv) (a : Option Nat) (o : Nat) (b : Byte) : (s.setEntryBit a o b).Inv := by
  unfold State.setEntryBit
  split
  · exact h
  · split
    · exact h.keep_storeByte _ _
    · exact h

theorem State.Inv.keep_pageUsed {s : State} (h : s.Inv) (k : Nat) : (pageUsed k s).Inv := by
  unfold pageUsed
  split
  · exact h
  · dsimp only
    split
    · exact h.keep_setEntryBit _ _ _
    · exact (h.keep_setEntryBit _ _ _).keep_busStore _ _ _

theorem State.Inv.keep_pageWritten {s : State} (h : s.Inv) (k : Nat) : (pageWritten k s).Inv := by
  unfold pageWritten
  split
  · exact h
  · rename_i u _
    have hs : ({ s with dirty := s.dirty.eraseIdx k } : State).Inv := { h with }
    exact (hs.keep_setEntryBit _ _ _).keep_setEntryBit _ _ _

theorem State.Inv.keep_takenElsewhere {s : State} (h : s.Inv) (k : Nat) : (takenElsewhere k s).Inv := by
  unfold takenElsewhere
  split
  · exact h
  · split
    · exact h.keep_qic _ (Qic.tablesOk_deliver h.tables _ _)
    · exact h

end Sys2Proof.Machine
end

