-- ==== Sys2Proof/Laws/PerInstr.lean ====
section
/-! SUPPORT. The family `RoundTrip`: every word that agrees with the encoding of a well-formed instruction on the
instruction's own bits decodes to that instruction, whatever stands above them. One lemma per constructor of `Instr`. -/

set_option linter.unusedSimpArgs false

namespace Sys2Proof

/-- Two words agree on their low `n` bits. -/
def SameLow (n : Nat) (w e : BitVec 96) : Prop := ∀ lo k, Nat.ble (lo + k) n = true → fld w lo k = fld e lo k

/-! ## The decoder at a known code -/

theorem decode_at {w : BitVec 96} (r : Nat) (h : (fld w 2 7).toNat = r) : decode w = decodeRoot r w := by rw [decode, h]

theorem only24_eq {w : BitVec 96} {d : Decoded} (h : fld w 0 2 = 0#2) : only24 w d = d := if_pos h

theorem only48_eq {w : BitVec 96} {d : Decoded} (h : fld w 0 2 = 1#2) : only48 w d = d := if_pos h

theorem byLength_short {w : BitVec 96} {a b : Decoded} (h : fld w 0 2 = 0#2) : byLength w a b = a := if_pos h

theorem byLength_long {w : BitVec 96} {a b : Decoded} (h : fld w 0 2 ≠ 0#2) : byLength w a b = b := if_neg h

theorem flag_true {w : BitVec 96} {lo : Nat} (h : fld w lo 1 = 1#1) : flag w lo = true := by rw [flag, h]; rfl

theorem flag_false {w : BitVec 96} {lo : Nat} (h : fld w lo 1 = 0#1) : ¬flag w lo = true := by
  rw [flag, h]; decide

theorem ne_of_fld {k : Nat} {a b c : BitVec k} (h : a = b) (hn : b ≠ c) : a ≠ c := h ▸ hn

theorem decode16_at0 {w : BitVec 96} (h : fld w 0 2 = 0#2) : decode16 w = .instr .add24 := by simp [decode16, h]

theorem decode16_at1 {w : BitVec 96} (h : fld w 0 2 = 1#2) : decode16 w = .instr .reservedRoot1648 := by simp [decode16, h]

theorem decode16_at2 {w : BitVec 96} (h : fld w 0 2 = 2#2) : decode16 w = .instr .reservedRoot1672 := by simp [decode16, h]

theorem decode16_at3 {w : BitVec 96} (h : fld w 0 2 = 3#2) : decode16 w = .instr .reservedRoot1696 := by simp [decode16, h]

theorem decode35_at0 {w : BitVec 96} (h : fld w 0 2 = 0#2) : decode35 w = decodeRet24 w := by simp [decode35, h]

theorem decode58_at0 {w : BitVec 96} (h : fld w 0 2 = 0#2) : decode58 w = .instr (.auiip (.short (.ofWord w))) := by
  simp [decode58, h]

theorem decode58_at1 {w : BitVec 96} (h : fld w 0 2 = 1#2) : decode58 w = .instr (.opcode58 (fld w 9 39)) := by
  simp [decode58, h]

theorem decode122_at0 {w : BitVec 96} (h : fld w 0 2 = 0#2) : decode122 w = .instr (.atom (.short (fld w 9 15))) := by
  simp [decode122, h]

theorem decode122_at1 {w : BitVec 96} (h : fld w 0 2 = 1#2) (h9 : fld w 9 1 = 0#1) :
    decode122 w = .instr (.atom (.long (fld w 10 33))) := by
  simp [decode122, h, h9]

theorem decode35_long {w : BitVec 96} (h0 : fld w 0 2 ≠ 0#2) (h2 : fld w 0 2 ≠ 2#2) : decode35 w = decodeRet w := by
  unfold decode35
  split
  · exact absurd (BitVec.eq_of_toNat_eq ‹_›) h0
  · exact absurd (BitVec.eq_of_toNat_eq ‹_›) h2
  · rfl

theorem decode58_long {w : BitVec 96} (h0 : fld w 0 2 ≠ 0#2) (h1 : fld w 0 2 ≠ 1#2) :
    decode58 w = .instr (.auiip (.long (.ofWord w))) := by
  unfold decode58
  split
  · exact absurd (BitVec.eq_of_toNat_eq ‹_›) h0
  · exact absurd (BitVec.eq_of_toNat_eq ‹_›) h1
  · rfl

theorem decode_group {w : BitVec 96} {p : Prec} {op : BitVec 5} (h2 : fld w 2 2 = p.bits) (h4 : fld w 4 5 = op) :
    decode w = decodeRoot (op ++ p.bits).toNat w := by
  rw [decode, root_of_parts, h2, h4]

theorem decode_r3 {w : BitVec 96} {p : Prec} (h0 : fld w 0 2 = 1#2) (h2 : fld w 2 2 = p.bits) (h4 : fld w 4 5 = 26#5) :
    decode w = decodeR3 w := by
  rw [decode_group h2 h4]; cases p <;> exact if_pos h0

theorem decode_shift {w : BitVec 96} {p : Prec} (h0 : fld w 0 2 = 1#2) (h2 : fld w 2 2 = p.bits) (h4 : fld w 4 5 = 20#5) :
    decode w = decodeShift w := by
  rw [decode_group h2 h4]; cases p <;> exact if_pos h0

theorem decode_flt {w : BitVec 96} {f : FFmt} (h0 : fld w 0 2 = 1#2) (hf : f ≠ .single) (h2 : fld w 2 7 = f.root) :
    decode w = decodeFlt w := by
  rw [decode, h2]; cases f
  · exact if_pos h0
  · exact absurd rfl hf
  · exact if_pos h0

theorem FFmt.ofWord_eq {w : BitVec 96} {f : FFmt} (h2 : fld w 2 7 = f.root) : FFmt.ofWord w = f := by
  have : fld w 2 2 = fld f.root 0 2 := by
    rw [← h2]
    apply BitVec.eq_of_getLsbD_eq; intro i hi
    simp [fld, hi]; omega
  unfold FFmt.ofWord
  rw [this]
  cases f <;> rfl

theorem decodeRev_at {w : BitVec 96} (c : Nat) (h : (fld w 37 4).toNat = c) : decodeRev w = decodeRevAt c w := by rw [decodeRev, h]

theorem decodeR1_at {w : BitVec 96} (c : Nat) (h : (fld w 30 6).toNat = c) : decodeR1 w = decodeR1At c w := by rw [decodeR1, h]

theorem decodeMinMax_at {w : BitVec 96} (c : Nat) (h : (fld w 37 4).toNat = c) : decodeMinMax w = decodeMinMaxAt c w := by rw [decodeMinMax, h]

theorem decodeMinMaxU_at {w : BitVec 96} (c : Nat) (h : (fld w 37 4).toNat = c) : decodeMinMaxU w = decodeMinMaxUAt c w := by rw [decodeMinMaxU, h]

theorem decodePtrdif_at {w : BitVec 96} (c : Nat) (h : (fld w 37 4).toNat = c) : decodePtrdif w = decodePtrdifAt c w := by rw [decodePtrdif, h]

theorem decodeR3_at {w : BitVec 96} (c : Nat) (h : (fld w 41 7).toNat = c) : decodeR3 w = decodeR3At c w := by rw [decodeR3, h]

theorem decodeShift_at {w : BitVec 96} (c : Nat) (h : (fld w 44 4).toNat = c) : decodeShift w = decodeShiftAt c w := by rw [decodeShift, h]

theorem decodeFlt_at {w : BitVec 96} (c : Nat) (h : (fld w 41 7).toNat = c) : decodeFlt w = decodeFltAt c w := by rw [decodeFlt, h]

theorem decodeCap_at {w : BitVec 96} (c : Nat) (h : (fld w 41 7).toNat = c) : decodeCap w = decodeCapAt c w := by rw [decodeCap, h]

theorem decodeCsr_at {w : BitVec 96} (c : Nat) (h : (fld w 45 3).toNat = c) : decodeCsr w = decodeCsrAt c w := by rw [decodeCsr, h]

theorem decodeExt_at {w : BitVec 96} (c : Nat) (h : (fld w 22 2).toNat = c) : decodeExt w = decodeExtAt c w := by rw [decodeExt, h]

theorem decodeBcc40_at {w : BitVec 96} (c : Nat) (h : (fld w 9 4).toNat = c) : decodeBcc40 w = decodeBcc40At c w := by rw [decodeBcc40, h]

theorem decodeBcc41_at {w : BitVec 96} (c : Nat) (h : (fld w 9 4).toNat = c) : decodeBcc41 w = decodeBcc41At c w := by rw [decodeBcc41, h]

theorem decodeBcc48_at {w : BitVec 96} (c : Nat) (h : (fld w 9 4).toNat = c) : decodeBcc48 w = decodeBcc48At c w := by rw [decodeBcc48, h]

theorem decodeBcc49_at {w : BitVec 96} (c : Nat) (h : (fld w 9 4).toNat = c) : decodeBcc49 w = decodeBcc49At c w := by rw [decodeBcc49, h]

theorem decodeLs64_at {w : BitVec 96} (c : Nat) (h : (fld w 30 2).toNat = c) : decodeLs64 w = decodeLs64At c w := by rw [decodeLs64, h]

theorem decodeLs65_at {w : BitVec 96} (c : Nat) (h : (fld w 30 2).toNat = c) : decodeLs65 w = decodeLs65At c w := by rw [decodeLs65, h]

theorem decodeLs66_at {w : BitVec 96} (c : Nat) (h : (fld w 30 2).toNat = c) : decodeLs66 w = decodeLs66At c w := by rw [decodeLs66, h]

theorem decodeLs67_at {w : BitVec 96} (c : Nat) (h : (fld w 30 2).toNat = c) : decodeLs67 w = decodeLs67At c w := by rw [decodeLs67, h]

theorem decodeLs68_at {w : BitVec 96} (c : Nat) (h : (fld w 30 2).toNat = c) : decodeLs68 w = decodeLs68At c w := by rw [decodeLs68, h]

theorem decodeLs69_at {w : BitVec 96} (c : Nat) (h : (fld w 30 2).toNat = c) : decodeLs69 w = decodeLs69At c w := by rw [decodeLs69, h]

theorem decodeLs70_at {w : BitVec 96} (c : Nat) (h : (fld w 30 2).toNat = c) : decodeLs70 w = decodeLs70At c w := by rw [decodeLs70, h]

theorem decodeLs72_at {w : BitVec 96} (c : Nat) (h : (fld w 30 2).toNat = c) : decodeLs72 w = decodeLs72At c w := by rw [decodeLs72, h]

theorem decodeLs73_at {w : BitVec 96} (c : Nat) (h : (fld w 30 2).toNat = c) : decodeLs73 w = decodeLs73At c w := by rw [decodeLs73, h]

theorem decodeLs74_at {w : BitVec 96} (c : Nat) (h : (fld w 30 2).toNat = c) : decodeLs74 w = decodeLs74At c w := by rw [decodeLs74, h]

theorem decodeLs75_at {w : BitVec 96} (c : Nat) (h : (fld w 30 2).toNat = c) : decodeLs75 w = decodeLs75At c w := by rw [decodeLs75, h]

theorem decodeLs76_at {w : BitVec 96} (c : Nat) (h : (fld w 30 2).toNat = c) : decodeLs76 w = decodeLs76At c w := by rw [decodeLs76, h]

theorem decodeLs77_at {w : BitVec 96} (c : Nat) (h : (fld w 30 2).toNat = c) : decodeLs77 w = decodeLs77At c w := by rw [decodeLs77, h]

theorem decodeLs78_at {w : BitVec 96} (c : Nat) (h : (fld w 30 2).toNat = c) : decodeLs78 w = decodeLs78At c w := by rw [decodeLs78, h]

theorem Imm.ln_ne (v : Imm) : v.ln ≠ 0#2 := by unfold Imm.ln; split <;> decide

theorem Disp.ln_ne (v : Disp) : v.ln ≠ 0#2 := by unfold Disp.ln; split <;> decide

/-- The precision bits of a group's root opcode. -/
theorem fld_two {w : BitVec 96} (h : fld w 2 7 = 107#7) : fld w 2 2 = 3#2 := by
  have : fld w 2 2 = fld (fld w 2 7) 0 2 := by
    apply BitVec.eq_of_getLsbD_eq; intro i hi
    have : i < 7 := by omega
    simp [fld, hi, this]
  rw [this, h]; decide

theorem wordLen_eq {e : BitVec 96} {c : BitVec 2} (h : fld e 0 2 = c) : wordLen e = 3 * (c.toNat + 1) := by rw [wordLen, h]

/-! ## The operands read back -/

theorem ExtImm.read {w : BitVec 96} {f : ExtImm} {c22 : BitVec 2} {c2 : BitVec 7}
    (h : SameLow (8 * wordLen (f.enc ||| place 22 c22 ||| place 2 c2 ||| place 0 0#2)) w (f.enc ||| place 22 c22 ||| place 2 c2 ||| place 0 0#2)) :
    fld w 0 2 = 0#2 ∧ fld w 22 2 = c22 ∧ fld w 2 7 = c2 ∧ ExtImm.ofWord w = f := by
  rw [wordLen_eq (c := 0#2) (by simp only [ExtImm.enc, BitVec.reduceToNat, fld_or, fld_place_apart, fld_place_in, fld_full, fld_zero, Nat.reduceAdd, Nat.reduceLeDiff, Nat.reduceSub, Nat.le_refl, true_or, or_true, and_true, true_and, BitVec.zero_or, BitVec.or_zero, Nat.sub_self, bit1_beq, Prec.ofBits_bits])] at h
  have h0 := ((h 0 2 rfl).trans (by simp only [ExtImm.enc, BitVec.reduceToNat, fld_or, fld_place_apart, fld_place_in, fld_full, fld_zero, Nat.reduceAdd, Nat.reduceLeDiff, Nat.reduceSub, Nat.le_refl, true_or, or_true, and_true, true_and, BitVec.zero_or, BitVec.or_zero, Nat.sub_self, bit1_beq, Prec.ofBits_bits]) : fld w 0 2 = 0#2)
  refine ⟨h0, (h 22 2 rfl).trans (by simp only [ExtImm.enc, BitVec.reduceToNat, fld_or, fld_place_apart, fld_place_in, fld_full, fld_zero, Nat.reduceAdd, Nat.reduceLeDiff, Nat.reduceSub, Nat.le_refl, true_or, or_true, and_true, true_and, BitVec.zero_or, BitVec.or_zero, Nat.sub_self, bit1_beq, Prec.ofBits_bits]), (h 2 7 rfl).trans (by simp only [ExtImm.enc, BitVec.reduceToNat, fld_or, fld_place_apart, fld_place_in, fld_full, fld_zero, Nat.reduceAdd, Nat.reduceLeDiff, Nat.reduceSub, Nat.le_refl, true_or, or_true, and_true, true_and, BitVec.zero_or, BitVec.or_zero, Nat.sub_self, bit1_beq, Prec.ofBits_bits]), ?_⟩
  simp only [ExtImm.ofWord, flag, h 16 6 rfl, h 15 1 rfl, h 9 6 rfl]
  simp only [ExtImm.enc, BitVec.reduceToNat, fld_or, fld_place_apart, fld_place_in, fld_full, fld_zero, Nat.reduceAdd, Nat.reduceLeDiff, Nat.reduceSub, Nat.le_refl, true_or, or_true, and_true, true_and, BitVec.zero_or, BitVec.or_zero, Nat.sub_self, bit1_beq, Prec.ofBits_bits]

theorem ExtReg.read {w : BitVec 96} {f : ExtReg} {c23 : BitVec 1} {c2 : BitVec 7}
    (h : SameLow (8 * wordLen (f.enc ||| place 23 c23 ||| place 2 c2 ||| place 0 0#2)) w (f.enc ||| place 23 c23 ||| place 2 c2 ||| place 0 0#2)) :
    fld w 0 2 = 0#2 ∧ fld w 23 1 = c23 ∧ fld w 2 7 = c2 ∧ ExtReg.ofWord w = f := by
  rw [wordLen_eq (c := 0#2) (by simp only [ExtReg.enc, BitVec.reduceToNat, fld_or, fld_place_apart, fld_place_in, fld_full, fld_zero, Nat.reduceAdd, Nat.reduceLeDiff, Nat.reduceSub, Nat.le_refl, true_or, or_true, and_true, true_and, BitVec.zero_or, BitVec.or_zero, Nat.sub_self, bit1_beq, Prec.ofBits_bits])] at h
  have h0 := ((h 0 2 rfl).trans (by simp only [ExtReg.enc, BitVec.reduceToNat, fld_or, fld_place_apart, fld_place_in, fld_full, fld_zero, Nat.reduceAdd, Nat.reduceLeDiff, Nat.reduceSub, Nat.le_refl, true_or, or_true, and_true, true_and, BitVec.zero_or, BitVec.or_zero, Nat.sub_self, bit1_beq, Prec.ofBits_bits]) : fld w 0 2 = 0#2)
  refine ⟨h0, (h 23 1 rfl).trans (by simp only [ExtReg.enc, BitVec.reduceToNat, fld_or, fld_place_apart, fld_place_in, fld_full, fld_zero, Nat.reduceAdd, Nat.reduceLeDiff, Nat.reduceSub, Nat.le_refl, true_or, or_true, and_true, true_and, BitVec.zero_or, BitVec.or_zero, Nat.sub_self, bit1_beq, Prec.ofBits_bits]), (h 2 7 rfl).trans (by simp only [ExtReg.enc, BitVec.reduceToNat, fld_or, fld_place_apart, fld_place_in, fld_full, fld_zero, Nat.reduceAdd, Nat.reduceLeDiff, Nat.reduceSub, Nat.le_refl, true_or, or_true, and_true, true_and, BitVec.zero_or, BitVec.or_zero, Nat.sub_self, bit1_beq, Prec.ofBits_bits]), ?_⟩
  simp only [ExtReg.ofWord, flag, h 22 1 rfl, h 16 6 rfl, h 15 1 rfl, h 9 6 rfl]
  simp only [ExtReg.enc, BitVec.reduceToNat, fld_or, fld_place_apart, fld_place_in, fld_full, fld_zero, Nat.reduceAdd, Nat.reduceLeDiff, Nat.reduceSub, Nat.le_refl, true_or, or_true, and_true, true_and, BitVec.zero_or, BitVec.or_zero, Nat.sub_self, bit1_beq, Prec.ofBits_bits]

theorem MoveF.read {w : BitVec 96} {f : MoveF} {c2 : BitVec 7}
    (h : SameLow (8 * wordLen (f.enc ||| place 2 c2 ||| place 0 0#2)) w (f.enc ||| place 2 c2 ||| place 0 0#2)) :
    fld w 0 2 = 0#2 ∧ fld w 2 7 = c2 ∧ MoveF.ofWord w = f := by
  rw [wordLen_eq (c := 0#2) (by simp only [MoveF.enc, BitVec.reduceToNat, fld_or, fld_place_apart, fld_place_in, fld_full, fld_zero, Nat.reduceAdd, Nat.reduceLeDiff, Nat.reduceSub, Nat.le_refl, true_or, or_true, and_true, true_and, BitVec.zero_or, BitVec.or_zero, Nat.sub_self, bit1_beq, Prec.ofBits_bits])] at h
  have h0 := ((h 0 2 rfl).trans (by simp only [MoveF.enc, BitVec.reduceToNat, fld_or, fld_place_apart, fld_place_in, fld_full, fld_zero, Nat.reduceAdd, Nat.reduceLeDiff, Nat.reduceSub, Nat.le_refl, true_or, or_true, and_true, true_and, BitVec.zero_or, BitVec.or_zero, Nat.sub_self, bit1_beq, Prec.ofBits_bits]) : fld w 0 2 = 0#2)
  refine ⟨h0, (h 2 7 rfl).trans (by simp only [MoveF.enc, BitVec.reduceToNat, fld_or, fld_place_apart, fld_place_in, fld_full, fld_zero, Nat.reduceAdd, Nat.reduceLeDiff, Nat.reduceSub, Nat.le_refl, true_or, or_true, and_true, true_and, BitVec.zero_or, BitVec.or_zero, Nat.sub_self, bit1_beq, Prec.ofBits_bits]), ?_⟩
  simp only [MoveF.ofWord, flag, h 23 1 rfl, h 22 1 rfl, h 16 6 rfl, h 15 1 rfl, h 9 6 rfl]
  simp only [MoveF.enc, BitVec.reduceToNat, fld_or, fld_place_apart, fld_place_in, fld_full, fld_zero, Nat.reduceAdd, Nat.reduceLeDiff, Nat.reduceSub, Nat.le_refl, true_or, or_true, and_true, true_and, BitVec.zero_or, BitVec.or_zero, Nat.sub_self, bit1_beq, Prec.ofBits_bits]

theorem RI24.read {w : BitVec 96} {f : RI24} {c2 : BitVec 7}
    (h : SameLow (8 * wordLen (f.enc ||| place 2 c2 ||| place 0 0#2)) w (f.enc ||| place 2 c2 ||| place 0 0#2)) :
    fld w 0 2 = 0#2 ∧ fld w 2 7 = c2 ∧ RI24.ofWord w = f := by
  rw [wordLen_eq (c := 0#2) (by simp only [RI24.enc, BitVec.reduceToNat, fld_or, fld_place_apart, fld_place_in, fld_full, fld_zero, Nat.reduceAdd, Nat.reduceLeDiff, Nat.reduceSub, Nat.le_refl, true_or, or_true, and_true, true_and, BitVec.zero_or, BitVec.or_zero, Nat.sub_self, bit1_beq, Prec.ofBits_bits])] at h
  have h0 := ((h 0 2 rfl).trans (by simp only [RI24.enc, BitVec.reduceToNat, fld_or, fld_place_apart, fld_place_in, fld_full, fld_zero, Nat.reduceAdd, Nat.reduceLeDiff, Nat.reduceSub, Nat.le_refl, true_or, or_true, and_true, true_and, BitVec.zero_or, BitVec.or_zero, Nat.sub_self, bit1_beq, Prec.ofBits_bits]) : fld w 0 2 = 0#2)
  refine ⟨h0, (h 2 7 rfl).trans (by simp only [RI24.enc, BitVec.reduceToNat, fld_or, fld_place_apart, fld_place_in, fld_full, fld_zero, Nat.reduceAdd, Nat.reduceLeDiff, Nat.reduceSub, Nat.le_refl, true_or, or_true, and_true, true_and, BitVec.zero_or, BitVec.or_zero, Nat.sub_self, bit1_beq, Prec.ofBits_bits]), ?_⟩
  simp only [RI24.ofWord, h 19 5 rfl, h 14 5 rfl, h 9 5 rfl]
  simp only [RI24.enc, BitVec.reduceToNat, fld_or, fld_place_apart, fld_place_in, fld_full, fld_zero, Nat.reduceAdd, Nat.reduceLeDiff, Nat.reduceSub, Nat.le_refl, true_or, or_true, and_true, true_and, BitVec.zero_or, BitVec.or_zero, Nat.sub_self, bit1_beq, Prec.ofBits_bits]

theorem RI.read {w : BitVec 96} {f : RI} {c2 : BitVec 7}
    (h : SameLow (8 * wordLen (f.enc ||| place 2 c2)) w (f.enc ||| place 2 c2)) :
    fld w 0 2 = f.imm.ln ∧ fld w 2 7 = c2 ∧ RI.ofWord w = f := by
  obtain ⟨imm, prec, na, ra, nt, rt⟩ := f
  cases imm
  · rw [wordLen_eq (c := 1#2) (by simp only [RI.enc, Imm.placed, Imm.ln, BitVec.reduceToNat, fld_or, fld_place_apart, fld_place_in, fld_full, fld_zero, Nat.reduceAdd, Nat.reduceLeDiff, Nat.reduceSub, Nat.le_refl, true_or, or_true, and_true, true_and, BitVec.zero_or, BitVec.or_zero, Nat.sub_self, bit1_beq, Prec.ofBits_bits])] at h
    have h0 := ((h 0 2 rfl).trans (by simp only [RI.enc, Imm.placed, Imm.ln, BitVec.reduceToNat, fld_or, fld_place_apart, fld_place_in, fld_full, fld_zero, Nat.reduceAdd, Nat.reduceLeDiff, Nat.reduceSub, Nat.le_refl, true_or, or_true, and_true, true_and, BitVec.zero_or, BitVec.or_zero, Nat.sub_self, bit1_beq, Prec.ofBits_bits]) : fld w 0 2 = 1#2)
    refine ⟨h0, (h 2 7 rfl).trans (by simp only [RI.enc, Imm.placed, Imm.ln, BitVec.reduceToNat, fld_or, fld_place_apart, fld_place_in, fld_full, fld_zero, Nat.reduceAdd, Nat.reduceLeDiff, Nat.reduceSub, Nat.le_refl, true_or, or_true, and_true, true_and, BitVec.zero_or, BitVec.or_zero, Nat.sub_self, bit1_beq, Prec.ofBits_bits]), ?_⟩
    simp only [RI.ofWord, flag, Imm.ofWord, h0, h 22 1 rfl, h 16 6 rfl, h 15 1 rfl, h 9 6 rfl, h 23 2 rfl, h 25 23 rfl]
    simp only [RI.enc, Imm.placed, Imm.ln, BitVec.reduceToNat, fld_or, fld_place_apart, fld_place_in, fld_full, fld_zero, Nat.reduceAdd, Nat.reduceLeDiff, Nat.reduceSub, Nat.le_refl, true_or, or_true, and_true, true_and, BitVec.zero_or, BitVec.or_zero, Nat.sub_self, bit1_beq, Prec.ofBits_bits]
  · rw [wordLen_eq (c := 2#2) (by simp only [RI.enc, Imm.placed, Imm.ln, BitVec.reduceToNat, fld_or, fld_place_apart, fld_place_in, fld_full, fld_zero, Nat.reduceAdd, Nat.reduceLeDiff, Nat.reduceSub, Nat.le_refl, true_or, or_true, and_true, true_and, BitVec.zero_or, BitVec.or_zero, Nat.sub_self, bit1_beq, Prec.ofBits_bits])] at h
    have h0 := ((h 0 2 rfl).trans (by simp only [RI.enc, Imm.placed, Imm.ln, BitVec.reduceToNat, fld_or, fld_place_apart, fld_place_in, fld_full, fld_zero, Nat.reduceAdd, Nat.reduceLeDiff, Nat.reduceSub, Nat.le_refl, true_or, or_true, and_true, true_and, BitVec.zero_or, BitVec.or_zero, Nat.sub_self, bit1_beq, Prec.ofBits_bits]) : fld w 0 2 = 2#2)
    refine ⟨h0, (h 2 7 rfl).trans (by simp only [RI.enc, Imm.placed, Imm.ln, BitVec.reduceToNat, fld_or, fld_place_apart, fld_place_in, fld_full, fld_zero, Nat.reduceAdd, Nat.reduceLeDiff, Nat.reduceSub, Nat.le_refl, true_or, or_true, and_true, true_and, BitVec.zero_or, BitVec.or_zero, Nat.sub_self, bit1_beq, Prec.ofBits_bits]), ?_⟩
    simp only [RI.ofWord, flag, Imm.ofWord, h0, h 22 1 rfl, h 16 6 rfl, h 15 1 rfl, h 9 6 rfl, h 23 2 rfl, h 25 47 rfl]
    simp only [RI.enc, Imm.placed, Imm.ln, BitVec.reduceToNat, fld_or, fld_place_apart, fld_place_in, fld_full, fld_zero, Nat.reduceAdd, Nat.reduceLeDiff, Nat.reduceSub, Nat.le_refl, true_or, or_true, and_true, true_and, BitVec.zero_or, BitVec.or_zero, Nat.sub_self, bit1_beq, Prec.ofBits_bits]
  · rw [wordLen_eq (c := 3#2) (by simp only [RI.enc, Imm.placed, Imm.ln, BitVec.reduceToNat, fld_or, fld_place_apart, fld_place_in, fld_full, fld_zero, Nat.reduceAdd, Nat.reduceLeDiff, Nat.reduceSub, Nat.le_refl, true_or, or_true, and_true, true_and, BitVec.zero_or, BitVec.or_zero, Nat.sub_self, bit1_beq, Prec.ofBits_bits])] at h
    have h0 := ((h 0 2 rfl).trans (by simp only [RI.enc, Imm.placed, Imm.ln, BitVec.reduceToNat, fld_or, fld_place_apart, fld_place_in, fld_full, fld_zero, Nat.reduceAdd, Nat.reduceLeDiff, Nat.reduceSub, Nat.le_refl, true_or, or_true, and_true, true_and, BitVec.zero_or, BitVec.or_zero, Nat.sub_self, bit1_beq, Prec.ofBits_bits]) : fld w 0 2 = 3#2)
    refine ⟨h0, (h 2 7 rfl).trans (by simp only [RI.enc, Imm.placed, Imm.ln, BitVec.reduceToNat, fld_or, fld_place_apart, fld_place_in, fld_full, fld_zero, Nat.reduceAdd, Nat.reduceLeDiff, Nat.reduceSub, Nat.le_refl, true_or, or_true, and_true, true_and, BitVec.zero_or, BitVec.or_zero, Nat.sub_self, bit1_beq, Prec.ofBits_bits]), ?_⟩
    simp only [RI.ofWord, flag, Imm.ofWord, h0, h 22 1 rfl, h 16 6 rfl, h 15 1 rfl, h 9 6 rfl, h 23 2 rfl, h 25 71 rfl]
    simp only [RI.enc, Imm.placed, Imm.ln, BitVec.reduceToNat, fld_or, fld_place_apart, fld_place_in, fld_full, fld_zero, Nat.reduceAdd, Nat.reduceLeDiff, Nat.reduceSub, Nat.le_refl, true_or, or_true, and_true, true_and, BitVec.zero_or, BitVec.or_zero, Nat.sub_self, bit1_beq, Prec.ofBits_bits]

theorem Auiip24.read {w : BitVec 96} {f : Auiip24} {c2 : BitVec 7}
    (h : SameLow (8 * wordLen (f.enc ||| place 2 c2 ||| place 0 0#2)) w (f.enc ||| place 2 c2 ||| place 0 0#2)) :
    fld w 0 2 = 0#2 ∧ fld w 2 7 = c2 ∧ Auiip24.ofWord w = f := by
  rw [wordLen_eq (c := 0#2) (by simp only [Auiip24.enc, BitVec.reduceToNat, fld_or, fld_place_apart, fld_place_in, fld_full, fld_zero, Nat.reduceAdd, Nat.reduceLeDiff, Nat.reduceSub, Nat.le_refl, true_or, or_true, and_true, true_and, BitVec.zero_or, BitVec.or_zero, Nat.sub_self, bit1_beq, Prec.ofBits_bits])] at h
  have h0 := ((h 0 2 rfl).trans (by simp only [Auiip24.enc, BitVec.reduceToNat, fld_or, fld_place_apart, fld_place_in, fld_full, fld_zero, Nat.reduceAdd, Nat.reduceLeDiff, Nat.reduceSub, Nat.le_refl, true_or, or_true, and_true, true_and, BitVec.zero_or, BitVec.or_zero, Nat.sub_self, bit1_beq, Prec.ofBits_bits]) : fld w 0 2 = 0#2)
  refine ⟨h0, (h 2 7 rfl).trans (by simp only [Auiip24.enc, BitVec.reduceToNat, fld_or, fld_place_apart, fld_place_in, fld_full, fld_zero, Nat.reduceAdd, Nat.reduceLeDiff, Nat.reduceSub, Nat.le_refl, true_or, or_true, and_true, true_and, BitVec.zero_or, BitVec.or_zero, Nat.sub_self, bit1_beq, Prec.ofBits_bits]), ?_⟩
  simp only [Auiip24.ofWord, h 19 5 rfl, h 9 5 rfl]
  simp only [Auiip24.enc, BitVec.reduceToNat, fld_or, fld_place_apart, fld_place_in, fld_full, fld_zero, Nat.reduceAdd, Nat.reduceLeDiff, Nat.reduceSub, Nat.le_refl, true_or, or_true, and_true, true_and, BitVec.zero_or, BitVec.or_zero, Nat.sub_self, bit1_beq, Prec.ofBits_bits]

theorem Auiip.read {w : BitVec 96} {f : Auiip} {c2 : BitVec 7}
    (h : SameLow (8 * wordLen (f.enc ||| place 2 c2)) w (f.enc ||| place 2 c2)) :
    fld w 0 2 = f.imm.ln ∧ fld w 2 7 = c2 ∧ Auiip.ofWord w = f := by
  obtain ⟨imm, nt, rt⟩ := f
  cases imm
  · rw [wordLen_eq (c := 1#2) (by simp only [Auiip.enc, Imm.placed, Imm.ln, BitVec.reduceToNat, fld_or, fld_place_apart, fld_place_in, fld_full, fld_zero, Nat.reduceAdd, Nat.reduceLeDiff, Nat.reduceSub, Nat.le_refl, true_or, or_true, and_true, true_and, BitVec.zero_or, BitVec.or_zero, Nat.sub_self, bit1_beq, Prec.ofBits_bits])] at h
    have h0 := ((h 0 2 rfl).trans (by simp only [Auiip.enc, Imm.placed, Imm.ln, BitVec.reduceToNat, fld_or, fld_place_apart, fld_place_in, fld_full, fld_zero, Nat.reduceAdd, Nat.reduceLeDiff, Nat.reduceSub, Nat.le_refl, true_or, or_true, and_true, true_and, BitVec.zero_or, BitVec.or_zero, Nat.sub_self, bit1_beq, Prec.ofBits_bits]) : fld w 0 2 = 1#2)
    refine ⟨h0, (h 2 7 rfl).trans (by simp only [Auiip.enc, Imm.placed, Imm.ln, BitVec.reduceToNat, fld_or, fld_place_apart, fld_place_in, fld_full, fld_zero, Nat.reduceAdd, Nat.reduceLeDiff, Nat.reduceSub, Nat.le_refl, true_or, or_true, and_true, true_and, BitVec.zero_or, BitVec.or_zero, Nat.sub_self, bit1_beq, Prec.ofBits_bits]), ?_⟩
    simp only [Auiip.ofWord, flag, Imm.ofWord, h0, h 15 1 rfl, h 9 6 rfl, h 25 23 rfl]
    simp only [Auiip.enc, Imm.placed, Imm.ln, BitVec.reduceToNat, fld_or, fld_place_apart, fld_place_in, fld_full, fld_zero, Nat.reduceAdd, Nat.reduceLeDiff, Nat.reduceSub, Nat.le_refl, true_or, or_true, and_true, true_and, BitVec.zero_or, BitVec.or_zero, Nat.sub_self, bit1_beq, Prec.ofBits_bits]
  · rw [wordLen_eq (c := 2#2) (by simp only [Auiip.enc, Imm.placed, Imm.ln, BitVec.reduceToNat, fld_or, fld_place_apart, fld_place_in, fld_full, fld_zero, Nat.reduceAdd, Nat.reduceLeDiff, Nat.reduceSub, Nat.le_refl, true_or, or_true, and_true, true_and, BitVec.zero_or, BitVec.or_zero, Nat.sub_self, bit1_beq, Prec.ofBits_bits])] at h
    have h0 := ((h 0 2 rfl).trans (by simp only [Auiip.enc, Imm.placed, Imm.ln, BitVec.reduceToNat, fld_or, fld_place_apart, fld_place_in, fld_full, fld_zero, Nat.reduceAdd, Nat.reduceLeDiff, Nat.reduceSub, Nat.le_refl, true_or, or_true, and_true, true_and, BitVec.zero_or, BitVec.or_zero, Nat.sub_self, bit1_beq, Prec.ofBits_bits]) : fld w 0 2 = 2#2)
    refine ⟨h0, (h 2 7 rfl).trans (by simp only [Auiip.enc, Imm.placed, Imm.ln, BitVec.reduceToNat, fld_or, fld_place_apart, fld_place_in, fld_full, fld_zero, Nat.reduceAdd, Nat.reduceLeDiff, Nat.reduceSub, Nat.le_refl, true_or, or_true, and_true, true_and, BitVec.zero_or, BitVec.or_zero, Nat.sub_self, bit1_beq, Prec.ofBits_bits]), ?_⟩
    simp only [Auiip.ofWord, flag, Imm.ofWord, h0, h 15 1 rfl, h 9 6 rfl, h 25 47 rfl]
    simp only [Auiip.enc, Imm.placed, Imm.ln, BitVec.reduceToNat, fld_or, fld_place_apart, fld_place_in, fld_full, fld_zero, Nat.reduceAdd, Nat.reduceLeDiff, Nat.reduceSub, Nat.le_refl, true_or, or_true, and_true, true_and, BitVec.zero_or, BitVec.or_zero, Nat.sub_self, bit1_beq, Prec.ofBits_bits]
  · rw [wordLen_eq (c := 3#2) (by simp only [Auiip.enc, Imm.placed, Imm.ln, BitVec.reduceToNat, fld_or, fld_place_apart, fld_place_in, fld_full, fld_zero, Nat.reduceAdd, Nat.reduceLeDiff, Nat.reduceSub, Nat.le_refl, true_or, or_true, and_true, true_and, BitVec.zero_or, BitVec.or_zero, Nat.sub_self, bit1_beq, Prec.ofBits_bits])] at h
    have h0 := ((h 0 2 rfl).trans (by simp only [Auiip.enc, Imm.placed, Imm.ln, BitVec.reduceToNat, fld_or, fld_place_apart, fld_place_in, fld_full, fld_zero, Nat.reduceAdd, Nat.reduceLeDiff, Nat.reduceSub, Nat.le_refl, true_or, or_true, and_true, true_and, BitVec.zero_or, BitVec.or_zero, Nat.sub_self, bit1_beq, Prec.ofBits_bits]) : fld w 0 2 = 3#2)
    refine ⟨h0, (h 2 7 rfl).trans (by simp only [Auiip.enc, Imm.placed, Imm.ln, BitVec.reduceToNat, fld_or, fld_place_apart, fld_place_in, fld_full, fld_zero, Nat.reduceAdd, Nat.reduceLeDiff, Nat.reduceSub, Nat.le_refl, true_or, or_true, and_true, true_and, BitVec.zero_or, BitVec.or_zero, Nat.sub_self, bit1_beq, Prec.ofBits_bits]), ?_⟩
    simp only [Auiip.ofWord, flag, Imm.ofWord, h0, h 15 1 rfl, h 9 6 rfl, h 25 71 rfl]
    simp only [Auiip.enc, Imm.placed, Imm.ln, BitVec.reduceToNat, fld_or, fld_place_apart, fld_place_in, fld_full, fld_zero, Nat.reduceAdd, Nat.reduceLeDiff, Nat.reduceSub, Nat.le_refl, true_or, or_true, and_true, true_and, BitVec.zero_or, BitVec.or_zero, Nat.sub_self, bit1_beq, Prec.ofBits_bits]

theorem Csr.read {w : BitVec 96} {f : Csr} {c45 : BitVec 3} {c2 : BitVec 7}
    (h : SameLow (8 * wordLen (f.enc ||| place 45 c45 ||| place 2 c2 ||| place 0 1#2)) w (f.enc ||| place 45 c45 ||| place 2 c2 ||| place 0 1#2)) :
    fld w 0 2 = 1#2 ∧ fld w 45 3 = c45 ∧ fld w 2 7 = c2 ∧ Csr.ofWord w = f := by
  rw [wordLen_eq (c := 1#2) (by simp only [Csr.enc, BitVec.reduceToNat, fld_or, fld_place_apart, fld_place_in, fld_full, fld_zero, Nat.reduceAdd, Nat.reduceLeDiff, Nat.reduceSub, Nat.le_refl, true_or, or_true, and_true, true_and, BitVec.zero_or, BitVec.or_zero, Nat.sub_self, bit1_beq, Prec.ofBits_bits])] at h
  have h0 := ((h 0 2 rfl).trans (by simp only [Csr.enc, BitVec.reduceToNat, fld_or, fld_place_apart, fld_place_in, fld_full, fld_zero, Nat.reduceAdd, Nat.reduceLeDiff, Nat.reduceSub, Nat.le_refl, true_or, or_true, and_true, true_and, BitVec.zero_or, BitVec.or_zero, Nat.sub_self, bit1_beq, Prec.ofBits_bits]) : fld w 0 2 = 1#2)
  refine ⟨h0, (h 45 3 rfl).trans (by simp only [Csr.enc, BitVec.reduceToNat, fld_or, fld_place_apart, fld_place_in, fld_full, fld_zero, Nat.reduceAdd, Nat.reduceLeDiff, Nat.reduceSub, Nat.le_refl, true_or, or_true, and_true, true_and, BitVec.zero_or, BitVec.or_zero, Nat.sub_self, bit1_beq, Prec.ofBits_bits]), (h 2 7 rfl).trans (by simp only [Csr.enc, BitVec.reduceToNat, fld_or, fld_place_apart, fld_place_in, fld_full, fld_zero, Nat.reduceAdd, Nat.reduceLeDiff, Nat.reduceSub, Nat.le_refl, true_or, or_true, and_true, true_and, BitVec.zero_or, BitVec.or_zero, Nat.sub_self, bit1_beq, Prec.ofBits_bits]), ?_⟩
  simp only [Csr.ofWord, flag, h 23 14 rfl, h 22 1 rfl, h 16 6 rfl, h 15 1 rfl, h 9 6 rfl]
  simp only [Csr.enc, BitVec.reduceToNat, fld_or, fld_place_apart, fld_place_in, fld_full, fld_zero, Nat.reduceAdd, Nat.reduceLeDiff, Nat.reduceSub, Nat.le_refl, true_or, or_true, and_true, true_and, BitVec.zero_or, BitVec.or_zero, Nat.sub_self, bit1_beq, Prec.ofBits_bits]

theorem CsrImm.read {w : BitVec 96} {f : CsrImm} {c45 : BitVec 3} {c2 : BitVec 7}
    (h : SameLow (8 * wordLen (f.enc ||| place 45 c45 ||| place 2 c2 ||| place 0 1#2)) w (f.enc ||| place 45 c45 ||| place 2 c2 ||| place 0 1#2)) :
    fld w 0 2 = 1#2 ∧ fld w 45 3 = c45 ∧ fld w 2 7 = c2 ∧ CsrImm.ofWord w = f := by
  rw [wordLen_eq (c := 1#2) (by simp only [CsrImm.enc, BitVec.reduceToNat, fld_or, fld_place_apart, fld_place_in, fld_full, fld_zero, Nat.reduceAdd, Nat.reduceLeDiff, Nat.reduceSub, Nat.le_refl, true_or, or_true, and_true, true_and, BitVec.zero_or, BitVec.or_zero, Nat.sub_self, bit1_beq, Prec.ofBits_bits])] at h
  have h0 := ((h 0 2 rfl).trans (by simp only [CsrImm.enc, BitVec.reduceToNat, fld_or, fld_place_apart, fld_place_in, fld_full, fld_zero, Nat.reduceAdd, Nat.reduceLeDiff, Nat.reduceSub, Nat.le_refl, true_or, or_true, and_true, true_and, BitVec.zero_or, BitVec.or_zero, Nat.sub_self, bit1_beq, Prec.ofBits_bits]) : fld w 0 2 = 1#2)
  refine ⟨h0, (h 45 3 rfl).trans (by simp only [CsrImm.enc, BitVec.reduceToNat, fld_or, fld_place_apart, fld_place_in, fld_full, fld_zero, Nat.reduceAdd, Nat.reduceLeDiff, Nat.reduceSub, Nat.le_refl, true_or, or_true, and_true, true_and, BitVec.zero_or, BitVec.or_zero, Nat.sub_self, bit1_beq, Prec.ofBits_bits]), (h 2 7 rfl).trans (by simp only [CsrImm.enc, BitVec.reduceToNat, fld_or, fld_place_apart, fld_place_in, fld_full, fld_zero, Nat.reduceAdd, Nat.reduceLeDiff, Nat.reduceSub, Nat.le_refl, true_or, or_true, and_true, true_and, BitVec.zero_or, BitVec.or_zero, Nat.sub_self, bit1_beq, Prec.ofBits_bits]), ?_⟩
  simp only [CsrImm.ofWord, flag, h 23 14 rfl, h 16 7 rfl, h 15 1 rfl, h 9 6 rfl]
  simp only [CsrImm.enc, BitVec.reduceToNat, fld_or, fld_place_apart, fld_place_in, fld_full, fld_zero, Nat.reduceAdd, Nat.reduceLeDiff, Nat.reduceSub, Nat.le_refl, true_or, or_true, and_true, true_and, BitVec.zero_or, BitVec.or_zero, Nat.sub_self, bit1_beq, Prec.ofBits_bits]

theorem Chk.read {w : BitVec 96} {f : Chk} {c15 : BitVec 1} {c2 : BitVec 7}
    (h : SameLow (8 * wordLen (f.enc ||| place 15 c15 ||| place 2 c2 ||| place 0 1#2)) w (f.enc ||| place 15 c15 ||| place 2 c2 ||| place 0 1#2)) :
    fld w 0 2 = 1#2 ∧ fld w 15 1 = c15 ∧ fld w 2 7 = c2 ∧ Chk.ofWord w = f := by
  rw [wordLen_eq (c := 1#2) (by simp only [Chk.enc, BitVec.reduceToNat, fld_or, fld_place_apart, fld_place_in, fld_full, fld_zero, Nat.reduceAdd, Nat.reduceLeDiff, Nat.reduceSub, Nat.le_refl, true_or, or_true, and_true, true_and, BitVec.zero_or, BitVec.or_zero, Nat.sub_self, bit1_beq, Prec.ofBits_bits])] at h
  have h0 := ((h 0 2 rfl).trans (by simp only [Chk.enc, BitVec.reduceToNat, fld_or, fld_place_apart, fld_place_in, fld_full, fld_zero, Nat.reduceAdd, Nat.reduceLeDiff, Nat.reduceSub, Nat.le_refl, true_or, or_true, and_true, true_and, BitVec.zero_or, BitVec.or_zero, Nat.sub_self, bit1_beq, Prec.ofBits_bits]) : fld w 0 2 = 1#2)
  refine ⟨h0, (h 15 1 rfl).trans (by simp only [Chk.enc, BitVec.reduceToNat, fld_or, fld_place_apart, fld_place_in, fld_full, fld_zero, Nat.reduceAdd, Nat.reduceLeDiff, Nat.reduceSub, Nat.le_refl, true_or, or_true, and_true, true_and, BitVec.zero_or, BitVec.or_zero, Nat.sub_self, bit1_beq, Prec.ofBits_bits]), (h 2 7 rfl).trans (by simp only [Chk.enc, BitVec.reduceToNat, fld_or, fld_place_apart, fld_place_in, fld_full, fld_zero, Nat.reduceAdd, Nat.reduceLeDiff, Nat.reduceSub, Nat.le_refl, true_or, or_true, and_true, true_and, BitVec.zero_or, BitVec.or_zero, Nat.sub_self, bit1_beq, Prec.ofBits_bits]), ?_⟩
  simp only [Chk.ofWord, flag, h 44 4 rfl, h 36 1 rfl, h 30 6 rfl, h 29 1 rfl, h 23 6 rfl, h 22 1 rfl, h 16 6 rfl, h 9 6 rfl]
  simp only [Chk.enc, BitVec.reduceToNat, fld_or, fld_place_apart, fld_place_in, fld_full, fld_zero, Nat.reduceAdd, Nat.reduceLeDiff, Nat.reduceSub, Nat.le_refl, true_or, or_true, and_true, true_and, BitVec.zero_or, BitVec.or_zero, Nat.sub_self, bit1_beq, Prec.ofBits_bits]

theorem R3.read {w : BitVec 96} {f : R3} {c41 : BitVec 7} {c4 : BitVec 5}
    (h : SameLow (8 * wordLen (f.enc ||| place 41 c41 ||| place 4 c4 ||| place 0 1#2)) w (f.enc ||| place 41 c41 ||| place 4 c4 ||| place 0 1#2)) :
    fld w 0 2 = 1#2 ∧ fld w 41 7 = c41 ∧ fld w 4 5 = c4 ∧ fld w 2 2 = f.prec.bits ∧ R3.ofWord w = f := by
  rw [wordLen_eq (c := 1#2) (by simp only [R3.enc, BitVec.reduceToNat, fld_or, fld_place_apart, fld_place_in, fld_full, fld_zero, Nat.reduceAdd, Nat.reduceLeDiff, Nat.reduceSub, Nat.le_refl, true_or, or_true, and_true, true_and, BitVec.zero_or, BitVec.or_zero, Nat.sub_self, bit1_beq, Prec.ofBits_bits])] at h
  have h0 := ((h 0 2 rfl).trans (by simp only [R3.enc, BitVec.reduceToNat, fld_or, fld_place_apart, fld_place_in, fld_full, fld_zero, Nat.reduceAdd, Nat.reduceLeDiff, Nat.reduceSub, Nat.le_refl, true_or, or_true, and_true, true_and, BitVec.zero_or, BitVec.or_zero, Nat.sub_self, bit1_beq, Prec.ofBits_bits]) : fld w 0 2 = 1#2)
  refine ⟨h0, (h 41 7 rfl).trans (by simp only [R3.enc, BitVec.reduceToNat, fld_or, fld_place_apart, fld_place_in, fld_full, fld_zero, Nat.reduceAdd, Nat.reduceLeDiff, Nat.reduceSub, Nat.le_refl, true_or, or_true, and_true, true_and, BitVec.zero_or, BitVec.or_zero, Nat.sub_self, bit1_beq, Prec.ofBits_bits]), (h 4 5 rfl).trans (by simp only [R3.enc, BitVec.reduceToNat, fld_or, fld_place_apart, fld_place_in, fld_full, fld_zero, Nat.reduceAdd, Nat.reduceLeDiff, Nat.reduceSub, Nat.le_refl, true_or, or_true, and_true, true_and, BitVec.zero_or, BitVec.or_zero, Nat.sub_self, bit1_beq, Prec.ofBits_bits]), (h 2 2 rfl).trans (by simp only [R3.enc, BitVec.reduceToNat, fld_or, fld_place_apart, fld_place_in, fld_full, fld_zero, Nat.reduceAdd, Nat.reduceLeDiff, Nat.reduceSub, Nat.le_refl, true_or, or_true, and_true, true_and, BitVec.zero_or, BitVec.or_zero, Nat.sub_self, bit1_beq, Prec.ofBits_bits]), ?_⟩
  simp only [R3.ofWord, flag, h 37 4 rfl, h 36 1 rfl, h 30 6 rfl, h 29 1 rfl, h 23 6 rfl, h 22 1 rfl, h 16 6 rfl, h 15 1 rfl, h 9 6 rfl, h 2 2 rfl]
  simp only [R3.enc, BitVec.reduceToNat, fld_or, fld_place_apart, fld_place_in, fld_full, fld_zero, Nat.reduceAdd, Nat.reduceLeDiff, Nat.reduceSub, Nat.le_refl, true_or, or_true, and_true, true_and, BitVec.zero_or, BitVec.or_zero, Nat.sub_self, bit1_beq, Prec.ofBits_bits]

theorem Cpuid.read {w : BitVec 96} {f : Cpuid} {c41 : BitVec 7} {c2 : BitVec 7}
    (h : SameLow (8 * wordLen (f.enc ||| place 41 c41 ||| place 2 c2 ||| place 0 1#2)) w (f.enc ||| place 41 c41 ||| place 2 c2 ||| place 0 1#2)) :
    fld w 0 2 = 1#2 ∧ fld w 41 7 = c41 ∧ fld w 2 7 = c2 ∧ Cpuid.ofWord w = f := by
  rw [wordLen_eq (c := 1#2) (by simp only [Cpuid.enc, BitVec.reduceToNat, fld_or, fld_place_apart, fld_place_in, fld_full, fld_zero, Nat.reduceAdd, Nat.reduceLeDiff, Nat.reduceSub, Nat.le_refl, true_or, or_true, and_true, true_and, BitVec.zero_or, BitVec.or_zero, Nat.sub_self, bit1_beq, Prec.ofBits_bits])] at h
  have h0 := ((h 0 2 rfl).trans (by simp only [Cpuid.enc, BitVec.reduceToNat, fld_or, fld_place_apart, fld_place_in, fld_full, fld_zero, Nat.reduceAdd, Nat.reduceLeDiff, Nat.reduceSub, Nat.le_refl, true_or, or_true, and_true, true_and, BitVec.zero_or, BitVec.or_zero, Nat.sub_self, bit1_beq, Prec.ofBits_bits]) : fld w 0 2 = 1#2)
  refine ⟨h0, (h 41 7 rfl).trans (by simp only [Cpuid.enc, BitVec.reduceToNat, fld_or, fld_place_apart, fld_place_in, fld_full, fld_zero, Nat.reduceAdd, Nat.reduceLeDiff, Nat.reduceSub, Nat.le_refl, true_or, or_true, and_true, true_and, BitVec.zero_or, BitVec.or_zero, Nat.sub_self, bit1_beq, Prec.ofBits_bits]), (h 2 7 rfl).trans (by simp only [Cpuid.enc, BitVec.reduceToNat, fld_or, fld_place_apart, fld_place_in, fld_full, fld_zero, Nat.reduceAdd, Nat.reduceLeDiff, Nat.reduceSub, Nat.le_refl, true_or, or_true, and_true, true_and, BitVec.zero_or, BitVec.or_zero, Nat.sub_self, bit1_beq, Prec.ofBits_bits]), ?_⟩
  simp only [Cpuid.ofWord, flag, h 30 6 rfl, h 29 1 rfl, h 23 6 rfl, h 22 1 rfl, h 16 6 rfl, h 15 1 rfl, h 9 6 rfl]
  simp only [Cpuid.enc, BitVec.reduceToNat, fld_or, fld_place_apart, fld_place_in, fld_full, fld_zero, Nat.reduceAdd, Nat.reduceLeDiff, Nat.reduceSub, Nat.le_refl, true_or, or_true, and_true, true_and, BitVec.zero_or, BitVec.or_zero, Nat.sub_self, bit1_beq, Prec.ofBits_bits]

theorem R1.read {w : BitVec 96} {f : R1} {c41 : BitVec 7} {c30 : BitVec 6} {c4 : BitVec 5}
    (h : SameLow (8 * wordLen (f.enc ||| place 41 c41 ||| place 30 c30 ||| place 4 c4 ||| place 0 1#2)) w (f.enc ||| place 41 c41 ||| place 30 c30 ||| place 4 c4 ||| place 0 1#2)) :
    fld w 0 2 = 1#2 ∧ fld w 41 7 = c41 ∧ fld w 30 6 = c30 ∧ fld w 4 5 = c4 ∧ fld w 2 2 = f.prec.bits ∧ R1.ofWord w = f := by
  rw [wordLen_eq (c := 1#2) (by simp only [R1.enc, BitVec.reduceToNat, fld_or, fld_place_apart, fld_place_in, fld_full, fld_zero, Nat.reduceAdd, Nat.reduceLeDiff, Nat.reduceSub, Nat.le_refl, true_or, or_true, and_true, true_and, BitVec.zero_or, BitVec.or_zero, Nat.sub_self, bit1_beq, Prec.ofBits_bits])] at h
  have h0 := ((h 0 2 rfl).trans (by simp only [R1.enc, BitVec.reduceToNat, fld_or, fld_place_apart, fld_place_in, fld_full, fld_zero, Nat.reduceAdd, Nat.reduceLeDiff, Nat.reduceSub, Nat.le_refl, true_or, or_true, and_true, true_and, BitVec.zero_or, BitVec.or_zero, Nat.sub_self, bit1_beq, Prec.ofBits_bits]) : fld w 0 2 = 1#2)
  refine ⟨h0, (h 41 7 rfl).trans (by simp only [R1.enc, BitVec.reduceToNat, fld_or, fld_place_apart, fld_place_in, fld_full, fld_zero, Nat.reduceAdd, Nat.reduceLeDiff, Nat.reduceSub, Nat.le_refl, true_or, or_true, and_true, true_and, BitVec.zero_or, BitVec.or_zero, Nat.sub_self, bit1_beq, Prec.ofBits_bits]), (h 30 6 rfl).trans (by simp only [R1.enc, BitVec.reduceToNat, fld_or, fld_place_apart, fld_place_in, fld_full, fld_zero, Nat.reduceAdd, Nat.reduceLeDiff, Nat.reduceSub, Nat.le_refl, true_or, or_true, and_true, true_and, BitVec.zero_or, BitVec.or_zero, Nat.sub_self, bit1_beq, Prec.ofBits_bits]), (h 4 5 rfl).trans (by simp only [R1.enc, BitVec.reduceToNat, fld_or, fld_place_apart, fld_place_in, fld_full, fld_zero, Nat.reduceAdd, Nat.reduceLeDiff, Nat.reduceSub, Nat.le_refl, true_or, or_true, and_true, true_and, BitVec.zero_or, BitVec.or_zero, Nat.sub_self, bit1_beq, Prec.ofBits_bits]), (h 2 2 rfl).trans (by simp only [R1.enc, BitVec.reduceToNat, fld_or, fld_place_apart, fld_place_in, fld_full, fld_zero, Nat.reduceAdd, Nat.reduceLeDiff, Nat.reduceSub, Nat.le_refl, true_or, or_true, and_true, true_and, BitVec.zero_or, BitVec.or_zero, Nat.sub_self, bit1_beq, Prec.ofBits_bits]), ?_⟩
  simp only [R1.ofWord, flag, h 37 4 rfl, h 22 1 rfl, h 16 6 rfl, h 15 1 rfl, h 9 6 rfl, h 2 2 rfl]
  simp only [R1.enc, BitVec.reduceToNat, fld_or, fld_place_apart, fld_place_in, fld_full, fld_zero, Nat.reduceAdd, Nat.reduceLeDiff, Nat.reduceSub, Nat.le_refl, true_or, or_true, and_true, true_and, BitVec.zero_or, BitVec.or_zero, Nat.sub_self, bit1_beq, Prec.ofBits_bits]

theorem Bmm.read {w : BitVec 96} {f : Bmm} {c41 : BitVec 7} {c2 : BitVec 7}
    (h : SameLow (8 * wordLen (f.enc ||| place 41 c41 ||| place 2 c2 ||| place 0 1#2)) w (f.enc ||| place 41 c41 ||| place 2 c2 ||| place 0 1#2)) :
    fld w 0 2 = 1#2 ∧ fld w 41 7 = c41 ∧ fld w 2 7 = c2 ∧ Bmm.ofWord w = f := by
  rw [wordLen_eq (c := 1#2) (by simp only [Bmm.enc, BitVec.reduceToNat, fld_or, fld_place_apart, fld_place_in, fld_full, fld_zero, Nat.reduceAdd, Nat.reduceLeDiff, Nat.reduceSub, Nat.le_refl, true_or, or_true, and_true, true_and, BitVec.zero_or, BitVec.or_zero, Nat.sub_self, bit1_beq, Prec.ofBits_bits])] at h
  have h0 := ((h 0 2 rfl).trans (by simp only [Bmm.enc, BitVec.reduceToNat, fld_or, fld_place_apart, fld_place_in, fld_full, fld_zero, Nat.reduceAdd, Nat.reduceLeDiff, Nat.reduceSub, Nat.le_refl, true_or, or_true, and_true, true_and, BitVec.zero_or, BitVec.or_zero, Nat.sub_self, bit1_beq, Prec.ofBits_bits]) : fld w 0 2 = 1#2)
  refine ⟨h0, (h 41 7 rfl).trans (by simp only [Bmm.enc, BitVec.reduceToNat, fld_or, fld_place_apart, fld_place_in, fld_full, fld_zero, Nat.reduceAdd, Nat.reduceLeDiff, Nat.reduceSub, Nat.le_refl, true_or, or_true, and_true, true_and, BitVec.zero_or, BitVec.or_zero, Nat.sub_self, bit1_beq, Prec.ofBits_bits]), (h 2 7 rfl).trans (by simp only [Bmm.enc, BitVec.reduceToNat, fld_or, fld_place_apart, fld_place_in, fld_full, fld_zero, Nat.reduceAdd, Nat.reduceLeDiff, Nat.reduceSub, Nat.le_refl, true_or, or_true, and_true, true_and, BitVec.zero_or, BitVec.or_zero, Nat.sub_self, bit1_beq, Prec.ofBits_bits]), ?_⟩
  simp only [Bmm.ofWord, flag, h 38 3 rfl, h 29 1 rfl, h 23 6 rfl, h 22 1 rfl, h 16 6 rfl, h 15 1 rfl, h 9 6 rfl]
  simp only [Bmm.enc, BitVec.reduceToNat, fld_or, fld_place_apart, fld_place_in, fld_full, fld_zero, Nat.reduceAdd, Nat.reduceLeDiff, Nat.reduceSub, Nat.le_refl, true_or, or_true, and_true, true_and, BitVec.zero_or, BitVec.or_zero, Nat.sub_self, bit1_beq, Prec.ofBits_bits]

theorem Ndx.read {w : BitVec 96} {f : Ndx} {c41 : BitVec 7} {c4 : BitVec 5}
    (h : SameLow (8 * wordLen (f.enc ||| place 41 c41 ||| place 4 c4 ||| place 0 1#2)) w (f.enc ||| place 41 c41 ||| place 4 c4 ||| place 0 1#2)) :
    fld w 0 2 = 1#2 ∧ fld w 41 7 = c41 ∧ fld w 4 5 = c4 ∧ fld w 2 2 = f.prec.bits ∧ Ndx.ofWord w = f := by
  rw [wordLen_eq (c := 1#2) (by simp only [Ndx.enc, BitVec.reduceToNat, fld_or, fld_place_apart, fld_place_in, fld_full, fld_zero, Nat.reduceAdd, Nat.reduceLeDiff, Nat.reduceSub, Nat.le_refl, true_or, or_true, and_true, true_and, BitVec.zero_or, BitVec.or_zero, Nat.sub_self, bit1_beq, Prec.ofBits_bits])] at h
  have h0 := ((h 0 2 rfl).trans (by simp only [Ndx.enc, BitVec.reduceToNat, fld_or, fld_place_apart, fld_place_in, fld_full, fld_zero, Nat.reduceAdd, Nat.reduceLeDiff, Nat.reduceSub, Nat.le_refl, true_or, or_true, and_true, true_and, BitVec.zero_or, BitVec.or_zero, Nat.sub_self, bit1_beq, Prec.ofBits_bits]) : fld w 0 2 = 1#2)
  refine ⟨h0, (h 41 7 rfl).trans (by simp only [Ndx.enc, BitVec.reduceToNat, fld_or, fld_place_apart, fld_place_in, fld_full, fld_zero, Nat.reduceAdd, Nat.reduceLeDiff, Nat.reduceSub, Nat.le_refl, true_or, or_true, and_true, true_and, BitVec.zero_or, BitVec.or_zero, Nat.sub_self, bit1_beq, Prec.ofBits_bits]), (h 4 5 rfl).trans (by simp only [Ndx.enc, BitVec.reduceToNat, fld_or, fld_place_apart, fld_place_in, fld_full, fld_zero, Nat.reduceAdd, Nat.reduceLeDiff, Nat.reduceSub, Nat.le_refl, true_or, or_true, and_true, true_and, BitVec.zero_or, BitVec.or_zero, Nat.sub_self, bit1_beq, Prec.ofBits_bits]), (h 2 2 rfl).trans (by simp only [Ndx.enc, BitVec.reduceToNat, fld_or, fld_place_apart, fld_place_in, fld_full, fld_zero, Nat.reduceAdd, Nat.reduceLeDiff, Nat.reduceSub, Nat.le_refl, true_or, or_true, and_true, true_and, BitVec.zero_or, BitVec.or_zero, Nat.sub_self, bit1_beq, Prec.ofBits_bits]), ?_⟩
  simp only [Ndx.ofWord, flag, h 40 1 rfl, h 38 2 rfl, h 30 8 rfl, h 29 1 rfl, h 23 6 rfl, h 22 1 rfl, h 16 6 rfl, h 15 1 rfl, h 9 6 rfl, h 2 2 rfl]
  simp only [Ndx.enc, BitVec.reduceToNat, fld_or, fld_place_apart, fld_place_in, fld_full, fld_zero, Nat.reduceAdd, Nat.reduceLeDiff, Nat.reduceSub, Nat.le_refl, true_or, or_true, and_true, true_and, BitVec.zero_or, BitVec.or_zero, Nat.sub_self, bit1_beq, Prec.ofBits_bits]

theorem ShiftH.read {w : BitVec 96} {f : ShiftH} {c44 : BitVec 4} {c4 : BitVec 5}
    (h : SameLow (8 * wordLen (f.enc ||| place 44 c44 ||| place 4 c4 ||| place 0 1#2)) w (f.enc ||| place 44 c44 ||| place 4 c4 ||| place 0 1#2)) :
    fld w 0 2 = 1#2 ∧ fld w 44 4 = c44 ∧ fld w 4 5 = c4 ∧ fld w 2 2 = f.prec.bits ∧ ShiftH.ofWord w = f := by
  rw [wordLen_eq (c := 1#2) (by simp only [ShiftH.enc, BitVec.reduceToNat, fld_or, fld_place_apart, fld_place_in, fld_full, fld_zero, Nat.reduceAdd, Nat.reduceLeDiff, Nat.reduceSub, Nat.le_refl, true_or, or_true, and_true, true_and, BitVec.zero_or, BitVec.or_zero, Nat.sub_self, bit1_beq, Prec.ofBits_bits])] at h
  have h0 := ((h 0 2 rfl).trans (by simp only [ShiftH.enc, BitVec.reduceToNat, fld_or, fld_place_apart, fld_place_in, fld_full, fld_zero, Nat.reduceAdd, Nat.reduceLeDiff, Nat.reduceSub, Nat.le_refl, true_or, or_true, and_true, true_and, BitVec.zero_or, BitVec.or_zero, Nat.sub_self, bit1_beq, Prec.ofBits_bits]) : fld w 0 2 = 1#2)
  refine ⟨h0, (h 44 4 rfl).trans (by simp only [ShiftH.enc, BitVec.reduceToNat, fld_or, fld_place_apart, fld_place_in, fld_full, fld_zero, Nat.reduceAdd, Nat.reduceLeDiff, Nat.reduceSub, Nat.le_refl, true_or, or_true, and_true, true_and, BitVec.zero_or, BitVec.or_zero, Nat.sub_self, bit1_beq, Prec.ofBits_bits]), (h 4 5 rfl).trans (by simp only [ShiftH.enc, BitVec.reduceToNat, fld_or, fld_place_apart, fld_place_in, fld_full, fld_zero, Nat.reduceAdd, Nat.reduceLeDiff, Nat.reduceSub, Nat.le_refl, true_or, or_true, and_true, true_and, BitVec.zero_or, BitVec.or_zero, Nat.sub_self, bit1_beq, Prec.ofBits_bits]), (h 2 2 rfl).trans (by simp only [ShiftH.enc, BitVec.reduceToNat, fld_or, fld_place_apart, fld_place_in, fld_full, fld_zero, Nat.reduceAdd, Nat.reduceLeDiff, Nat.reduceSub, Nat.le_refl, true_or, or_true, and_true, true_and, BitVec.zero_or, BitVec.or_zero, Nat.sub_self, bit1_beq, Prec.ofBits_bits]), ?_⟩
  simp only [ShiftH.ofWord, flag, h 43 1 rfl, h 36 1 rfl, h 30 6 rfl, h 29 1 rfl, h 23 6 rfl, h 22 1 rfl, h 16 6 rfl, h 15 1 rfl, h 9 6 rfl, h 2 2 rfl]
  simp only [ShiftH.enc, BitVec.reduceToNat, fld_or, fld_place_apart, fld_place_in, fld_full, fld_zero, Nat.reduceAdd, Nat.reduceLeDiff, Nat.reduceSub, Nat.le_refl, true_or, or_true, and_true, true_and, BitVec.zero_or, BitVec.or_zero, Nat.sub_self, bit1_beq, Prec.ofBits_bits]

theorem Shift.read {w : BitVec 96} {f : Shift} {c44 : BitVec 4} {c4 : BitVec 5}
    (h : SameLow (8 * wordLen (f.enc ||| place 44 c44 ||| place 4 c4 ||| place 0 1#2)) w (f.enc ||| place 44 c44 ||| place 4 c4 ||| place 0 1#2)) :
    fld w 0 2 = 1#2 ∧ fld w 44 4 = c44 ∧ fld w 4 5 = c4 ∧ fld w 2 2 = f.prec.bits ∧ Shift.ofWord w = f := by
  rw [wordLen_eq (c := 1#2) (by simp only [Shift.enc, BitVec.reduceToNat, fld_or, fld_place_apart, fld_place_in, fld_full, fld_zero, Nat.reduceAdd, Nat.reduceLeDiff, Nat.reduceSub, Nat.le_refl, true_or, or_true, and_true, true_and, BitVec.zero_or, BitVec.or_zero, Nat.sub_self, bit1_beq, Prec.ofBits_bits])] at h
  have h0 := ((h 0 2 rfl).trans (by simp only [Shift.enc, BitVec.reduceToNat, fld_or, fld_place_apart, fld_place_in, fld_full, fld_zero, Nat.reduceAdd, Nat.reduceLeDiff, Nat.reduceSub, Nat.le_refl, true_or, or_true, and_true, true_and, BitVec.zero_or, BitVec.or_zero, Nat.sub_self, bit1_beq, Prec.ofBits_bits]) : fld w 0 2 = 1#2)
  refine ⟨h0, (h 44 4 rfl).trans (by simp only [Shift.enc, BitVec.reduceToNat, fld_or, fld_place_apart, fld_place_in, fld_full, fld_zero, Nat.reduceAdd, Nat.reduceLeDiff, Nat.reduceSub, Nat.le_refl, true_or, or_true, and_true, true_and, BitVec.zero_or, BitVec.or_zero, Nat.sub_self, bit1_beq, Prec.ofBits_bits]), (h 4 5 rfl).trans (by simp only [Shift.enc, BitVec.reduceToNat, fld_or, fld_place_apart, fld_place_in, fld_full, fld_zero, Nat.reduceAdd, Nat.reduceLeDiff, Nat.reduceSub, Nat.le_refl, true_or, or_true, and_true, true_and, BitVec.zero_or, BitVec.or_zero, Nat.sub_self, bit1_beq, Prec.ofBits_bits]), (h 2 2 rfl).trans (by simp only [Shift.enc, BitVec.reduceToNat, fld_or, fld_place_apart, fld_place_in, fld_full, fld_zero, Nat.reduceAdd, Nat.reduceLeDiff, Nat.reduceSub, Nat.le_refl, true_or, or_true, and_true, true_and, BitVec.zero_or, BitVec.or_zero, Nat.sub_self, bit1_beq, Prec.ofBits_bits]), ?_⟩
  simp only [Shift.ofWord, flag, h 36 1 rfl, h 30 6 rfl, h 29 1 rfl, h 23 6 rfl, h 22 1 rfl, h 16 6 rfl, h 15 1 rfl, h 9 6 rfl, h 2 2 rfl]
  simp only [Shift.enc, BitVec.reduceToNat, fld_or, fld_place_apart, fld_place_in, fld_full, fld_zero, Nat.reduceAdd, Nat.reduceLeDiff, Nat.reduceSub, Nat.le_refl, true_or, or_true, and_true, true_and, BitVec.zero_or, BitVec.or_zero, Nat.sub_self, bit1_beq, Prec.ofBits_bits]

theorem ShiftHI.read {w : BitVec 96} {f : ShiftHI} {c44 : BitVec 4} {c4 : BitVec 5}
    (h : SameLow (8 * wordLen (f.enc ||| place 44 c44 ||| place 4 c4 ||| place 0 1#2)) w (f.enc ||| place 44 c44 ||| place 4 c4 ||| place 0 1#2)) :
    fld w 0 2 = 1#2 ∧ fld w 44 4 = c44 ∧ fld w 4 5 = c4 ∧ fld w 2 2 = f.prec.bits ∧ ShiftHI.ofWord w = f := by
  rw [wordLen_eq (c := 1#2) (by simp only [ShiftHI.enc, BitVec.reduceToNat, fld_or, fld_place_apart, fld_place_in, fld_full, fld_zero, Nat.reduceAdd, Nat.reduceLeDiff, Nat.reduceSub, Nat.le_refl, true_or, or_true, and_true, true_and, BitVec.zero_or, BitVec.or_zero, Nat.sub_self, bit1_beq, Prec.ofBits_bits])] at h
  have h0 := ((h 0 2 rfl).trans (by simp only [ShiftHI.enc, BitVec.reduceToNat, fld_or, fld_place_apart, fld_place_in, fld_full, fld_zero, Nat.reduceAdd, Nat.reduceLeDiff, Nat.reduceSub, Nat.le_refl, true_or, or_true, and_true, true_and, BitVec.zero_or, BitVec.or_zero, Nat.sub_self, bit1_beq, Prec.ofBits_bits]) : fld w 0 2 = 1#2)
  refine ⟨h0, (h 44 4 rfl).trans (by simp only [ShiftHI.enc, BitVec.reduceToNat, fld_or, fld_place_apart, fld_place_in, fld_full, fld_zero, Nat.reduceAdd, Nat.reduceLeDiff, Nat.reduceSub, Nat.le_refl, true_or, or_true, and_true, true_and, BitVec.zero_or, BitVec.or_zero, Nat.sub_self, bit1_beq, Prec.ofBits_bits]), (h 4 5 rfl).trans (by simp only [ShiftHI.enc, BitVec.reduceToNat, fld_or, fld_place_apart, fld_place_in, fld_full, fld_zero, Nat.reduceAdd, Nat.reduceLeDiff, Nat.reduceSub, Nat.le_refl, true_or, or_true, and_true, true_and, BitVec.zero_or, BitVec.or_zero, Nat.sub_self, bit1_beq, Prec.ofBits_bits]), (h 2 2 rfl).trans (by simp only [ShiftHI.enc, BitVec.reduceToNat, fld_or, fld_place_apart, fld_place_in, fld_full, fld_zero, Nat.reduceAdd, Nat.reduceLeDiff, Nat.reduceSub, Nat.le_refl, true_or, or_true, and_true, true_and, BitVec.zero_or, BitVec.or_zero, Nat.sub_self, bit1_beq, Prec.ofBits_bits]), ?_⟩
  simp only [ShiftHI.ofWord, flag, h 43 1 rfl, h 30 7 rfl, h 29 1 rfl, h 23 6 rfl, h 22 1 rfl, h 16 6 rfl, h 15 1 rfl, h 9 6 rfl, h 2 2 rfl]
  simp only [ShiftHI.enc, BitVec.reduceToNat, fld_or, fld_place_apart, fld_place_in, fld_full, fld_zero, Nat.reduceAdd, Nat.reduceLeDiff, Nat.reduceSub, Nat.le_refl, true_or, or_true, and_true, true_and, BitVec.zero_or, BitVec.or_zero, Nat.sub_self, bit1_beq, Prec.ofBits_bits]

theorem ShiftI.read {w : BitVec 96} {f : ShiftI} {c44 : BitVec 4} {c4 : BitVec 5}
    (h : SameLow (8 * wordLen (f.enc ||| place 44 c44 ||| place 4 c4 ||| place 0 1#2)) w (f.enc ||| place 44 c44 ||| place 4 c4 ||| place 0 1#2)) :
    fld w 0 2 = 1#2 ∧ fld w 44 4 = c44 ∧ fld w 4 5 = c4 ∧ fld w 2 2 = f.prec.bits ∧ ShiftI.ofWord w = f := by
  rw [wordLen_eq (c := 1#2) (by simp only [ShiftI.enc, BitVec.reduceToNat, fld_or, fld_place_apart, fld_place_in, fld_full, fld_zero, Nat.reduceAdd, Nat.reduceLeDiff, Nat.reduceSub, Nat.le_refl, true_or, or_true, and_true, true_and, BitVec.zero_or, BitVec.or_zero, Nat.sub_self, bit1_beq, Prec.ofBits_bits])] at h
  have h0 := ((h 0 2 rfl).trans (by simp only [ShiftI.enc, BitVec.reduceToNat, fld_or, fld_place_apart, fld_place_in, fld_full, fld_zero, Nat.reduceAdd, Nat.reduceLeDiff, Nat.reduceSub, Nat.le_refl, true_or, or_true, and_true, true_and, BitVec.zero_or, BitVec.or_zero, Nat.sub_self, bit1_beq, Prec.ofBits_bits]) : fld w 0 2 = 1#2)
  refine ⟨h0, (h 44 4 rfl).trans (by simp only [ShiftI.enc, BitVec.reduceToNat, fld_or, fld_place_apart, fld_place_in, fld_full, fld_zero, Nat.reduceAdd, Nat.reduceLeDiff, Nat.reduceSub, Nat.le_refl, true_or, or_true, and_true, true_and, BitVec.zero_or, BitVec.or_zero, Nat.sub_self, bit1_beq, Prec.ofBits_bits]), (h 4 5 rfl).trans (by simp only [ShiftI.enc, BitVec.reduceToNat, fld_or, fld_place_apart, fld_place_in, fld_full, fld_zero, Nat.reduceAdd, Nat.reduceLeDiff, Nat.reduceSub, Nat.le_refl, true_or, or_true, and_true, true_and, BitVec.zero_or, BitVec.or_zero, Nat.sub_self, bit1_beq, Prec.ofBits_bits]), (h 2 2 rfl).trans (by simp only [ShiftI.enc, BitVec.reduceToNat, fld_or, fld_place_apart, fld_place_in, fld_full, fld_zero, Nat.reduceAdd, Nat.reduceLeDiff, Nat.reduceSub, Nat.le_refl, true_or, or_true, and_true, true_and, BitVec.zero_or, BitVec.or_zero, Nat.sub_self, bit1_beq, Prec.ofBits_bits]), ?_⟩
  simp only [ShiftI.ofWord, flag, h 37 7 rfl, h 30 7 rfl, h 29 1 rfl, h 23 6 rfl, h 22 1 rfl, h 16 6 rfl, h 15 1 rfl, h 9 6 rfl, h 2 2 rfl]
  simp only [ShiftI.enc, BitVec.reduceToNat, fld_or, fld_place_apart, fld_place_in, fld_full, fld_zero, Nat.reduceAdd, Nat.reduceLeDiff, Nat.reduceSub, Nat.le_refl, true_or, or_true, and_true, true_and, BitVec.zero_or, BitVec.or_zero, Nat.sub_self, bit1_beq, Prec.ofBits_bits]

theorem Flt3.read {w : BitVec 96} {f : Flt3} {c41 : BitVec 7} {c36 : BitVec 1}
    (h : SameLow (8 * wordLen (f.enc ||| place 41 c41 ||| place 36 c36 ||| place 0 1#2)) w (f.enc ||| place 41 c41 ||| place 36 c36 ||| place 0 1#2)) :
    fld w 0 2 = 1#2 ∧ fld w 41 7 = c41 ∧ fld w 36 1 = c36 ∧ fld w 2 7 = f.fmt.root ∧ Flt3.ofWord w = f := by
  rw [wordLen_eq (c := 1#2) (by simp only [Flt3.enc, BitVec.reduceToNat, fld_or, fld_place_apart, fld_place_in, fld_full, fld_zero, Nat.reduceAdd, Nat.reduceLeDiff, Nat.reduceSub, Nat.le_refl, true_or, or_true, and_true, true_and, BitVec.zero_or, BitVec.or_zero, Nat.sub_self, bit1_beq, Prec.ofBits_bits])] at h
  have h0 := ((h 0 2 rfl).trans (by simp only [Flt3.enc, BitVec.reduceToNat, fld_or, fld_place_apart, fld_place_in, fld_full, fld_zero, Nat.reduceAdd, Nat.reduceLeDiff, Nat.reduceSub, Nat.le_refl, true_or, or_true, and_true, true_and, BitVec.zero_or, BitVec.or_zero, Nat.sub_self, bit1_beq, Prec.ofBits_bits]) : fld w 0 2 = 1#2)
  have hr : fld w 2 7 = f.fmt.root := (h 2 7 rfl).trans (by simp only [Flt3.enc, BitVec.reduceToNat, fld_or, fld_place_apart, fld_place_in, fld_full, fld_zero, Nat.reduceAdd, Nat.reduceLeDiff, Nat.reduceSub, Nat.le_refl, true_or, or_true, and_true, true_and, BitVec.zero_or, BitVec.or_zero, Nat.sub_self, bit1_beq, Prec.ofBits_bits])
  refine ⟨h0, (h 41 7 rfl).trans (by simp only [Flt3.enc, BitVec.reduceToNat, fld_or, fld_place_apart, fld_place_in, fld_full, fld_zero, Nat.reduceAdd, Nat.reduceLeDiff, Nat.reduceSub, Nat.le_refl, true_or, or_true, and_true, true_and, BitVec.zero_or, BitVec.or_zero, Nat.sub_self, bit1_beq, Prec.ofBits_bits]), (h 36 1 rfl).trans (by simp only [Flt3.enc, BitVec.reduceToNat, fld_or, fld_place_apart, fld_place_in, fld_full, fld_zero, Nat.reduceAdd, Nat.reduceLeDiff, Nat.reduceSub, Nat.le_refl, true_or, or_true, and_true, true_and, BitVec.zero_or, BitVec.or_zero, Nat.sub_self, bit1_beq, Prec.ofBits_bits]), hr, ?_⟩
  simp only [Flt3.ofWord, flag, FFmt.ofWord_eq hr, h 37 3 rfl, h 30 6 rfl, h 29 1 rfl, h 23 6 rfl, h 22 1 rfl, h 16 6 rfl, h 15 1 rfl, h 9 6 rfl]
  simp only [Flt3.enc, BitVec.reduceToNat, fld_or, fld_place_apart, fld_place_in, fld_full, fld_zero, Nat.reduceAdd, Nat.reduceLeDiff, Nat.reduceSub, Nat.le_refl, true_or, or_true, and_true, true_and, BitVec.zero_or, BitVec.or_zero, Nat.sub_self, bit1_beq, Prec.ofBits_bits]

theorem FltAdd.read {w : BitVec 96} {f : FltAdd} {c41 : BitVec 7} {c29 : BitVec 1}
    (h : SameLow (8 * wordLen (f.enc ||| place 41 c41 ||| place 29 c29 ||| place 0 1#2)) w (f.enc ||| place 41 c41 ||| place 29 c29 ||| place 0 1#2)) :
    fld w 0 2 = 1#2 ∧ fld w 41 7 = c41 ∧ fld w 29 1 = c29 ∧ fld w 2 7 = f.fmt.root ∧ FltAdd.ofWord w = f := by
  rw [wordLen_eq (c := 1#2) (by simp only [FltAdd.enc, BitVec.reduceToNat, fld_or, fld_place_apart, fld_place_in, fld_full, fld_zero, Nat.reduceAdd, Nat.reduceLeDiff, Nat.reduceSub, Nat.le_refl, true_or, or_true, and_true, true_and, BitVec.zero_or, BitVec.or_zero, Nat.sub_self, bit1_beq, Prec.ofBits_bits])] at h
  have h0 := ((h 0 2 rfl).trans (by simp only [FltAdd.enc, BitVec.reduceToNat, fld_or, fld_place_apart, fld_place_in, fld_full, fld_zero, Nat.reduceAdd, Nat.reduceLeDiff, Nat.reduceSub, Nat.le_refl, true_or, or_true, and_true, true_and, BitVec.zero_or, BitVec.or_zero, Nat.sub_self, bit1_beq, Prec.ofBits_bits]) : fld w 0 2 = 1#2)
  have hr : fld w 2 7 = f.fmt.root := (h 2 7 rfl).trans (by simp only [FltAdd.enc, BitVec.reduceToNat, fld_or, fld_place_apart, fld_place_in, fld_full, fld_zero, Nat.reduceAdd, Nat.reduceLeDiff, Nat.reduceSub, Nat.le_refl, true_or, or_true, and_true, true_and, BitVec.zero_or, BitVec.or_zero, Nat.sub_self, bit1_beq, Prec.ofBits_bits])
  refine ⟨h0, (h 41 7 rfl).trans (by simp only [FltAdd.enc, BitVec.reduceToNat, fld_or, fld_place_apart, fld_place_in, fld_full, fld_zero, Nat.reduceAdd, Nat.reduceLeDiff, Nat.reduceSub, Nat.le_refl, true_or, or_true, and_true, true_and, BitVec.zero_or, BitVec.or_zero, Nat.sub_self, bit1_beq, Prec.ofBits_bits]), (h 29 1 rfl).trans (by simp only [FltAdd.enc, BitVec.reduceToNat, fld_or, fld_place_apart, fld_place_in, fld_full, fld_zero, Nat.reduceAdd, Nat.reduceLeDiff, Nat.reduceSub, Nat.le_refl, true_or, or_true, and_true, true_and, BitVec.zero_or, BitVec.or_zero, Nat.sub_self, bit1_beq, Prec.ofBits_bits]), hr, ?_⟩
  simp only [FltAdd.ofWord, flag, FFmt.ofWord_eq hr, h 37 3 rfl, h 23 6 rfl, h 22 1 rfl, h 16 6 rfl, h 15 1 rfl, h 9 6 rfl]
  simp only [FltAdd.enc, BitVec.reduceToNat, fld_or, fld_place_apart, fld_place_in, fld_full, fld_zero, Nat.reduceAdd, Nat.reduceLeDiff, Nat.reduceSub, Nat.le_refl, true_or, or_true, and_true, true_and, BitVec.zero_or, BitVec.or_zero, Nat.sub_self, bit1_beq, Prec.ofBits_bits]

theorem FltCmp.read {w : BitVec 96} {f : FltCmp} {c41 : BitVec 7}
    (h : SameLow (8 * wordLen (f.enc ||| place 41 c41 ||| place 0 1#2)) w (f.enc ||| place 41 c41 ||| place 0 1#2)) :
    fld w 0 2 = 1#2 ∧ fld w 41 7 = c41 ∧ fld w 2 7 = f.fmt.root ∧ FltCmp.ofWord w = f := by
  rw [wordLen_eq (c := 1#2) (by simp only [FltCmp.enc, BitVec.reduceToNat, fld_or, fld_place_apart, fld_place_in, fld_full, fld_zero, Nat.reduceAdd, Nat.reduceLeDiff, Nat.reduceSub, Nat.le_refl, true_or, or_true, and_true, true_and, BitVec.zero_or, BitVec.or_zero, Nat.sub_self, bit1_beq, Prec.ofBits_bits])] at h
  have h0 := ((h 0 2 rfl).trans (by simp only [FltCmp.enc, BitVec.reduceToNat, fld_or, fld_place_apart, fld_place_in, fld_full, fld_zero, Nat.reduceAdd, Nat.reduceLeDiff, Nat.reduceSub, Nat.le_refl, true_or, or_true, and_true, true_and, BitVec.zero_or, BitVec.or_zero, Nat.sub_self, bit1_beq, Prec.ofBits_bits]) : fld w 0 2 = 1#2)
  have hr : fld w 2 7 = f.fmt.root := (h 2 7 rfl).trans (by simp only [FltCmp.enc, BitVec.reduceToNat, fld_or, fld_place_apart, fld_place_in, fld_full, fld_zero, Nat.reduceAdd, Nat.reduceLeDiff, Nat.reduceSub, Nat.le_refl, true_or, or_true, and_true, true_and, BitVec.zero_or, BitVec.or_zero, Nat.sub_self, bit1_beq, Prec.ofBits_bits])
  refine ⟨h0, (h 41 7 rfl).trans (by simp only [FltCmp.enc, BitVec.reduceToNat, fld_or, fld_place_apart, fld_place_in, fld_full, fld_zero, Nat.reduceAdd, Nat.reduceLeDiff, Nat.reduceSub, Nat.le_refl, true_or, or_true, and_true, true_and, BitVec.zero_or, BitVec.or_zero, Nat.sub_self, bit1_beq, Prec.ofBits_bits]), hr, ?_⟩
  simp only [FltCmp.ofWord, flag, FFmt.ofWord_eq hr, h 29 1 rfl, h 23 6 rfl, h 22 1 rfl, h 16 6 rfl, h 15 1 rfl, h 9 6 rfl]
  simp only [FltCmp.enc, BitVec.reduceToNat, fld_or, fld_place_apart, fld_place_in, fld_full, fld_zero, Nat.reduceAdd, Nat.reduceLeDiff, Nat.reduceSub, Nat.le_refl, true_or, or_true, and_true, true_and, BitVec.zero_or, BitVec.or_zero, Nat.sub_self, bit1_beq, Prec.ofBits_bits]

theorem FltAbs.read {w : BitVec 96} {f : FltAbs} {c41 : BitVec 7} {c15 : BitVec 1}
    (h : SameLow (8 * wordLen (f.enc ||| place 41 c41 ||| place 15 c15 ||| place 0 1#2)) w (f.enc ||| place 41 c41 ||| place 15 c15 ||| place 0 1#2)) :
    fld w 0 2 = 1#2 ∧ fld w 41 7 = c41 ∧ fld w 15 1 = c15 ∧ fld w 2 7 = f.fmt.root ∧ FltAbs.ofWord w = f := by
  rw [wordLen_eq (c := 1#2) (by simp only [FltAbs.enc, BitVec.reduceToNat, fld_or, fld_place_apart, fld_place_in, fld_full, fld_zero, Nat.reduceAdd, Nat.reduceLeDiff, Nat.reduceSub, Nat.le_refl, true_or, or_true, and_true, true_and, BitVec.zero_or, BitVec.or_zero, Nat.sub_self, bit1_beq, Prec.ofBits_bits])] at h
  have h0 := ((h 0 2 rfl).trans (by simp only [FltAbs.enc, BitVec.reduceToNat, fld_or, fld_place_apart, fld_place_in, fld_full, fld_zero, Nat.reduceAdd, Nat.reduceLeDiff, Nat.reduceSub, Nat.le_refl, true_or, or_true, and_true, true_and, BitVec.zero_or, BitVec.or_zero, Nat.sub_self, bit1_beq, Prec.ofBits_bits]) : fld w 0 2 = 1#2)
  have hr : fld w 2 7 = f.fmt.root := (h 2 7 rfl).trans (by simp only [FltAbs.enc, BitVec.reduceToNat, fld_or, fld_place_apart, fld_place_in, fld_full, fld_zero, Nat.reduceAdd, Nat.reduceLeDiff, Nat.reduceSub, Nat.le_refl, true_or, or_true, and_true, true_and, BitVec.zero_or, BitVec.or_zero, Nat.sub_self, bit1_beq, Prec.ofBits_bits])
  refine ⟨h0, (h 41 7 rfl).trans (by simp only [FltAbs.enc, BitVec.reduceToNat, fld_or, fld_place_apart, fld_place_in, fld_full, fld_zero, Nat.reduceAdd, Nat.reduceLeDiff, Nat.reduceSub, Nat.le_refl, true_or, or_true, and_true, true_and, BitVec.zero_or, BitVec.or_zero, Nat.sub_self, bit1_beq, Prec.ofBits_bits]), (h 15 1 rfl).trans (by simp only [FltAbs.enc, BitVec.reduceToNat, fld_or, fld_place_apart, fld_place_in, fld_full, fld_zero, Nat.reduceAdd, Nat.reduceLeDiff, Nat.reduceSub, Nat.le_refl, true_or, or_true, and_true, true_and, BitVec.zero_or, BitVec.or_zero, Nat.sub_self, bit1_beq, Prec.ofBits_bits]), hr, ?_⟩
  simp only [FltAbs.ofWord, flag, FFmt.ofWord_eq hr, h 22 1 rfl, h 16 6 rfl, h 9 6 rfl]
  simp only [FltAbs.enc, BitVec.reduceToNat, fld_or, fld_place_apart, fld_place_in, fld_full, fld_zero, Nat.reduceAdd, Nat.reduceLeDiff, Nat.reduceSub, Nat.le_refl, true_or, or_true, and_true, true_and, BitVec.zero_or, BitVec.or_zero, Nat.sub_self, bit1_beq, Prec.ofBits_bits]

theorem Flt1.read {w : BitVec 96} {f : Flt1} {c41 : BitVec 7}
    (h : SameLow (8 * wordLen (f.enc ||| place 41 c41 ||| place 0 1#2)) w (f.enc ||| place 41 c41 ||| place 0 1#2)) :
    fld w 0 2 = 1#2 ∧ fld w 41 7 = c41 ∧ fld w 2 7 = f.fmt.root ∧ Flt1.ofWord w = f := by
  rw [wordLen_eq (c := 1#2) (by simp only [Flt1.enc, BitVec.reduceToNat, fld_or, fld_place_apart, fld_place_in, fld_full, fld_zero, Nat.reduceAdd, Nat.reduceLeDiff, Nat.reduceSub, Nat.le_refl, true_or, or_true, and_true, true_and, BitVec.zero_or, BitVec.or_zero, Nat.sub_self, bit1_beq, Prec.ofBits_bits])] at h
  have h0 := ((h 0 2 rfl).trans (by simp only [Flt1.enc, BitVec.reduceToNat, fld_or, fld_place_apart, fld_place_in, fld_full, fld_zero, Nat.reduceAdd, Nat.reduceLeDiff, Nat.reduceSub, Nat.le_refl, true_or, or_true, and_true, true_and, BitVec.zero_or, BitVec.or_zero, Nat.sub_self, bit1_beq, Prec.ofBits_bits]) : fld w 0 2 = 1#2)
  have hr : fld w 2 7 = f.fmt.root := (h 2 7 rfl).trans (by simp only [Flt1.enc, BitVec.reduceToNat, fld_or, fld_place_apart, fld_place_in, fld_full, fld_zero, Nat.reduceAdd, Nat.reduceLeDiff, Nat.reduceSub, Nat.le_refl, true_or, or_true, and_true, true_and, BitVec.zero_or, BitVec.or_zero, Nat.sub_self, bit1_beq, Prec.ofBits_bits])
  refine ⟨h0, (h 41 7 rfl).trans (by simp only [Flt1.enc, BitVec.reduceToNat, fld_or, fld_place_apart, fld_place_in, fld_full, fld_zero, Nat.reduceAdd, Nat.reduceLeDiff, Nat.reduceSub, Nat.le_refl, true_or, or_true, and_true, true_and, BitVec.zero_or, BitVec.or_zero, Nat.sub_self, bit1_beq, Prec.ofBits_bits]), hr, ?_⟩
  simp only [Flt1.ofWord, flag, FFmt.ofWord_eq hr, h 37 3 rfl, h 22 1 rfl, h 16 6 rfl, h 15 1 rfl, h 9 6 rfl]
  simp only [Flt1.enc, BitVec.reduceToNat, fld_or, fld_place_apart, fld_place_in, fld_full, fld_zero, Nat.reduceAdd, Nat.reduceLeDiff, Nat.reduceSub, Nat.le_refl, true_or, or_true, and_true, true_and, BitVec.zero_or, BitVec.or_zero, Nat.sub_self, bit1_beq, Prec.ofBits_bits]

theorem FltCos.read {w : BitVec 96} {f : FltCos} {c41 : BitVec 7}
    (h : SameLow (8 * wordLen (f.enc ||| place 41 c41 ||| place 0 1#2)) w (f.enc ||| place 41 c41 ||| place 0 1#2)) :
    fld w 0 2 = 1#2 ∧ fld w 41 7 = c41 ∧ fld w 2 7 = f.fmt.root ∧ FltCos.ofWord w = f := by
  rw [wordLen_eq (c := 1#2) (by simp only [FltCos.enc, BitVec.reduceToNat, fld_or, fld_place_apart, fld_place_in, fld_full, fld_zero, Nat.reduceAdd, Nat.reduceLeDiff, Nat.reduceSub, Nat.le_refl, true_or, or_true, and_true, true_and, BitVec.zero_or, BitVec.or_zero, Nat.sub_self, bit1_beq, Prec.ofBits_bits])] at h
  have h0 := ((h 0 2 rfl).trans (by simp only [FltCos.enc, BitVec.reduceToNat, fld_or, fld_place_apart, fld_place_in, fld_full, fld_zero, Nat.reduceAdd, Nat.reduceLeDiff, Nat.reduceSub, Nat.le_refl, true_or, or_true, and_true, true_and, BitVec.zero_or, BitVec.or_zero, Nat.sub_self, bit1_beq, Prec.ofBits_bits]) : fld w 0 2 = 1#2)
  have hr : fld w 2 7 = f.fmt.root := (h 2 7 rfl).trans (by simp only [FltCos.enc, BitVec.reduceToNat, fld_or, fld_place_apart, fld_place_in, fld_full, fld_zero, Nat.reduceAdd, Nat.reduceLeDiff, Nat.reduceSub, Nat.le_refl, true_or, or_true, and_true, true_and, BitVec.zero_or, BitVec.or_zero, Nat.sub_self, bit1_beq, Prec.ofBits_bits])
  refine ⟨h0, (h 41 7 rfl).trans (by simp only [FltCos.enc, BitVec.reduceToNat, fld_or, fld_place_apart, fld_place_in, fld_full, fld_zero, Nat.reduceAdd, Nat.reduceLeDiff, Nat.reduceSub, Nat.le_refl, true_or, or_true, and_true, true_and, BitVec.zero_or, BitVec.or_zero, Nat.sub_self, bit1_beq, Prec.ofBits_bits]), hr, ?_⟩
  simp only [FltCos.ofWord, flag, FFmt.ofWord_eq hr, h 37 3 rfl, h 30 3 rfl, h 22 1 rfl, h 16 6 rfl, h 15 1 rfl, h 9 6 rfl]
  simp only [FltCos.enc, BitVec.reduceToNat, fld_or, fld_place_apart, fld_place_in, fld_full, fld_zero, Nat.reduceAdd, Nat.reduceLeDiff, Nat.reduceSub, Nat.le_refl, true_or, or_true, and_true, true_and, BitVec.zero_or, BitVec.or_zero, Nat.sub_self, bit1_beq, Prec.ofBits_bits]

theorem LS.read {w : BitVec 96} {f : LS} {c30 : BitVec 2} {c2 : BitVec 7}
    (h : SameLow (8 * wordLen (f.enc ||| place 30 c30 ||| place 2 c2)) w (f.enc ||| place 30 c30 ||| place 2 c2)) :
    fld w 0 2 = f.disp.ln ∧ fld w 30 2 = c30 ∧ fld w 2 7 = c2 ∧ LS.ofWord w = f := by
  obtain ⟨disp, sc, rb, ra, rt⟩ := f
  cases disp
  · rw [wordLen_eq (c := 1#2) (by simp only [LS.enc, Disp.placed, Disp.ln, BitVec.reduceToNat, fld_or, fld_place_apart, fld_place_in, fld_full, fld_zero, Nat.reduceAdd, Nat.reduceLeDiff, Nat.reduceSub, Nat.le_refl, true_or, or_true, and_true, true_and, BitVec.zero_or, BitVec.or_zero, Nat.sub_self, bit1_beq, Prec.ofBits_bits])] at h
    have h0 := ((h 0 2 rfl).trans (by simp only [LS.enc, Disp.placed, Disp.ln, BitVec.reduceToNat, fld_or, fld_place_apart, fld_place_in, fld_full, fld_zero, Nat.reduceAdd, Nat.reduceLeDiff, Nat.reduceSub, Nat.le_refl, true_or, or_true, and_true, true_and, BitVec.zero_or, BitVec.or_zero, Nat.sub_self, bit1_beq, Prec.ofBits_bits]) : fld w 0 2 = 1#2)
    refine ⟨h0, (h 30 2 rfl).trans (by simp only [LS.enc, Disp.placed, Disp.ln, BitVec.reduceToNat, fld_or, fld_place_apart, fld_place_in, fld_full, fld_zero, Nat.reduceAdd, Nat.reduceLeDiff, Nat.reduceSub, Nat.le_refl, true_or, or_true, and_true, true_and, BitVec.zero_or, BitVec.or_zero, Nat.sub_self, bit1_beq, Prec.ofBits_bits]), (h 2 7 rfl).trans (by simp only [LS.enc, Disp.placed, Disp.ln, BitVec.reduceToNat, fld_or, fld_place_apart, fld_place_in, fld_full, fld_zero, Nat.reduceAdd, Nat.reduceLeDiff, Nat.reduceSub, Nat.le_refl, true_or, or_true, and_true, true_and, BitVec.zero_or, BitVec.or_zero, Nat.sub_self, bit1_beq, Prec.ofBits_bits]), ?_⟩
    simp only [LS.ofWord, Disp.ofWord, h0, h 27 3 rfl, h 21 6 rfl, h 15 6 rfl, h 9 6 rfl, h 32 16 rfl]
    simp only [LS.enc, Disp.placed, Disp.ln, BitVec.reduceToNat, fld_or, fld_place_apart, fld_place_in, fld_full, fld_zero, Nat.reduceAdd, Nat.reduceLeDiff, Nat.reduceSub, Nat.le_refl, true_or, or_true, and_true, true_and, BitVec.zero_or, BitVec.or_zero, Nat.sub_self, bit1_beq, Prec.ofBits_bits]
  · rw [wordLen_eq (c := 2#2) (by simp only [LS.enc, Disp.placed, Disp.ln, BitVec.reduceToNat, fld_or, fld_place_apart, fld_place_in, fld_full, fld_zero, Nat.reduceAdd, Nat.reduceLeDiff, Nat.reduceSub, Nat.le_refl, true_or, or_true, and_true, true_and, BitVec.zero_or, BitVec.or_zero, Nat.sub_self, bit1_beq, Prec.ofBits_bits])] at h
    have h0 := ((h 0 2 rfl).trans (by simp only [LS.enc, Disp.placed, Disp.ln, BitVec.reduceToNat, fld_or, fld_place_apart, fld_place_in, fld_full, fld_zero, Nat.reduceAdd, Nat.reduceLeDiff, Nat.reduceSub, Nat.le_refl, true_or, or_true, and_true, true_and, BitVec.zero_or, BitVec.or_zero, Nat.sub_self, bit1_beq, Prec.ofBits_bits]) : fld w 0 2 = 2#2)
    refine ⟨h0, (h 30 2 rfl).trans (by simp only [LS.enc, Disp.placed, Disp.ln, BitVec.reduceToNat, fld_or, fld_place_apart, fld_place_in, fld_full, fld_zero, Nat.reduceAdd, Nat.reduceLeDiff, Nat.reduceSub, Nat.le_refl, true_or, or_true, and_true, true_and, BitVec.zero_or, BitVec.or_zero, Nat.sub_self, bit1_beq, Prec.ofBits_bits]), (h 2 7 rfl).trans (by simp only [LS.enc, Disp.placed, Disp.ln, BitVec.reduceToNat, fld_or, fld_place_apart, fld_place_in, fld_full, fld_zero, Nat.reduceAdd, Nat.reduceLeDiff, Nat.reduceSub, Nat.le_refl, true_or, or_true, and_true, true_and, BitVec.zero_or, BitVec.or_zero, Nat.sub_self, bit1_beq, Prec.ofBits_bits]), ?_⟩
    simp only [LS.ofWord, Disp.ofWord, h0, h 27 3 rfl, h 21 6 rfl, h 15 6 rfl, h 9 6 rfl, h 32 40 rfl]
    simp only [LS.enc, Disp.placed, Disp.ln, BitVec.reduceToNat, fld_or, fld_place_apart, fld_place_in, fld_full, fld_zero, Nat.reduceAdd, Nat.reduceLeDiff, Nat.reduceSub, Nat.le_refl, true_or, or_true, and_true, true_and, BitVec.zero_or, BitVec.or_zero, Nat.sub_self, bit1_beq, Prec.ofBits_bits]
  · rw [wordLen_eq (c := 3#2) (by simp only [LS.enc, Disp.placed, Disp.ln, BitVec.reduceToNat, fld_or, fld_place_apart, fld_place_in, fld_full, fld_zero, Nat.reduceAdd, Nat.reduceLeDiff, Nat.reduceSub, Nat.le_refl, true_or, or_true, and_true, true_and, BitVec.zero_or, BitVec.or_zero, Nat.sub_self, bit1_beq, Prec.ofBits_bits])] at h
    have h0 := ((h 0 2 rfl).trans (by simp only [LS.enc, Disp.placed, Disp.ln, BitVec.reduceToNat, fld_or, fld_place_apart, fld_place_in, fld_full, fld_zero, Nat.reduceAdd, Nat.reduceLeDiff, Nat.reduceSub, Nat.le_refl, true_or, or_true, and_true, true_and, BitVec.zero_or, BitVec.or_zero, Nat.sub_self, bit1_beq, Prec.ofBits_bits]) : fld w 0 2 = 3#2)
    refine ⟨h0, (h 30 2 rfl).trans (by simp only [LS.enc, Disp.placed, Disp.ln, BitVec.reduceToNat, fld_or, fld_place_apart, fld_place_in, fld_full, fld_zero, Nat.reduceAdd, Nat.reduceLeDiff, Nat.reduceSub, Nat.le_refl, true_or, or_true, and_true, true_and, BitVec.zero_or, BitVec.or_zero, Nat.sub_self, bit1_beq, Prec.ofBits_bits]), (h 2 7 rfl).trans (by simp only [LS.enc, Disp.placed, Disp.ln, BitVec.reduceToNat, fld_or, fld_place_apart, fld_place_in, fld_full, fld_zero, Nat.reduceAdd, Nat.reduceLeDiff, Nat.reduceSub, Nat.le_refl, true_or, or_true, and_true, true_and, BitVec.zero_or, BitVec.or_zero, Nat.sub_self, bit1_beq, Prec.ofBits_bits]), ?_⟩
    simp only [LS.ofWord, Disp.ofWord, h0, h 27 3 rfl, h 21 6 rfl, h 15 6 rfl, h 9 6 rfl, h 32 64 rfl]
    simp only [LS.enc, Disp.placed, Disp.ln, BitVec.reduceToNat, fld_or, fld_place_apart, fld_place_in, fld_full, fld_zero, Nat.reduceAdd, Nat.reduceLeDiff, Nat.reduceSub, Nat.le_refl, true_or, or_true, and_true, true_and, BitVec.zero_or, BitVec.or_zero, Nat.sub_self, bit1_beq, Prec.ofBits_bits]

theorem LS24.read {w : BitVec 96} {f : LS24} {c2 : BitVec 7}
    (h : SameLow (8 * wordLen (f.enc ||| place 2 c2 ||| place 0 0#2)) w (f.enc ||| place 2 c2 ||| place 0 0#2)) :
    fld w 0 2 = 0#2 ∧ fld w 2 7 = c2 ∧ LS24.ofWord w = f := by
  rw [wordLen_eq (c := 0#2) (by simp only [LS24.enc, BitVec.reduceToNat, fld_or, fld_place_apart, fld_place_in, fld_full, fld_zero, Nat.reduceAdd, Nat.reduceLeDiff, Nat.reduceSub, Nat.le_refl, true_or, or_true, and_true, true_and, BitVec.zero_or, BitVec.or_zero, Nat.sub_self, bit1_beq, Prec.ofBits_bits])] at h
  have h0 := ((h 0 2 rfl).trans (by simp only [LS24.enc, BitVec.reduceToNat, fld_or, fld_place_apart, fld_place_in, fld_full, fld_zero, Nat.reduceAdd, Nat.reduceLeDiff, Nat.reduceSub, Nat.le_refl, true_or, or_true, and_true, true_and, BitVec.zero_or, BitVec.or_zero, Nat.sub_self, bit1_beq, Prec.ofBits_bits]) : fld w 0 2 = 0#2)
  refine ⟨h0, (h 2 7 rfl).trans (by simp only [LS24.enc, BitVec.reduceToNat, fld_or, fld_place_apart, fld_place_in, fld_full, fld_zero, Nat.reduceAdd, Nat.reduceLeDiff, Nat.reduceSub, Nat.le_refl, true_or, or_true, and_true, true_and, BitVec.zero_or, BitVec.or_zero, Nat.sub_self, bit1_beq, Prec.ofBits_bits]), ?_⟩
  simp only [LS24.ofWord, h 19 5 rfl, h 14 5 rfl, h 9 5 rfl]
  simp only [LS24.enc, BitVec.reduceToNat, fld_or, fld_place_apart, fld_place_in, fld_full, fld_zero, Nat.reduceAdd, Nat.reduceLeDiff, Nat.reduceSub, Nat.le_refl, true_or, or_true, and_true, true_and, BitVec.zero_or, BitVec.or_zero, Nat.sub_self, bit1_beq, Prec.ofBits_bits]

theorem LS.read2 {w : BitVec 96} {f : LS} {c2 : BitVec 7}
    (h : SameLow (8 * wordLen (f.enc ||| place 2 c2)) w (f.enc ||| place 2 c2)) :
    fld w 0 2 = f.disp.ln ∧ fld w 2 7 = c2 ∧ LS.ofWord w = f := by
  obtain ⟨disp, sc, rb, ra, rt⟩ := f
  cases disp
  · rw [wordLen_eq (c := 1#2) (by simp only [LS.enc, Disp.placed, Disp.ln, BitVec.reduceToNat, fld_or, fld_place_apart, fld_place_in, fld_full, fld_zero, Nat.reduceAdd, Nat.reduceLeDiff, Nat.reduceSub, Nat.le_refl, true_or, or_true, and_true, true_and, BitVec.zero_or, BitVec.or_zero, Nat.sub_self, bit1_beq, Prec.ofBits_bits])] at h
    have h0 := ((h 0 2 rfl).trans (by simp only [LS.enc, Disp.placed, Disp.ln, BitVec.reduceToNat, fld_or, fld_place_apart, fld_place_in, fld_full, fld_zero, Nat.reduceAdd, Nat.reduceLeDiff, Nat.reduceSub, Nat.le_refl, true_or, or_true, and_true, true_and, BitVec.zero_or, BitVec.or_zero, Nat.sub_self, bit1_beq, Prec.ofBits_bits]) : fld w 0 2 = 1#2)
    refine ⟨h0, (h 2 7 rfl).trans (by simp only [LS.enc, Disp.placed, Disp.ln, BitVec.reduceToNat, fld_or, fld_place_apart, fld_place_in, fld_full, fld_zero, Nat.reduceAdd, Nat.reduceLeDiff, Nat.reduceSub, Nat.le_refl, true_or, or_true, and_true, true_and, BitVec.zero_or, BitVec.or_zero, Nat.sub_self, bit1_beq, Prec.ofBits_bits]), ?_⟩
    simp only [LS.ofWord, Disp.ofWord, h0, h 27 3 rfl, h 21 6 rfl, h 15 6 rfl, h 9 6 rfl, h 32 16 rfl]
    simp only [LS.enc, Disp.placed, Disp.ln, BitVec.reduceToNat, fld_or, fld_place_apart, fld_place_in, fld_full, fld_zero, Nat.reduceAdd, Nat.reduceLeDiff, Nat.reduceSub, Nat.le_refl, true_or, or_true, and_true, true_and, BitVec.zero_or, BitVec.or_zero, Nat.sub_self, bit1_beq, Prec.ofBits_bits]
  · rw [wordLen_eq (c := 2#2) (by simp only [LS.enc, Disp.placed, Disp.ln, BitVec.reduceToNat, fld_or, fld_place_apart, fld_place_in, fld_full, fld_zero, Nat.reduceAdd, Nat.reduceLeDiff, Nat.reduceSub, Nat.le_refl, true_or, or_true, and_true, true_and, BitVec.zero_or, BitVec.or_zero, Nat.sub_self, bit1_beq, Prec.ofBits_bits])] at h
    have h0 := ((h 0 2 rfl).trans (by simp only [LS.enc, Disp.placed, Disp.ln, BitVec.reduceToNat, fld_or, fld_place_apart, fld_place_in, fld_full, fld_zero, Nat.reduceAdd, Nat.reduceLeDiff, Nat.reduceSub, Nat.le_refl, true_or, or_true, and_true, true_and, BitVec.zero_or, BitVec.or_zero, Nat.sub_self, bit1_beq, Prec.ofBits_bits]) : fld w 0 2 = 2#2)
    refine ⟨h0, (h 2 7 rfl).trans (by simp only [LS.enc, Disp.placed, Disp.ln, BitVec.reduceToNat, fld_or, fld_place_apart, fld_place_in, fld_full, fld_zero, Nat.reduceAdd, Nat.reduceLeDiff, Nat.reduceSub, Nat.le_refl, true_or, or_true, and_true, true_and, BitVec.zero_or, BitVec.or_zero, Nat.sub_self, bit1_beq, Prec.ofBits_bits]), ?_⟩
    simp only [LS.ofWord, Disp.ofWord, h0, h 27 3 rfl, h 21 6 rfl, h 15 6 rfl, h 9 6 rfl, h 32 40 rfl]
    simp only [LS.enc, Disp.placed, Disp.ln, BitVec.reduceToNat, fld_or, fld_place_apart, fld_place_in, fld_full, fld_zero, Nat.reduceAdd, Nat.reduceLeDiff, Nat.reduceSub, Nat.le_refl, true_or, or_true, and_true, true_and, BitVec.zero_or, BitVec.or_zero, Nat.sub_self, bit1_beq, Prec.ofBits_bits]
  · rw [wordLen_eq (c := 3#2) (by simp only [LS.enc, Disp.placed, Disp.ln, BitVec.reduceToNat, fld_or, fld_place_apart, fld_place_in, fld_full, fld_zero, Nat.reduceAdd, Nat.reduceLeDiff, Nat.reduceSub, Nat.le_refl, true_or, or_true, and_true, true_and, BitVec.zero_or, BitVec.or_zero, Nat.sub_self, bit1_beq, Prec.ofBits_bits])] at h
    have h0 := ((h 0 2 rfl).trans (by simp only [LS.enc, Disp.placed, Disp.ln, BitVec.reduceToNat, fld_or, fld_place_apart, fld_place_in, fld_full, fld_zero, Nat.reduceAdd, Nat.reduceLeDiff, Nat.reduceSub, Nat.le_refl, true_or, or_true, and_true, true_and, BitVec.zero_or, BitVec.or_zero, Nat.sub_self, bit1_beq, Prec.ofBits_bits]) : fld w 0 2 = 3#2)
    refine ⟨h0, (h 2 7 rfl).trans (by simp only [LS.enc, Disp.placed, Disp.ln, BitVec.reduceToNat, fld_or, fld_place_apart, fld_place_in, fld_full, fld_zero, Nat.reduceAdd, Nat.reduceLeDiff, Nat.reduceSub, Nat.le_refl, true_or, or_true, and_true, true_and, BitVec.zero_or, BitVec.or_zero, Nat.sub_self, bit1_beq, Prec.ofBits_bits]), ?_⟩
    simp only [LS.ofWord, Disp.ofWord, h0, h 27 3 rfl, h 21 6 rfl, h 15 6 rfl, h 9 6 rfl, h 32 64 rfl]
    simp only [LS.enc, Disp.placed, Disp.ln, BitVec.reduceToNat, fld_or, fld_place_apart, fld_place_in, fld_full, fld_zero, Nat.reduceAdd, Nat.reduceLeDiff, Nat.reduceSub, Nat.le_refl, true_or, or_true, and_true, true_and, BitVec.zero_or, BitVec.or_zero, Nat.sub_self, bit1_beq, Prec.ofBits_bits]

theorem Br.read {w : BitVec 96} {f : Br} {c9 : BitVec 4} {c2 : BitVec 7}
    (h : SameLow (8 * wordLen (f.enc ||| place 9 c9 ||| place 2 c2 ||| place 0 1#2)) w (f.enc ||| place 9 c9 ||| place 2 c2 ||| place 0 1#2)) :
    fld w 0 2 = 1#2 ∧ fld w 9 4 = c9 ∧ fld w 2 7 = c2 ∧ Br.ofWord w = f := by
  rw [wordLen_eq (c := 1#2) (by simp only [Br.enc, BitVec.reduceToNat, fld_or, fld_place_apart, fld_place_in, fld_full, fld_zero, Nat.reduceAdd, Nat.reduceLeDiff, Nat.reduceSub, Nat.le_refl, true_or, or_true, and_true, true_and, BitVec.zero_or, BitVec.or_zero, Nat.sub_self, bit1_beq, Prec.ofBits_bits])] at h
  have h0 := ((h 0 2 rfl).trans (by simp only [Br.enc, BitVec.reduceToNat, fld_or, fld_place_apart, fld_place_in, fld_full, fld_zero, Nat.reduceAdd, Nat.reduceLeDiff, Nat.reduceSub, Nat.le_refl, true_or, or_true, and_true, true_and, BitVec.zero_or, BitVec.or_zero, Nat.sub_self, bit1_beq, Prec.ofBits_bits]) : fld w 0 2 = 1#2)
  refine ⟨h0, (h 9 4 rfl).trans (by simp only [Br.enc, BitVec.reduceToNat, fld_or, fld_place_apart, fld_place_in, fld_full, fld_zero, Nat.reduceAdd, Nat.reduceLeDiff, Nat.reduceSub, Nat.le_refl, true_or, or_true, and_true, true_and, BitVec.zero_or, BitVec.or_zero, Nat.sub_self, bit1_beq, Prec.ofBits_bits]), (h 2 7 rfl).trans (by simp only [Br.enc, BitVec.reduceToNat, fld_or, fld_place_apart, fld_place_in, fld_full, fld_zero, Nat.reduceAdd, Nat.reduceLeDiff, Nat.reduceSub, Nat.le_refl, true_or, or_true, and_true, true_and, BitVec.zero_or, BitVec.or_zero, Nat.sub_self, bit1_beq, Prec.ofBits_bits]), ?_⟩
  simp only [Br.ofWord, h 46 2 rfl, h 25 21 rfl, h 19 6 rfl, h 13 6 rfl]
  simp only [Br.enc, BitVec.reduceToNat, fld_or, fld_place_apart, fld_place_in, fld_full, fld_zero, Nat.reduceAdd, Nat.reduceLeDiff, Nat.reduceSub, Nat.le_refl, true_or, or_true, and_true, true_and, BitVec.zero_or, BitVec.or_zero, Nat.sub_self, bit1_beq, Prec.ofBits_bits]

theorem BrReg.read {w : BitVec 96} {f : BrReg} {c9 : BitVec 4} {c2 : BitVec 7}
    (h : SameLow (8 * wordLen (f.enc ||| place 9 c9 ||| place 2 c2 ||| place 0 1#2)) w (f.enc ||| place 9 c9 ||| place 2 c2 ||| place 0 1#2)) :
    fld w 0 2 = 1#2 ∧ fld w 9 4 = c9 ∧ fld w 2 7 = c2 ∧ BrReg.ofWord w = f := by
  rw [wordLen_eq (c := 1#2) (by simp only [BrReg.enc, BitVec.reduceToNat, fld_or, fld_place_apart, fld_place_in, fld_full, fld_zero, Nat.reduceAdd, Nat.reduceLeDiff, Nat.reduceSub, Nat.le_refl, true_or, or_true, and_true, true_and, BitVec.zero_or, BitVec.or_zero, Nat.sub_self, bit1_beq, Prec.ofBits_bits])] at h
  have h0 := ((h 0 2 rfl).trans (by simp only [BrReg.enc, BitVec.reduceToNat, fld_or, fld_place_apart, fld_place_in, fld_full, fld_zero, Nat.reduceAdd, Nat.reduceLeDiff, Nat.reduceSub, Nat.le_refl, true_or, or_true, and_true, true_and, BitVec.zero_or, BitVec.or_zero, Nat.sub_self, bit1_beq, Prec.ofBits_bits]) : fld w 0 2 = 1#2)
  refine ⟨h0, (h 9 4 rfl).trans (by simp only [BrReg.enc, BitVec.reduceToNat, fld_or, fld_place_apart, fld_place_in, fld_full, fld_zero, Nat.reduceAdd, Nat.reduceLeDiff, Nat.reduceSub, Nat.le_refl, true_or, or_true, and_true, true_and, BitVec.zero_or, BitVec.or_zero, Nat.sub_self, bit1_beq, Prec.ofBits_bits]), (h 2 7 rfl).trans (by simp only [BrReg.enc, BitVec.reduceToNat, fld_or, fld_place_apart, fld_place_in, fld_full, fld_zero, Nat.reduceAdd, Nat.reduceLeDiff, Nat.reduceSub, Nat.le_refl, true_or, or_true, and_true, true_and, BitVec.zero_or, BitVec.or_zero, Nat.sub_self, bit1_beq, Prec.ofBits_bits]), ?_⟩
  simp only [BrReg.ofWord, h 46 2 rfl, h 31 15 rfl, h 25 6 rfl, h 19 6 rfl, h 13 6 rfl]
  simp only [BrReg.enc, BitVec.reduceToNat, fld_or, fld_place_apart, fld_place_in, fld_full, fld_zero, Nat.reduceAdd, Nat.reduceLeDiff, Nat.reduceSub, Nat.le_refl, true_or, or_true, and_true, true_and, BitVec.zero_or, BitVec.or_zero, Nat.sub_self, bit1_beq, Prec.ofBits_bits]

theorem FBr.read {w : BitVec 96} {f : FBr} {c2 : BitVec 7}
    (h : SameLow (8 * wordLen (f.enc ||| place 2 c2 ||| place 0 1#2)) w (f.enc ||| place 2 c2 ||| place 0 1#2)) :
    fld w 0 2 = 1#2 ∧ fld w 2 7 = c2 ∧ FBr.ofWord w = f := by
  rw [wordLen_eq (c := 1#2) (by simp only [FBr.enc, BitVec.reduceToNat, fld_or, fld_place_apart, fld_place_in, fld_full, fld_zero, Nat.reduceAdd, Nat.reduceLeDiff, Nat.reduceSub, Nat.le_refl, true_or, or_true, and_true, true_and, BitVec.zero_or, BitVec.or_zero, Nat.sub_self, bit1_beq, Prec.ofBits_bits])] at h
  have h0 := ((h 0 2 rfl).trans (by simp only [FBr.enc, BitVec.reduceToNat, fld_or, fld_place_apart, fld_place_in, fld_full, fld_zero, Nat.reduceAdd, Nat.reduceLeDiff, Nat.reduceSub, Nat.le_refl, true_or, or_true, and_true, true_and, BitVec.zero_or, BitVec.or_zero, Nat.sub_self, bit1_beq, Prec.ofBits_bits]) : fld w 0 2 = 1#2)
  refine ⟨h0, (h 2 7 rfl).trans (by simp only [FBr.enc, BitVec.reduceToNat, fld_or, fld_place_apart, fld_place_in, fld_full, fld_zero, Nat.reduceAdd, Nat.reduceLeDiff, Nat.reduceSub, Nat.le_refl, true_or, or_true, and_true, true_and, BitVec.zero_or, BitVec.or_zero, Nat.sub_self, bit1_beq, Prec.ofBits_bits]), ?_⟩
  simp only [FBr.ofWord, h 46 2 rfl, h 25 21 rfl, h 19 6 rfl, h 13 6 rfl, h 9 4 rfl]
  simp only [FBr.enc, BitVec.reduceToNat, fld_or, fld_place_apart, fld_place_in, fld_full, fld_zero, Nat.reduceAdd, Nat.reduceLeDiff, Nat.reduceSub, Nat.le_refl, true_or, or_true, and_true, true_and, BitVec.zero_or, BitVec.or_zero, Nat.sub_self, bit1_beq, Prec.ofBits_bits]

theorem FBrReg.read {w : BitVec 96} {f : FBrReg} {c2 : BitVec 7}
    (h : SameLow (8 * wordLen (f.enc ||| place 2 c2 ||| place 0 1#2)) w (f.enc ||| place 2 c2 ||| place 0 1#2)) :
    fld w 0 2 = 1#2 ∧ fld w 2 7 = c2 ∧ FBrReg.ofWord w = f := by
  rw [wordLen_eq (c := 1#2) (by simp only [FBrReg.enc, BitVec.reduceToNat, fld_or, fld_place_apart, fld_place_in, fld_full, fld_zero, Nat.reduceAdd, Nat.reduceLeDiff, Nat.reduceSub, Nat.le_refl, true_or, or_true, and_true, true_and, BitVec.zero_or, BitVec.or_zero, Nat.sub_self, bit1_beq, Prec.ofBits_bits])] at h
  have h0 := ((h 0 2 rfl).trans (by simp only [FBrReg.enc, BitVec.reduceToNat, fld_or, fld_place_apart, fld_place_in, fld_full, fld_zero, Nat.reduceAdd, Nat.reduceLeDiff, Nat.reduceSub, Nat.le_refl, true_or, or_true, and_true, true_and, BitVec.zero_or, BitVec.or_zero, Nat.sub_self, bit1_beq, Prec.ofBits_bits]) : fld w 0 2 = 1#2)
  refine ⟨h0, (h 2 7 rfl).trans (by simp only [FBrReg.enc, BitVec.reduceToNat, fld_or, fld_place_apart, fld_place_in, fld_full, fld_zero, Nat.reduceAdd, Nat.reduceLeDiff, Nat.reduceSub, Nat.le_refl, true_or, or_true, and_true, true_and, BitVec.zero_or, BitVec.or_zero, Nat.sub_self, bit1_beq, Prec.ofBits_bits]), ?_⟩
  simp only [FBrReg.ofWord, h 46 2 rfl, h 31 15 rfl, h 25 6 rfl, h 19 6 rfl, h 13 6 rfl, h 9 4 rfl]
  simp only [FBrReg.enc, BitVec.reduceToNat, fld_or, fld_place_apart, fld_place_in, fld_full, fld_zero, Nat.reduceAdd, Nat.reduceLeDiff, Nat.reduceSub, Nat.le_refl, true_or, or_true, and_true, true_and, BitVec.zero_or, BitVec.or_zero, Nat.sub_self, bit1_beq, Prec.ofBits_bits]

theorem Bsr.read {w : BitVec 96} {f : Bsr} {c2 : BitVec 7}
    (h : SameLow (8 * wordLen (f.enc ||| place 2 c2 ||| place 0 1#2)) w (f.enc ||| place 2 c2 ||| place 0 1#2)) :
    fld w 0 2 = 1#2 ∧ fld w 2 7 = c2 ∧ Bsr.ofWord w = f := by
  rw [wordLen_eq (c := 1#2) (by simp only [Bsr.enc, BitVec.reduceToNat, fld_or, fld_place_apart, fld_place_in, fld_full, fld_zero, Nat.reduceAdd, Nat.reduceLeDiff, Nat.reduceSub, Nat.le_refl, true_or, or_true, and_true, true_and, BitVec.zero_or, BitVec.or_zero, Nat.sub_self, bit1_beq, Prec.ofBits_bits])] at h
  have h0 := ((h 0 2 rfl).trans (by simp only [Bsr.enc, BitVec.reduceToNat, fld_or, fld_place_apart, fld_place_in, fld_full, fld_zero, Nat.reduceAdd, Nat.reduceLeDiff, Nat.reduceSub, Nat.le_refl, true_or, or_true, and_true, true_and, BitVec.zero_or, BitVec.or_zero, Nat.sub_self, bit1_beq, Prec.ofBits_bits]) : fld w 0 2 = 1#2)
  refine ⟨h0, (h 2 7 rfl).trans (by simp only [Bsr.enc, BitVec.reduceToNat, fld_or, fld_place_apart, fld_place_in, fld_full, fld_zero, Nat.reduceAdd, Nat.reduceLeDiff, Nat.reduceSub, Nat.le_refl, true_or, or_true, and_true, true_and, BitVec.zero_or, BitVec.or_zero, Nat.sub_self, bit1_beq, Prec.ofBits_bits]), ?_⟩
  simp only [Bsr.ofWord, h 11 37 rfl, h 9 2 rfl]
  simp only [Bsr.enc, BitVec.reduceToNat, fld_or, fld_place_apart, fld_place_in, fld_full, fld_zero, Nat.reduceAdd, Nat.reduceLeDiff, Nat.reduceSub, Nat.le_refl, true_or, or_true, and_true, true_and, BitVec.zero_or, BitVec.or_zero, Nat.sub_self, bit1_beq, Prec.ofBits_bits]

theorem JmpI.read {w : BitVec 96} {f : JmpI} {c9 : BitVec 6} {c2 : BitVec 7}
    (h : SameLow (8 * wordLen (f.enc ||| place 9 c9 ||| place 2 c2)) w (f.enc ||| place 9 c9 ||| place 2 c2)) :
    fld w 0 2 = f.limit.ln ∧ fld w 9 6 = c9 ∧ fld w 2 7 = c2 ∧ JmpI.ofWord w = f := by
  obtain ⟨limit, ar, sc, rb, ra⟩ := f
  cases limit
  · rw [wordLen_eq (c := 1#2) (by simp only [JmpI.enc, Disp.placed, Disp.ln, BitVec.reduceToNat, fld_or, fld_place_apart, fld_place_in, fld_full, fld_zero, Nat.reduceAdd, Nat.reduceLeDiff, Nat.reduceSub, Nat.le_refl, true_or, or_true, and_true, true_and, BitVec.zero_or, BitVec.or_zero, Nat.sub_self, bit1_beq, Prec.ofBits_bits])] at h
    have h0 := ((h 0 2 rfl).trans (by simp only [JmpI.enc, Disp.placed, Disp.ln, BitVec.reduceToNat, fld_or, fld_place_apart, fld_place_in, fld_full, fld_zero, Nat.reduceAdd, Nat.reduceLeDiff, Nat.reduceSub, Nat.le_refl, true_or, or_true, and_true, true_and, BitVec.zero_or, BitVec.or_zero, Nat.sub_self, bit1_beq, Prec.ofBits_bits]) : fld w 0 2 = 1#2)
    refine ⟨h0, (h 9 6 rfl).trans (by simp only [JmpI.enc, Disp.placed, Disp.ln, BitVec.reduceToNat, fld_or, fld_place_apart, fld_place_in, fld_full, fld_zero, Nat.reduceAdd, Nat.reduceLeDiff, Nat.reduceSub, Nat.le_refl, true_or, or_true, and_true, true_and, BitVec.zero_or, BitVec.or_zero, Nat.sub_self, bit1_beq, Prec.ofBits_bits]), (h 2 7 rfl).trans (by simp only [JmpI.enc, Disp.placed, Disp.ln, BitVec.reduceToNat, fld_or, fld_place_apart, fld_place_in, fld_full, fld_zero, Nat.reduceAdd, Nat.reduceLeDiff, Nat.reduceSub, Nat.le_refl, true_or, or_true, and_true, true_and, BitVec.zero_or, BitVec.or_zero, Nat.sub_self, bit1_beq, Prec.ofBits_bits]), ?_⟩
    simp only [JmpI.ofWord, Disp.ofWord, h0, h 30 2 rfl, h 27 3 rfl, h 21 6 rfl, h 15 6 rfl, h 32 16 rfl]
    simp only [JmpI.enc, Disp.placed, Disp.ln, BitVec.reduceToNat, fld_or, fld_place_apart, fld_place_in, fld_full, fld_zero, Nat.reduceAdd, Nat.reduceLeDiff, Nat.reduceSub, Nat.le_refl, true_or, or_true, and_true, true_and, BitVec.zero_or, BitVec.or_zero, Nat.sub_self, bit1_beq, Prec.ofBits_bits]
  · rw [wordLen_eq (c := 2#2) (by simp only [JmpI.enc, Disp.placed, Disp.ln, BitVec.reduceToNat, fld_or, fld_place_apart, fld_place_in, fld_full, fld_zero, Nat.reduceAdd, Nat.reduceLeDiff, Nat.reduceSub, Nat.le_refl, true_or, or_true, and_true, true_and, BitVec.zero_or, BitVec.or_zero, Nat.sub_self, bit1_beq, Prec.ofBits_bits])] at h
    have h0 := ((h 0 2 rfl).trans (by simp only [JmpI.enc, Disp.placed, Disp.ln, BitVec.reduceToNat, fld_or, fld_place_apart, fld_place_in, fld_full, fld_zero, Nat.reduceAdd, Nat.reduceLeDiff, Nat.reduceSub, Nat.le_refl, true_or, or_true, and_true, true_and, BitVec.zero_or, BitVec.or_zero, Nat.sub_self, bit1_beq, Prec.ofBits_bits]) : fld w 0 2 = 2#2)
    refine ⟨h0, (h 9 6 rfl).trans (by simp only [JmpI.enc, Disp.placed, Disp.ln, BitVec.reduceToNat, fld_or, fld_place_apart, fld_place_in, fld_full, fld_zero, Nat.reduceAdd, Nat.reduceLeDiff, Nat.reduceSub, Nat.le_refl, true_or, or_true, and_true, true_and, BitVec.zero_or, BitVec.or_zero, Nat.sub_self, bit1_beq, Prec.ofBits_bits]), (h 2 7 rfl).trans (by simp only [JmpI.enc, Disp.placed, Disp.ln, BitVec.reduceToNat, fld_or, fld_place_apart, fld_place_in, fld_full, fld_zero, Nat.reduceAdd, Nat.reduceLeDiff, Nat.reduceSub, Nat.le_refl, true_or, or_true, and_true, true_and, BitVec.zero_or, BitVec.or_zero, Nat.sub_self, bit1_beq, Prec.ofBits_bits]), ?_⟩
    simp only [JmpI.ofWord, Disp.ofWord, h0, h 30 2 rfl, h 27 3 rfl, h 21 6 rfl, h 15 6 rfl, h 32 40 rfl]
    simp only [JmpI.enc, Disp.placed, Disp.ln, BitVec.reduceToNat, fld_or, fld_place_apart, fld_place_in, fld_full, fld_zero, Nat.reduceAdd, Nat.reduceLeDiff, Nat.reduceSub, Nat.le_refl, true_or, or_true, and_true, true_and, BitVec.zero_or, BitVec.or_zero, Nat.sub_self, bit1_beq, Prec.ofBits_bits]
  · rw [wordLen_eq (c := 3#2) (by simp only [JmpI.enc, Disp.placed, Disp.ln, BitVec.reduceToNat, fld_or, fld_place_apart, fld_place_in, fld_full, fld_zero, Nat.reduceAdd, Nat.reduceLeDiff, Nat.reduceSub, Nat.le_refl, true_or, or_true, and_true, true_and, BitVec.zero_or, BitVec.or_zero, Nat.sub_self, bit1_beq, Prec.ofBits_bits])] at h
    have h0 := ((h 0 2 rfl).trans (by simp only [JmpI.enc, Disp.placed, Disp.ln, BitVec.reduceToNat, fld_or, fld_place_apart, fld_place_in, fld_full, fld_zero, Nat.reduceAdd, Nat.reduceLeDiff, Nat.reduceSub, Nat.le_refl, true_or, or_true, and_true, true_and, BitVec.zero_or, BitVec.or_zero, Nat.sub_self, bit1_beq, Prec.ofBits_bits]) : fld w 0 2 = 3#2)
    refine ⟨h0, (h 9 6 rfl).trans (by simp only [JmpI.enc, Disp.placed, Disp.ln, BitVec.reduceToNat, fld_or, fld_place_apart, fld_place_in, fld_full, fld_zero, Nat.reduceAdd, Nat.reduceLeDiff, Nat.reduceSub, Nat.le_refl, true_or, or_true, and_true, true_and, BitVec.zero_or, BitVec.or_zero, Nat.sub_self, bit1_beq, Prec.ofBits_bits]), (h 2 7 rfl).trans (by simp only [JmpI.enc, Disp.placed, Disp.ln, BitVec.reduceToNat, fld_or, fld_place_apart, fld_place_in, fld_full, fld_zero, Nat.reduceAdd, Nat.reduceLeDiff, Nat.reduceSub, Nat.le_refl, true_or, or_true, and_true, true_and, BitVec.zero_or, BitVec.or_zero, Nat.sub_self, bit1_beq, Prec.ofBits_bits]), ?_⟩
    simp only [JmpI.ofWord, Disp.ofWord, h0, h 30 2 rfl, h 27 3 rfl, h 21 6 rfl, h 15 6 rfl, h 32 64 rfl]
    simp only [JmpI.enc, Disp.placed, Disp.ln, BitVec.reduceToNat, fld_or, fld_place_apart, fld_place_in, fld_full, fld_zero, Nat.reduceAdd, Nat.reduceLeDiff, Nat.reduceSub, Nat.le_refl, true_or, or_true, and_true, true_and, BitVec.zero_or, BitVec.or_zero, Nat.sub_self, bit1_beq, Prec.ofBits_bits]

theorem JsrI.read {w : BitVec 96} {f : JsrI} {c2 : BitVec 7}
    (h : SameLow (8 * wordLen (f.enc ||| place 2 c2)) w (f.enc ||| place 2 c2)) :
    fld w 0 2 = f.limit.ln ∧ fld w 2 7 = c2 ∧ JsrI.ofWord w = f := by
  obtain ⟨limit, ar, sc, rb, ra, rt⟩ := f
  cases limit
  · rw [wordLen_eq (c := 1#2) (by simp only [JsrI.enc, Disp.placed, Disp.ln, BitVec.reduceToNat, fld_or, fld_place_apart, fld_place_in, fld_full, fld_zero, Nat.reduceAdd, Nat.reduceLeDiff, Nat.reduceSub, Nat.le_refl, true_or, or_true, and_true, true_and, BitVec.zero_or, BitVec.or_zero, Nat.sub_self, bit1_beq, Prec.ofBits_bits])] at h
    have h0 := ((h 0 2 rfl).trans (by simp only [JsrI.enc, Disp.placed, Disp.ln, BitVec.reduceToNat, fld_or, fld_place_apart, fld_place_in, fld_full, fld_zero, Nat.reduceAdd, Nat.reduceLeDiff, Nat.reduceSub, Nat.le_refl, true_or, or_true, and_true, true_and, BitVec.zero_or, BitVec.or_zero, Nat.sub_self, bit1_beq, Prec.ofBits_bits]) : fld w 0 2 = 1#2)
    refine ⟨h0, (h 2 7 rfl).trans (by simp only [JsrI.enc, Disp.placed, Disp.ln, BitVec.reduceToNat, fld_or, fld_place_apart, fld_place_in, fld_full, fld_zero, Nat.reduceAdd, Nat.reduceLeDiff, Nat.reduceSub, Nat.le_refl, true_or, or_true, and_true, true_and, BitVec.zero_or, BitVec.or_zero, Nat.sub_self, bit1_beq, Prec.ofBits_bits]), ?_⟩
    simp only [JsrI.ofWord, Disp.ofWord, h0, h 30 2 rfl, h 27 3 rfl, h 21 6 rfl, h 15 6 rfl, h 9 6 rfl, h 32 16 rfl]
    simp only [JsrI.enc, Disp.placed, Disp.ln, BitVec.reduceToNat, fld_or, fld_place_apart, fld_place_in, fld_full, fld_zero, Nat.reduceAdd, Nat.reduceLeDiff, Nat.reduceSub, Nat.le_refl, true_or, or_true, and_true, true_and, BitVec.zero_or, BitVec.or_zero, Nat.sub_self, bit1_beq, Prec.ofBits_bits]
  · rw [wordLen_eq (c := 2#2) (by simp only [JsrI.enc, Disp.placed, Disp.ln, BitVec.reduceToNat, fld_or, fld_place_apart, fld_place_in, fld_full, fld_zero, Nat.reduceAdd, Nat.reduceLeDiff, Nat.reduceSub, Nat.le_refl, true_or, or_true, and_true, true_and, BitVec.zero_or, BitVec.or_zero, Nat.sub_self, bit1_beq, Prec.ofBits_bits])] at h
    have h0 := ((h 0 2 rfl).trans (by simp only [JsrI.enc, Disp.placed, Disp.ln, BitVec.reduceToNat, fld_or, fld_place_apart, fld_place_in, fld_full, fld_zero, Nat.reduceAdd, Nat.reduceLeDiff, Nat.reduceSub, Nat.le_refl, true_or, or_true, and_true, true_and, BitVec.zero_or, BitVec.or_zero, Nat.sub_self, bit1_beq, Prec.ofBits_bits]) : fld w 0 2 = 2#2)
    refine ⟨h0, (h 2 7 rfl).trans (by simp only [JsrI.enc, Disp.placed, Disp.ln, BitVec.reduceToNat, fld_or, fld_place_apart, fld_place_in, fld_full, fld_zero, Nat.reduceAdd, Nat.reduceLeDiff, Nat.reduceSub, Nat.le_refl, true_or, or_true, and_true, true_and, BitVec.zero_or, BitVec.or_zero, Nat.sub_self, bit1_beq, Prec.ofBits_bits]), ?_⟩
    simp only [JsrI.ofWord, Disp.ofWord, h0, h 30 2 rfl, h 27 3 rfl, h 21 6 rfl, h 15 6 rfl, h 9 6 rfl, h 32 40 rfl]
    simp only [JsrI.enc, Disp.placed, Disp.ln, BitVec.reduceToNat, fld_or, fld_place_apart, fld_place_in, fld_full, fld_zero, Nat.reduceAdd, Nat.reduceLeDiff, Nat.reduceSub, Nat.le_refl, true_or, or_true, and_true, true_and, BitVec.zero_or, BitVec.or_zero, Nat.sub_self, bit1_beq, Prec.ofBits_bits]
  · rw [wordLen_eq (c := 3#2) (by simp only [JsrI.enc, Disp.placed, Disp.ln, BitVec.reduceToNat, fld_or, fld_place_apart, fld_place_in, fld_full, fld_zero, Nat.reduceAdd, Nat.reduceLeDiff, Nat.reduceSub, Nat.le_refl, true_or, or_true, and_true, true_and, BitVec.zero_or, BitVec.or_zero, Nat.sub_self, bit1_beq, Prec.ofBits_bits])] at h
    have h0 := ((h 0 2 rfl).trans (by simp only [JsrI.enc, Disp.placed, Disp.ln, BitVec.reduceToNat, fld_or, fld_place_apart, fld_place_in, fld_full, fld_zero, Nat.reduceAdd, Nat.reduceLeDiff, Nat.reduceSub, Nat.le_refl, true_or, or_true, and_true, true_and, BitVec.zero_or, BitVec.or_zero, Nat.sub_self, bit1_beq, Prec.ofBits_bits]) : fld w 0 2 = 3#2)
    refine ⟨h0, (h 2 7 rfl).trans (by simp only [JsrI.enc, Disp.placed, Disp.ln, BitVec.reduceToNat, fld_or, fld_place_apart, fld_place_in, fld_full, fld_zero, Nat.reduceAdd, Nat.reduceLeDiff, Nat.reduceSub, Nat.le_refl, true_or, or_true, and_true, true_and, BitVec.zero_or, BitVec.or_zero, Nat.sub_self, bit1_beq, Prec.ofBits_bits]), ?_⟩
    simp only [JsrI.ofWord, Disp.ofWord, h0, h 30 2 rfl, h 27 3 rfl, h 21 6 rfl, h 15 6 rfl, h 9 6 rfl, h 32 64 rfl]
    simp only [JsrI.enc, Disp.placed, Disp.ln, BitVec.reduceToNat, fld_or, fld_place_apart, fld_place_in, fld_full, fld_zero, Nat.reduceAdd, Nat.reduceLeDiff, Nat.reduceSub, Nat.le_refl, true_or, or_true, and_true, true_and, BitVec.zero_or, BitVec.or_zero, Nat.sub_self, bit1_beq, Prec.ofBits_bits]

theorem JmpS.read {w : BitVec 96} {f : JmpS} {c9 : BitVec 6} {c2 : BitVec 7}
    (h : SameLow (8 * wordLen (f.enc ||| place 9 c9 ||| place 2 c2)) w (f.enc ||| place 9 c9 ||| place 2 c2)) :
    fld w 0 2 = f.disp.ln ∧ fld w 9 6 = c9 ∧ fld w 2 7 = c2 ∧ JmpS.ofWord w = f := by
  obtain ⟨disp, sc, rb, ra⟩ := f
  cases disp
  · rw [wordLen_eq (c := 1#2) (by simp only [JmpS.enc, Disp.placed, Disp.ln, BitVec.reduceToNat, fld_or, fld_place_apart, fld_place_in, fld_full, fld_zero, Nat.reduceAdd, Nat.reduceLeDiff, Nat.reduceSub, Nat.le_refl, true_or, or_true, and_true, true_and, BitVec.zero_or, BitVec.or_zero, Nat.sub_self, bit1_beq, Prec.ofBits_bits])] at h
    have h0 := ((h 0 2 rfl).trans (by simp only [JmpS.enc, Disp.placed, Disp.ln, BitVec.reduceToNat, fld_or, fld_place_apart, fld_place_in, fld_full, fld_zero, Nat.reduceAdd, Nat.reduceLeDiff, Nat.reduceSub, Nat.le_refl, true_or, or_true, and_true, true_and, BitVec.zero_or, BitVec.or_zero, Nat.sub_self, bit1_beq, Prec.ofBits_bits]) : fld w 0 2 = 1#2)
    refine ⟨h0, (h 9 6 rfl).trans (by simp only [JmpS.enc, Disp.placed, Disp.ln, BitVec.reduceToNat, fld_or, fld_place_apart, fld_place_in, fld_full, fld_zero, Nat.reduceAdd, Nat.reduceLeDiff, Nat.reduceSub, Nat.le_refl, true_or, or_true, and_true, true_and, BitVec.zero_or, BitVec.or_zero, Nat.sub_self, bit1_beq, Prec.ofBits_bits]), (h 2 7 rfl).trans (by simp only [JmpS.enc, Disp.placed, Disp.ln, BitVec.reduceToNat, fld_or, fld_place_apart, fld_place_in, fld_full, fld_zero, Nat.reduceAdd, Nat.reduceLeDiff, Nat.reduceSub, Nat.le_refl, true_or, or_true, and_true, true_and, BitVec.zero_or, BitVec.or_zero, Nat.sub_self, bit1_beq, Prec.ofBits_bits]), ?_⟩
    simp only [JmpS.ofWord, Disp.ofWord, h0, h 27 3 rfl, h 21 6 rfl, h 15 6 rfl, h 32 16 rfl]
    simp only [JmpS.enc, Disp.placed, Disp.ln, BitVec.reduceToNat, fld_or, fld_place_apart, fld_place_in, fld_full, fld_zero, Nat.reduceAdd, Nat.reduceLeDiff, Nat.reduceSub, Nat.le_refl, true_or, or_true, and_true, true_and, BitVec.zero_or, BitVec.or_zero, Nat.sub_self, bit1_beq, Prec.ofBits_bits]
  · rw [wordLen_eq (c := 2#2) (by simp only [JmpS.enc, Disp.placed, Disp.ln, BitVec.reduceToNat, fld_or, fld_place_apart, fld_place_in, fld_full, fld_zero, Nat.reduceAdd, Nat.reduceLeDiff, Nat.reduceSub, Nat.le_refl, true_or, or_true, and_true, true_and, BitVec.zero_or, BitVec.or_zero, Nat.sub_self, bit1_beq, Prec.ofBits_bits])] at h
    have h0 := ((h 0 2 rfl).trans (by simp only [JmpS.enc, Disp.placed, Disp.ln, BitVec.reduceToNat, fld_or, fld_place_apart, fld_place_in, fld_full, fld_zero, Nat.reduceAdd, Nat.reduceLeDiff, Nat.reduceSub, Nat.le_refl, true_or, or_true, and_true, true_and, BitVec.zero_or, BitVec.or_zero, Nat.sub_self, bit1_beq, Prec.ofBits_bits]) : fld w 0 2 = 2#2)
    refine ⟨h0, (h 9 6 rfl).trans (by simp only [JmpS.enc, Disp.placed, Disp.ln, BitVec.reduceToNat, fld_or, fld_place_apart, fld_place_in, fld_full, fld_zero, Nat.reduceAdd, Nat.reduceLeDiff, Nat.reduceSub, Nat.le_refl, true_or, or_true, and_true, true_and, BitVec.zero_or, BitVec.or_zero, Nat.sub_self, bit1_beq, Prec.ofBits_bits]), (h 2 7 rfl).trans (by simp only [JmpS.enc, Disp.placed, Disp.ln, BitVec.reduceToNat, fld_or, fld_place_apart, fld_place_in, fld_full, fld_zero, Nat.reduceAdd, Nat.reduceLeDiff, Nat.reduceSub, Nat.le_refl, true_or, or_true, and_true, true_and, BitVec.zero_or, BitVec.or_zero, Nat.sub_self, bit1_beq, Prec.ofBits_bits]), ?_⟩
    simp only [JmpS.ofWord, Disp.ofWord, h0, h 27 3 rfl, h 21 6 rfl, h 15 6 rfl, h 32 40 rfl]
    simp only [JmpS.enc, Disp.placed, Disp.ln, BitVec.reduceToNat, fld_or, fld_place_apart, fld_place_in, fld_full, fld_zero, Nat.reduceAdd, Nat.reduceLeDiff, Nat.reduceSub, Nat.le_refl, true_or, or_true, and_true, true_and, BitVec.zero_or, BitVec.or_zero, Nat.sub_self, bit1_beq, Prec.ofBits_bits]
  · rw [wordLen_eq (c := 3#2) (by simp only [JmpS.enc, Disp.placed, Disp.ln, BitVec.reduceToNat, fld_or, fld_place_apart, fld_place_in, fld_full, fld_zero, Nat.reduceAdd, Nat.reduceLeDiff, Nat.reduceSub, Nat.le_refl, true_or, or_true, and_true, true_and, BitVec.zero_or, BitVec.or_zero, Nat.sub_self, bit1_beq, Prec.ofBits_bits])] at h
    have h0 := ((h 0 2 rfl).trans (by simp only [JmpS.enc, Disp.placed, Disp.ln, BitVec.reduceToNat, fld_or, fld_place_apart, fld_place_in, fld_full, fld_zero, Nat.reduceAdd, Nat.reduceLeDiff, Nat.reduceSub, Nat.le_refl, true_or, or_true, and_true, true_and, BitVec.zero_or, BitVec.or_zero, Nat.sub_self, bit1_beq, Prec.ofBits_bits]) : fld w 0 2 = 3#2)
    refine ⟨h0, (h 9 6 rfl).trans (by simp only [JmpS.enc, Disp.placed, Disp.ln, BitVec.reduceToNat, fld_or, fld_place_apart, fld_place_in, fld_full, fld_zero, Nat.reduceAdd, Nat.reduceLeDiff, Nat.reduceSub, Nat.le_refl, true_or, or_true, and_true, true_and, BitVec.zero_or, BitVec.or_zero, Nat.sub_self, bit1_beq, Prec.ofBits_bits]), (h 2 7 rfl).trans (by simp only [JmpS.enc, Disp.placed, Disp.ln, BitVec.reduceToNat, fld_or, fld_place_apart, fld_place_in, fld_full, fld_zero, Nat.reduceAdd, Nat.reduceLeDiff, Nat.reduceSub, Nat.le_refl, true_or, or_true, and_true, true_and, BitVec.zero_or, BitVec.or_zero, Nat.sub_self, bit1_beq, Prec.ofBits_bits]), ?_⟩
    simp only [JmpS.ofWord, Disp.ofWord, h0, h 27 3 rfl, h 21 6 rfl, h 15 6 rfl, h 32 64 rfl]
    simp only [JmpS.enc, Disp.placed, Disp.ln, BitVec.reduceToNat, fld_or, fld_place_apart, fld_place_in, fld_full, fld_zero, Nat.reduceAdd, Nat.reduceLeDiff, Nat.reduceSub, Nat.le_refl, true_or, or_true, and_true, true_and, BitVec.zero_or, BitVec.or_zero, Nat.sub_self, bit1_beq, Prec.ofBits_bits]

theorem Ret24.read {w : BitVec 96} {f : Ret24} {c13 : BitVec 1} {c2 : BitVec 7}
    (h : SameLow (8 * wordLen (f.enc ||| place 13 c13 ||| place 2 c2 ||| place 0 0#2)) w (f.enc ||| place 13 c13 ||| place 2 c2 ||| place 0 0#2)) :
    fld w 0 2 = 0#2 ∧ fld w 13 1 = c13 ∧ fld w 2 7 = c2 ∧ Ret24.ofWord w = f := by
  rw [wordLen_eq (c := 0#2) (by simp only [Ret24.enc, BitVec.reduceToNat, fld_or, fld_place_apart, fld_place_in, fld_full, fld_zero, Nat.reduceAdd, Nat.reduceLeDiff, Nat.reduceSub, Nat.le_refl, true_or, or_true, and_true, true_and, BitVec.zero_or, BitVec.or_zero, Nat.sub_self, bit1_beq, Prec.ofBits_bits])] at h
  have h0 := ((h 0 2 rfl).trans (by simp only [Ret24.enc, BitVec.reduceToNat, fld_or, fld_place_apart, fld_place_in, fld_full, fld_zero, Nat.reduceAdd, Nat.reduceLeDiff, Nat.reduceSub, Nat.le_refl, true_or, or_true, and_true, true_and, BitVec.zero_or, BitVec.or_zero, Nat.sub_self, bit1_beq, Prec.ofBits_bits]) : fld w 0 2 = 0#2)
  refine ⟨h0, (h 13 1 rfl).trans (by simp only [Ret24.enc, BitVec.reduceToNat, fld_or, fld_place_apart, fld_place_in, fld_full, fld_zero, Nat.reduceAdd, Nat.reduceLeDiff, Nat.reduceSub, Nat.le_refl, true_or, or_true, and_true, true_and, BitVec.zero_or, BitVec.or_zero, Nat.sub_self, bit1_beq, Prec.ofBits_bits]), (h 2 7 rfl).trans (by simp only [Ret24.enc, BitVec.reduceToNat, fld_or, fld_place_apart, fld_place_in, fld_full, fld_zero, Nat.reduceAdd, Nat.reduceLeDiff, Nat.reduceSub, Nat.le_refl, true_or, or_true, and_true, true_and, BitVec.zero_or, BitVec.or_zero, Nat.sub_self, bit1_beq, Prec.ofBits_bits]), ?_⟩
  simp only [Ret24.ofWord, h 19 5 rfl, h 14 5 rfl, h 9 4 rfl]
  simp only [Ret24.enc, BitVec.reduceToNat, fld_or, fld_place_apart, fld_place_in, fld_full, fld_zero, Nat.reduceAdd, Nat.reduceLeDiff, Nat.reduceSub, Nat.le_refl, true_or, or_true, and_true, true_and, BitVec.zero_or, BitVec.or_zero, Nat.sub_self, bit1_beq, Prec.ofBits_bits]

theorem RetF.read {w : BitVec 96} {f : RetF} {c13 : BitVec 2} {c2 : BitVec 7}
    (h : SameLow (8 * wordLen (f.enc ||| place 13 c13 ||| place 2 c2)) w (f.enc ||| place 13 c13 ||| place 2 c2)) :
    fld w 0 2 = f.imm.ln ∧ fld w 13 2 = c13 ∧ fld w 2 7 = c2 ∧ RetF.ofWord w = f := by
  obtain ⟨imm, na, ra, offs⟩ := f
  cases imm
  · rw [wordLen_eq (c := 1#2) (by simp only [RetF.enc, Imm.placed, Imm.ln, BitVec.reduceToNat, fld_or, fld_place_apart, fld_place_in, fld_full, fld_zero, Nat.reduceAdd, Nat.reduceLeDiff, Nat.reduceSub, Nat.le_refl, true_or, or_true, and_true, true_and, BitVec.zero_or, BitVec.or_zero, Nat.sub_self, bit1_beq, Prec.ofBits_bits])] at h
    have h0 := ((h 0 2 rfl).trans (by simp only [RetF.enc, Imm.placed, Imm.ln, BitVec.reduceToNat, fld_or, fld_place_apart, fld_place_in, fld_full, fld_zero, Nat.reduceAdd, Nat.reduceLeDiff, Nat.reduceSub, Nat.le_refl, true_or, or_true, and_true, true_and, BitVec.zero_or, BitVec.or_zero, Nat.sub_self, bit1_beq, Prec.ofBits_bits]) : fld w 0 2 = 1#2)
    refine ⟨h0, (h 13 2 rfl).trans (by simp only [RetF.enc, Imm.placed, Imm.ln, BitVec.reduceToNat, fld_or, fld_place_apart, fld_place_in, fld_full, fld_zero, Nat.reduceAdd, Nat.reduceLeDiff, Nat.reduceSub, Nat.le_refl, true_or, or_true, and_true, true_and, BitVec.zero_or, BitVec.or_zero, Nat.sub_self, bit1_beq, Prec.ofBits_bits]), (h 2 7 rfl).trans (by simp only [RetF.enc, Imm.placed, Imm.ln, BitVec.reduceToNat, fld_or, fld_place_apart, fld_place_in, fld_full, fld_zero, Nat.reduceAdd, Nat.reduceLeDiff, Nat.reduceSub, Nat.le_refl, true_or, or_true, and_true, true_and, BitVec.zero_or, BitVec.or_zero, Nat.sub_self, bit1_beq, Prec.ofBits_bits]), ?_⟩
    simp only [RetF.ofWord, flag, Imm.ofWord, h0, h 22 1 rfl, h 16 6 rfl, h 9 4 rfl, h 25 23 rfl]
    simp only [RetF.enc, Imm.placed, Imm.ln, BitVec.reduceToNat, fld_or, fld_place_apart, fld_place_in, fld_full, fld_zero, Nat.reduceAdd, Nat.reduceLeDiff, Nat.reduceSub, Nat.le_refl, true_or, or_true, and_true, true_and, BitVec.zero_or, BitVec.or_zero, Nat.sub_self, bit1_beq, Prec.ofBits_bits]
  · rw [wordLen_eq (c := 2#2) (by simp only [RetF.enc, Imm.placed, Imm.ln, BitVec.reduceToNat, fld_or, fld_place_apart, fld_place_in, fld_full, fld_zero, Nat.reduceAdd, Nat.reduceLeDiff, Nat.reduceSub, Nat.le_refl, true_or, or_true, and_true, true_and, BitVec.zero_or, BitVec.or_zero, Nat.sub_self, bit1_beq, Prec.ofBits_bits])] at h
    have h0 := ((h 0 2 rfl).trans (by simp only [RetF.enc, Imm.placed, Imm.ln, BitVec.reduceToNat, fld_or, fld_place_apart, fld_place_in, fld_full, fld_zero, Nat.reduceAdd, Nat.reduceLeDiff, Nat.reduceSub, Nat.le_refl, true_or, or_true, and_true, true_and, BitVec.zero_or, BitVec.or_zero, Nat.sub_self, bit1_beq, Prec.ofBits_bits]) : fld w 0 2 = 2#2)
    refine ⟨h0, (h 13 2 rfl).trans (by simp only [RetF.enc, Imm.placed, Imm.ln, BitVec.reduceToNat, fld_or, fld_place_apart, fld_place_in, fld_full, fld_zero, Nat.reduceAdd, Nat.reduceLeDiff, Nat.reduceSub, Nat.le_refl, true_or, or_true, and_true, true_and, BitVec.zero_or, BitVec.or_zero, Nat.sub_self, bit1_beq, Prec.ofBits_bits]), (h 2 7 rfl).trans (by simp only [RetF.enc, Imm.placed, Imm.ln, BitVec.reduceToNat, fld_or, fld_place_apart, fld_place_in, fld_full, fld_zero, Nat.reduceAdd, Nat.reduceLeDiff, Nat.reduceSub, Nat.le_refl, true_or, or_true, and_true, true_and, BitVec.zero_or, BitVec.or_zero, Nat.sub_self, bit1_beq, Prec.ofBits_bits]), ?_⟩
    simp only [RetF.ofWord, flag, Imm.ofWord, h0, h 22 1 rfl, h 16 6 rfl, h 9 4 rfl, h 25 47 rfl]
    simp only [RetF.enc, Imm.placed, Imm.ln, BitVec.reduceToNat, fld_or, fld_place_apart, fld_place_in, fld_full, fld_zero, Nat.reduceAdd, Nat.reduceLeDiff, Nat.reduceSub, Nat.le_refl, true_or, or_true, and_true, true_and, BitVec.zero_or, BitVec.or_zero, Nat.sub_self, bit1_beq, Prec.ofBits_bits]
  · rw [wordLen_eq (c := 3#2) (by simp only [RetF.enc, Imm.placed, Imm.ln, BitVec.reduceToNat, fld_or, fld_place_apart, fld_place_in, fld_full, fld_zero, Nat.reduceAdd, Nat.reduceLeDiff, Nat.reduceSub, Nat.le_refl, true_or, or_true, and_true, true_and, BitVec.zero_or, BitVec.or_zero, Nat.sub_self, bit1_beq, Prec.ofBits_bits])] at h
    have h0 := ((h 0 2 rfl).trans (by simp only [RetF.enc, Imm.placed, Imm.ln, BitVec.reduceToNat, fld_or, fld_place_apart, fld_place_in, fld_full, fld_zero, Nat.reduceAdd, Nat.reduceLeDiff, Nat.reduceSub, Nat.le_refl, true_or, or_true, and_true, true_and, BitVec.zero_or, BitVec.or_zero, Nat.sub_self, bit1_beq, Prec.ofBits_bits]) : fld w 0 2 = 3#2)
    refine ⟨h0, (h 13 2 rfl).trans (by simp only [RetF.enc, Imm.placed, Imm.ln, BitVec.reduceToNat, fld_or, fld_place_apart, fld_place_in, fld_full, fld_zero, Nat.reduceAdd, Nat.reduceLeDiff, Nat.reduceSub, Nat.le_refl, true_or, or_true, and_true, true_and, BitVec.zero_or, BitVec.or_zero, Nat.sub_self, bit1_beq, Prec.ofBits_bits]), (h 2 7 rfl).trans (by simp only [RetF.enc, Imm.placed, Imm.ln, BitVec.reduceToNat, fld_or, fld_place_apart, fld_place_in, fld_full, fld_zero, Nat.reduceAdd, Nat.reduceLeDiff, Nat.reduceSub, Nat.le_refl, true_or, or_true, and_true, true_and, BitVec.zero_or, BitVec.or_zero, Nat.sub_self, bit1_beq, Prec.ofBits_bits]), ?_⟩
    simp only [RetF.ofWord, flag, Imm.ofWord, h0, h 22 1 rfl, h 16 6 rfl, h 9 4 rfl, h 25 71 rfl]
    simp only [RetF.enc, Imm.placed, Imm.ln, BitVec.reduceToNat, fld_or, fld_place_apart, fld_place_in, fld_full, fld_zero, Nat.reduceAdd, Nat.reduceLeDiff, Nat.reduceSub, Nat.le_refl, true_or, or_true, and_true, true_and, BitVec.zero_or, BitVec.or_zero, Nat.sub_self, bit1_beq, Prec.ofBits_bits]

theorem CapR.read {w : BitVec 96} {f : CapR} {c41 : BitVec 7} {c2 : BitVec 7}
    (h : SameLow (8 * wordLen (f.enc ||| place 41 c41 ||| place 2 c2 ||| place 0 1#2)) w (f.enc ||| place 41 c41 ||| place 2 c2 ||| place 0 1#2)) :
    fld w 0 2 = 1#2 ∧ fld w 41 7 = c41 ∧ fld w 2 7 = c2 ∧ CapR.ofWord w = f := by
  rw [wordLen_eq (c := 1#2) (by simp only [CapR.enc, BitVec.reduceToNat, fld_or, fld_place_apart, fld_place_in, fld_full, fld_zero, Nat.reduceAdd, Nat.reduceLeDiff, Nat.reduceSub, Nat.le_refl, true_or, or_true, and_true, true_and, BitVec.zero_or, BitVec.or_zero, Nat.sub_self, bit1_beq, Prec.ofBits_bits])] at h
  have h0 := ((h 0 2 rfl).trans (by simp only [CapR.enc, BitVec.reduceToNat, fld_or, fld_place_apart, fld_place_in, fld_full, fld_zero, Nat.reduceAdd, Nat.reduceLeDiff, Nat.reduceSub, Nat.le_refl, true_or, or_true, and_true, true_and, BitVec.zero_or, BitVec.or_zero, Nat.sub_self, bit1_beq, Prec.ofBits_bits]) : fld w 0 2 = 1#2)
  refine ⟨h0, (h 41 7 rfl).trans (by simp only [CapR.enc, BitVec.reduceToNat, fld_or, fld_place_apart, fld_place_in, fld_full, fld_zero, Nat.reduceAdd, Nat.reduceLeDiff, Nat.reduceSub, Nat.le_refl, true_or, or_true, and_true, true_and, BitVec.zero_or, BitVec.or_zero, Nat.sub_self, bit1_beq, Prec.ofBits_bits]), (h 2 7 rfl).trans (by simp only [CapR.enc, BitVec.reduceToNat, fld_or, fld_place_apart, fld_place_in, fld_full, fld_zero, Nat.reduceAdd, Nat.reduceLeDiff, Nat.reduceSub, Nat.le_refl, true_or, or_true, and_true, true_and, BitVec.zero_or, BitVec.or_zero, Nat.sub_self, bit1_beq, Prec.ofBits_bits]), ?_⟩
  simp only [CapR.ofWord, flag, h 29 1 rfl, h 23 6 rfl, h 22 1 rfl, h 16 6 rfl, h 15 1 rfl, h 9 6 rfl]
  simp only [CapR.enc, BitVec.reduceToNat, fld_or, fld_place_apart, fld_place_in, fld_full, fld_zero, Nat.reduceAdd, Nat.reduceLeDiff, Nat.reduceSub, Nat.le_refl, true_or, or_true, and_true, true_and, BitVec.zero_or, BitVec.or_zero, Nat.sub_self, bit1_beq, Prec.ofBits_bits]

theorem CapI.read {w : BitVec 96} {f : CapI} {c41 : BitVec 7} {c2 : BitVec 7}
    (h : SameLow (8 * wordLen (f.enc ||| place 41 c41 ||| place 2 c2 ||| place 0 1#2)) w (f.enc ||| place 41 c41 ||| place 2 c2 ||| place 0 1#2)) :
    fld w 0 2 = 1#2 ∧ fld w 41 7 = c41 ∧ fld w 2 7 = c2 ∧ CapI.ofWord w = f := by
  rw [wordLen_eq (c := 1#2) (by simp only [CapI.enc, BitVec.reduceToNat, fld_or, fld_place_apart, fld_place_in, fld_full, fld_zero, Nat.reduceAdd, Nat.reduceLeDiff, Nat.reduceSub, Nat.le_refl, true_or, or_true, and_true, true_and, BitVec.zero_or, BitVec.or_zero, Nat.sub_self, bit1_beq, Prec.ofBits_bits])] at h
  have h0 := ((h 0 2 rfl).trans (by simp only [CapI.enc, BitVec.reduceToNat, fld_or, fld_place_apart, fld_place_in, fld_full, fld_zero, Nat.reduceAdd, Nat.reduceLeDiff, Nat.reduceSub, Nat.le_refl, true_or, or_true, and_true, true_and, BitVec.zero_or, BitVec.or_zero, Nat.sub_self, bit1_beq, Prec.ofBits_bits]) : fld w 0 2 = 1#2)
  refine ⟨h0, (h 41 7 rfl).trans (by simp only [CapI.enc, BitVec.reduceToNat, fld_or, fld_place_apart, fld_place_in, fld_full, fld_zero, Nat.reduceAdd, Nat.reduceLeDiff, Nat.reduceSub, Nat.le_refl, true_or, or_true, and_true, true_and, BitVec.zero_or, BitVec.or_zero, Nat.sub_self, bit1_beq, Prec.ofBits_bits]), (h 2 7 rfl).trans (by simp only [CapI.enc, BitVec.reduceToNat, fld_or, fld_place_apart, fld_place_in, fld_full, fld_zero, Nat.reduceAdd, Nat.reduceLeDiff, Nat.reduceSub, Nat.le_refl, true_or, or_true, and_true, true_and, BitVec.zero_or, BitVec.or_zero, Nat.sub_self, bit1_beq, Prec.ofBits_bits]), ?_⟩
  simp only [CapI.ofWord, flag, h 23 18 rfl, h 22 1 rfl, h 16 6 rfl, h 15 1 rfl, h 9 6 rfl]
  simp only [CapI.enc, BitVec.reduceToNat, fld_or, fld_place_apart, fld_place_in, fld_full, fld_zero, Nat.reduceAdd, Nat.reduceLeDiff, Nat.reduceSub, Nat.le_refl, true_or, or_true, and_true, true_and, BitVec.zero_or, BitVec.or_zero, Nat.sub_self, bit1_beq, Prec.ofBits_bits]

theorem Cap3.read {w : BitVec 96} {f : Cap3} {c41 : BitVec 7} {c2 : BitVec 7}
    (h : SameLow (8 * wordLen (f.enc ||| place 41 c41 ||| place 2 c2 ||| place 0 1#2)) w (f.enc ||| place 41 c41 ||| place 2 c2 ||| place 0 1#2)) :
    fld w 0 2 = 1#2 ∧ fld w 41 7 = c41 ∧ fld w 2 7 = c2 ∧ Cap3.ofWord w = f := by
  rw [wordLen_eq (c := 1#2) (by simp only [Cap3.enc, BitVec.reduceToNat, fld_or, fld_place_apart, fld_place_in, fld_full, fld_zero, Nat.reduceAdd, Nat.reduceLeDiff, Nat.reduceSub, Nat.le_refl, true_or, or_true, and_true, true_and, BitVec.zero_or, BitVec.or_zero, Nat.sub_self, bit1_beq, Prec.ofBits_bits])] at h
  have h0 := ((h 0 2 rfl).trans (by simp only [Cap3.enc, BitVec.reduceToNat, fld_or, fld_place_apart, fld_place_in, fld_full, fld_zero, Nat.reduceAdd, Nat.reduceLeDiff, Nat.reduceSub, Nat.le_refl, true_or, or_true, and_true, true_and, BitVec.zero_or, BitVec.or_zero, Nat.sub_self, bit1_beq, Prec.ofBits_bits]) : fld w 0 2 = 1#2)
  refine ⟨h0, (h 41 7 rfl).trans (by simp only [Cap3.enc, BitVec.reduceToNat, fld_or, fld_place_apart, fld_place_in, fld_full, fld_zero, Nat.reduceAdd, Nat.reduceLeDiff, Nat.reduceSub, Nat.le_refl, true_or, or_true, and_true, true_and, BitVec.zero_or, BitVec.or_zero, Nat.sub_self, bit1_beq, Prec.ofBits_bits]), (h 2 7 rfl).trans (by simp only [Cap3.enc, BitVec.reduceToNat, fld_or, fld_place_apart, fld_place_in, fld_full, fld_zero, Nat.reduceAdd, Nat.reduceLeDiff, Nat.reduceSub, Nat.le_refl, true_or, or_true, and_true, true_and, BitVec.zero_or, BitVec.or_zero, Nat.sub_self, bit1_beq, Prec.ofBits_bits]), ?_⟩
  simp only [Cap3.ofWord, h 23 6 rfl, h 16 6 rfl, h 9 6 rfl]
  simp only [Cap3.enc, BitVec.reduceToNat, fld_or, fld_place_apart, fld_place_in, fld_full, fld_zero, Nat.reduceAdd, Nat.reduceLeDiff, Nat.reduceSub, Nat.le_refl, true_or, or_true, and_true, true_and, BitVec.zero_or, BitVec.or_zero, Nat.sub_self, bit1_beq, Prec.ofBits_bits]

theorem Cap2.read {w : BitVec 96} {f : Cap2} {c41 : BitVec 7} {c2 : BitVec 7}
    (h : SameLow (8 * wordLen (f.enc ||| place 41 c41 ||| place 2 c2 ||| place 0 1#2)) w (f.enc ||| place 41 c41 ||| place 2 c2 ||| place 0 1#2)) :
    fld w 0 2 = 1#2 ∧ fld w 41 7 = c41 ∧ fld w 2 7 = c2 ∧ Cap2.ofWord w = f := by
  rw [wordLen_eq (c := 1#2) (by simp only [Cap2.enc, BitVec.reduceToNat, fld_or, fld_place_apart, fld_place_in, fld_full, fld_zero, Nat.reduceAdd, Nat.reduceLeDiff, Nat.reduceSub, Nat.le_refl, true_or, or_true, and_true, true_and, BitVec.zero_or, BitVec.or_zero, Nat.sub_self, bit1_beq, Prec.ofBits_bits])] at h
  have h0 := ((h 0 2 rfl).trans (by simp only [Cap2.enc, BitVec.reduceToNat, fld_or, fld_place_apart, fld_place_in, fld_full, fld_zero, Nat.reduceAdd, Nat.reduceLeDiff, Nat.reduceSub, Nat.le_refl, true_or, or_true, and_true, true_and, BitVec.zero_or, BitVec.or_zero, Nat.sub_self, bit1_beq, Prec.ofBits_bits]) : fld w 0 2 = 1#2)
  refine ⟨h0, (h 41 7 rfl).trans (by simp only [Cap2.enc, BitVec.reduceToNat, fld_or, fld_place_apart, fld_place_in, fld_full, fld_zero, Nat.reduceAdd, Nat.reduceLeDiff, Nat.reduceSub, Nat.le_refl, true_or, or_true, and_true, true_and, BitVec.zero_or, BitVec.or_zero, Nat.sub_self, bit1_beq, Prec.ofBits_bits]), (h 2 7 rfl).trans (by simp only [Cap2.enc, BitVec.reduceToNat, fld_or, fld_place_apart, fld_place_in, fld_full, fld_zero, Nat.reduceAdd, Nat.reduceLeDiff, Nat.reduceSub, Nat.le_refl, true_or, or_true, and_true, true_and, BitVec.zero_or, BitVec.or_zero, Nat.sub_self, bit1_beq, Prec.ofBits_bits]), ?_⟩
  simp only [Cap2.ofWord, h 16 6 rfl, h 9 6 rfl]
  simp only [Cap2.enc, BitVec.reduceToNat, fld_or, fld_place_apart, fld_place_in, fld_full, fld_zero, Nat.reduceAdd, Nat.reduceLeDiff, Nat.reduceSub, Nat.le_refl, true_or, or_true, and_true, true_and, BitVec.zero_or, BitVec.or_zero, Nat.sub_self, bit1_beq, Prec.ofBits_bits]

/-- A set-on-immediate word under its root opcode. -/
theorem SetImm.read {w : BitVec 96} {f : SetImm} {r : BitVec 7} (h : SameLow (8 * wordLen (f.enc r)) w (f.enc r)) :
    fld w 2 7 = r ∧ SetImm.ofWord w = f := by
  cases f with
  | short p =>
    rw [SetImm.enc, wordLen_eq (c := 0#2) (by simp)] at h
    have h0 : fld w 0 2 = 0#2 := (h 0 2 rfl).trans (by simp)
    refine ⟨(h 2 7 rfl).trans (by simp), ?_⟩
    rw [SetImm.ofWord, if_pos h0, h 9 15 rfl]
    simp
  | long g =>
    obtain ⟨h0, h2, hf⟩ := RI.read (f := g) h
    refine ⟨h2, ?_⟩
    rw [SetImm.ofWord, if_neg (h0 ▸ g.imm.ln_ne), hf]

/-! ## The family -/

/-- Every word that agrees with the encoding of a well-formed instruction on the bits of the instruction decodes to it. -/
def Laws.RoundTrip.Statement (i : Instr) : Prop :=
  i.wf = true → ∀ w, SameLow (8 * wordLen (encode i)) w (encode i) → decode w = .instr i

theorem Laws.RoundTrip.zx (f : ExtImm) : Laws.RoundTrip.Statement (.zx f) := fun _ _ h => by
  obtain ⟨h0, h22, h2, hf⟩ := ExtImm.read (f := f) h
  exact (decode_at 3 (congrArg BitVec.toNat h2)).trans ((only24_eq h0).trans ((decodeExt_at 0 (congrArg BitVec.toNat h22)).trans (congrArg (fun f => Decoded.instr (.zx f)) hf)))

theorem Laws.RoundTrip.sxImm (f : ExtImm) : Laws.RoundTrip.Statement (.sxImm f) := fun _ _ h => by
  obtain ⟨h0, h22, h2, hf⟩ := ExtImm.read (f := f) h
  exact (decode_at 3 (congrArg BitVec.toNat h2)).trans ((only24_eq h0).trans ((decodeExt_at 1 (congrArg BitVec.toNat h22)).trans (congrArg (fun f => Decoded.instr (.sxImm f)) hf)))

theorem Laws.RoundTrip.sxReg (f : ExtReg) : Laws.RoundTrip.Statement (.sxReg f) := fun _ w h => by
  obtain ⟨h0, h23, h2, hf⟩ := ExtReg.read (f := f) h
  have hx : fld w 22 2 = 2#2 ∨ fld w 22 2 = 3#2 := by
    rw [show fld w 22 2 = fld w 23 1 ++ fld w 22 1 from fld_split w 22 1 1, h23]
    generalize fld w 22 1 = b; revert b; decide
  rcases hx with hx | hx
  · exact (decode_at 3 (congrArg BitVec.toNat h2)).trans ((only24_eq h0).trans ((decodeExt_at 2 (congrArg BitVec.toNat hx)).trans (congrArg (fun f => Decoded.instr (.sxReg f)) hf)))
  · exact (decode_at 3 (congrArg BitVec.toNat h2)).trans ((only24_eq h0).trans ((decodeExt_at 3 (congrArg BitVec.toNat hx)).trans (congrArg (fun f => Decoded.instr (.sxReg f)) hf)))

theorem Laws.RoundTrip.move (f : MoveF) : Laws.RoundTrip.Statement (.move f) := fun _ _ h => by
  obtain ⟨h0, h2, hf⟩ := MoveF.read (f := f) h
  exact (decode_at 15 (congrArg BitVec.toNat h2)).trans ((only24_eq h0).trans (congrArg (fun f => Decoded.instr (.move f)) hf))

theorem Laws.RoundTrip.addi (f : RIForm) : Laws.RoundTrip.Statement (.addi f) := fun _ w h => by
  cases f with
  | short f =>
    obtain ⟨h0, h2, hf⟩ := RI24.read (f := f) h
    exact (decode_at 4 (congrArg BitVec.toNat h2)).trans ((byLength_short h0).trans (congrArg (fun f => Decoded.instr (.addi (.short f))) hf))
  | long f =>
    obtain ⟨h0, h2, hf⟩ := RI.read (f := f) h
    have hl : fld w 0 2 ≠ 0#2 := h0 ▸ f.imm.ln_ne
    exact (decode_at 4 (congrArg BitVec.toNat h2)).trans ((byLength_long hl).trans (congrArg (fun f => Decoded.instr (.addi (.long f))) hf))

theorem Laws.RoundTrip.subfi (f : RIForm) : Laws.RoundTrip.Statement (.subfi f) := fun _ w h => by
  cases f with
  | short f =>
    obtain ⟨h0, h2, hf⟩ := RI24.read (f := f) h
    exact (decode_at 5 (congrArg BitVec.toNat h2)).trans ((byLength_short h0).trans (congrArg (fun f => Decoded.instr (.subfi (.short f))) hf))
  | long f =>
    obtain ⟨h0, h2, hf⟩ := RI.read (f := f) h
    have hl : fld w 0 2 ≠ 0#2 := h0 ▸ f.imm.ln_ne
    exact (decode_at 5 (congrArg BitVec.toNat h2)).trans ((byLength_long hl).trans (congrArg (fun f => Decoded.instr (.subfi (.long f))) hf))

theorem Laws.RoundTrip.muli (f : RIForm) : Laws.RoundTrip.Statement (.muli f) := fun _ w h => by
  cases f with
  | short f =>
    obtain ⟨h0, h2, hf⟩ := RI24.read (f := f) h
    exact (decode_at 6 (congrArg BitVec.toNat h2)).trans ((byLength_short h0).trans (congrArg (fun f => Decoded.instr (.muli (.short f))) hf))
  | long f =>
    obtain ⟨h0, h2, hf⟩ := RI.read (f := f) h
    have hl : fld w 0 2 ≠ 0#2 := h0 ▸ f.imm.ln_ne
    exact (decode_at 6 (congrArg BitVec.toNat h2)).trans ((byLength_long hl).trans (congrArg (fun f => Decoded.instr (.muli (.long f))) hf))

theorem Laws.RoundTrip.andi (f : RIForm) : Laws.RoundTrip.Statement (.andi f) := fun _ w h => by
  cases f with
  | short f =>
    obtain ⟨h0, h2, hf⟩ := RI24.read (f := f) h
    exact (decode_at 8 (congrArg BitVec.toNat h2)).trans ((byLength_short h0).trans (congrArg (fun f => Decoded.instr (.andi (.short f))) hf))
  | long f =>
    obtain ⟨h0, h2, hf⟩ := RI.read (f := f) h
    have hl : fld w 0 2 ≠ 0#2 := h0 ▸ f.imm.ln_ne
    exact (decode_at 8 (congrArg BitVec.toNat h2)).trans ((byLength_long hl).trans (congrArg (fun f => Decoded.instr (.andi (.long f))) hf))

theorem Laws.RoundTrip.ori (f : RIForm) : Laws.RoundTrip.Statement (.ori f) := fun _ w h => by
  cases f with
  | short f =>
    obtain ⟨h0, h2, hf⟩ := RI24.read (f := f) h
    exact (decode_at 9 (congrArg BitVec.toNat h2)).trans ((byLength_short h0).trans (congrArg (fun f => Decoded.instr (.ori (.short f))) hf))
  | long f =>
    obtain ⟨h0, h2, hf⟩ := RI.read (f := f) h
    have hl : fld w 0 2 ≠ 0#2 := h0 ▸ f.imm.ln_ne
    exact (decode_at 9 (congrArg BitVec.toNat h2)).trans ((byLength_long hl).trans (congrArg (fun f => Decoded.instr (.ori (.long f))) hf))

theorem Laws.RoundTrip.eori (f : RIForm) : Laws.RoundTrip.Statement (.eori f) := fun _ w h => by
  cases f with
  | short f =>
    obtain ⟨h0, h2, hf⟩ := RI24.read (f := f) h
    exact (decode_at 10 (congrArg BitVec.toNat h2)).trans ((byLength_short h0).trans (congrArg (fun f => Decoded.instr (.eori (.short f))) hf))
  | long f =>
    obtain ⟨h0, h2, hf⟩ := RI.read (f := f) h
    have hl : fld w 0 2 ≠ 0#2 := h0 ▸ f.imm.ln_ne
    exact (decode_at 10 (congrArg BitVec.toNat h2)).trans ((byLength_long hl).trans (congrArg (fun f => Decoded.instr (.eori (.long f))) hf))

theorem Laws.RoundTrip.cmpi (f : RIForm) : Laws.RoundTrip.Statement (.cmpi f) := fun _ w h => by
  cases f with
  | short f =>
    obtain ⟨h0, h2, hf⟩ := RI24.read (f := f) h
    exact (decode_at 11 (congrArg BitVec.toNat h2)).trans ((byLength_short h0).trans (congrArg (fun f => Decoded.instr (.cmpi (.short f))) hf))
  | long f =>
    obtain ⟨h0, h2, hf⟩ := RI.read (f := f) h
    have hl : fld w 0 2 ≠ 0#2 := h0 ▸ f.imm.ln_ne
    exact (decode_at 11 (congrArg BitVec.toNat h2)).trans ((byLength_long hl).trans (congrArg (fun f => Decoded.instr (.cmpi (.long f))) hf))

theorem Laws.RoundTrip.divi (f : RIForm) : Laws.RoundTrip.Statement (.divi f) := fun _ w h => by
  cases f with
  | short f =>
    obtain ⟨h0, h2, hf⟩ := RI24.read (f := f) h
    exact (decode_at 13 (congrArg BitVec.toNat h2)).trans ((byLength_short h0).trans (congrArg (fun f => Decoded.instr (.divi (.short f))) hf))
  | long f =>
    obtain ⟨h0, h2, hf⟩ := RI.read (f := f) h
    have hl : fld w 0 2 ≠ 0#2 := h0 ▸ f.imm.ln_ne
    exact (decode_at 13 (congrArg BitVec.toNat h2)).trans ((byLength_long hl).trans (congrArg (fun f => Decoded.instr (.divi (.long f))) hf))

theorem Laws.RoundTrip.mului (f : RIForm) : Laws.RoundTrip.Statement (.mului f) := fun _ w h => by
  cases f with
  | short f =>
    obtain ⟨h0, h2, hf⟩ := RI24.read (f := f) h
    exact (decode_at 14 (congrArg BitVec.toNat h2)).trans ((byLength_short h0).trans (congrArg (fun f => Decoded.instr (.mului (.short f))) hf))
  | long f =>
    obtain ⟨h0, h2, hf⟩ := RI.read (f := f) h
    have hl : fld w 0 2 ≠ 0#2 := h0 ▸ f.imm.ln_ne
    exact (decode_at 14 (congrArg BitVec.toNat h2)).trans ((byLength_long hl).trans (congrArg (fun f => Decoded.instr (.mului (.long f))) hf))

theorem Laws.RoundTrip.cmpui (f : RIForm) : Laws.RoundTrip.Statement (.cmpui f) := fun _ w h => by
  cases f with
  | short f =>
    obtain ⟨h0, h2, hf⟩ := RI24.read (f := f) h
    exact (decode_at 19 (congrArg BitVec.toNat h2)).trans ((byLength_short h0).trans (congrArg (fun f => Decoded.instr (.cmpui (.short f))) hf))
  | long f =>
    obtain ⟨h0, h2, hf⟩ := RI.read (f := f) h
    have hl : fld w 0 2 ≠ 0#2 := h0 ▸ f.imm.ln_ne
    exact (decode_at 19 (congrArg BitVec.toNat h2)).trans ((byLength_long hl).trans (congrArg (fun f => Decoded.instr (.cmpui (.long f))) hf))

theorem Laws.RoundTrip.divui (f : RIForm) : Laws.RoundTrip.Statement (.divui f) := fun _ w h => by
  cases f with
  | short f =>
    obtain ⟨h0, h2, hf⟩ := RI24.read (f := f) h
    exact (decode_at 21 (congrArg BitVec.toNat h2)).trans ((byLength_short h0).trans (congrArg (fun f => Decoded.instr (.divui (.short f))) hf))
  | long f =>
    obtain ⟨h0, h2, hf⟩ := RI.read (f := f) h
    have hl : fld w 0 2 ≠ 0#2 := h0 ▸ f.imm.ln_ne
    exact (decode_at 21 (congrArg BitVec.toNat h2)).trans ((byLength_long hl).trans (congrArg (fun f => Decoded.instr (.divui (.long f))) hf))

theorem Laws.RoundTrip.add2ui (f : RIForm) : Laws.RoundTrip.Statement (.add2ui f) := fun _ w h => by
  cases f with
  | short f =>
    obtain ⟨h0, h2, hf⟩ := RI24.read (f := f) h
    exact (decode_at 60 (congrArg BitVec.toNat h2)).trans ((byLength_short h0).trans (congrArg (fun f => Decoded.instr (.add2ui (.short f))) hf))
  | long f =>
    obtain ⟨h0, h2, hf⟩ := RI.read (f := f) h
    have hl : fld w 0 2 ≠ 0#2 := h0 ▸ f.imm.ln_ne
    exact (decode_at 60 (congrArg BitVec.toNat h2)).trans ((byLength_long hl).trans (congrArg (fun f => Decoded.instr (.add2ui (.long f))) hf))

theorem Laws.RoundTrip.add4ui (f : RIForm) : Laws.RoundTrip.Statement (.add4ui f) := fun _ w h => by
  cases f with
  | short f =>
    obtain ⟨h0, h2, hf⟩ := RI24.read (f := f) h
    exact (decode_at 61 (congrArg BitVec.toNat h2)).trans ((byLength_short h0).trans (congrArg (fun f => Decoded.instr (.add4ui (.short f))) hf))
  | long f =>
    obtain ⟨h0, h2, hf⟩ := RI.read (f := f) h
    have hl : fld w 0 2 ≠ 0#2 := h0 ▸ f.imm.ln_ne
    exact (decode_at 61 (congrArg BitVec.toNat h2)).trans ((byLength_long hl).trans (congrArg (fun f => Decoded.instr (.add4ui (.long f))) hf))

theorem Laws.RoundTrip.add8ui (f : RIForm) : Laws.RoundTrip.Statement (.add8ui f) := fun _ w h => by
  cases f with
  | short f =>
    obtain ⟨h0, h2, hf⟩ := RI24.read (f := f) h
    exact (decode_at 62 (congrArg BitVec.toNat h2)).trans ((byLength_short h0).trans (congrArg (fun f => Decoded.instr (.add8ui (.short f))) hf))
  | long f =>
    obtain ⟨h0, h2, hf⟩ := RI.read (f := f) h
    have hl : fld w 0 2 ≠ 0#2 := h0 ▸ f.imm.ln_ne
    exact (decode_at 62 (congrArg BitVec.toNat h2)).trans ((byLength_long hl).trans (congrArg (fun f => Decoded.instr (.add8ui (.long f))) hf))

theorem Laws.RoundTrip.add16ui (f : RIForm) : Laws.RoundTrip.Statement (.add16ui f) := fun _ w h => by
  cases f with
  | short f =>
    obtain ⟨h0, h2, hf⟩ := RI24.read (f := f) h
    exact (decode_at 63 (congrArg BitVec.toNat h2)).trans ((byLength_short h0).trans (congrArg (fun f => Decoded.instr (.add16ui (.short f))) hf))
  | long f =>
    obtain ⟨h0, h2, hf⟩ := RI.read (f := f) h
    have hl : fld w 0 2 ≠ 0#2 := h0 ▸ f.imm.ln_ne
    exact (decode_at 63 (congrArg BitVec.toNat h2)).trans ((byLength_long hl).trans (congrArg (fun f => Decoded.instr (.add16ui (.long f))) hf))

theorem Laws.RoundTrip.auiip (f : AuiipForm) : Laws.RoundTrip.Statement (.auiip f) := fun hw w h => by
  cases f with
  | short f =>
    obtain ⟨h0, h2, hf⟩ := Auiip24.read (f := f) h
    exact (decode_at 58 (congrArg BitVec.toNat h2)).trans ((decode58_at0 h0).trans (congrArg (fun f => Decoded.instr (.auiip (.short f))) hf))
  | long f =>
    obtain ⟨h0, h2, hf⟩ := Auiip.read (f := f) h
    have hl : fld w 0 2 ≠ 0#2 := h0 ▸ f.imm.ln_ne
    have hm : fld w 0 2 ≠ 1#2 := by
      rw [h0]; obtain ⟨m, _, _⟩ := f
      cases m <;> first | exact (by decide : 2#2 ≠ 1#2) | exact (by decide : 3#2 ≠ 1#2) | cases hw
    exact (decode_at 58 (congrArg BitVec.toNat h2)).trans ((decode58_long hl hm).trans (congrArg (fun f => Decoded.instr (.auiip (.long f))) hf))

theorem Laws.RoundTrip.opcode58 (payload : BitVec 39) : Laws.RoundTrip.Statement (.opcode58 payload) := fun _ w h => by
  change SameLow (8 * wordLen (place 9 payload ||| place 2 58#7 ||| place 0 1#2)) w (place 9 payload ||| place 2 58#7 ||| place 0 1#2) at h
  rw [wordLen_eq (c := 1#2) (by simp)] at h
  have h2 : fld w 2 7 = 58#7 := (h 2 7 rfl).trans (by simp)
  have h0 : fld w 0 2 = 1#2 := (h 0 2 rfl).trans (by simp)
  have hx : fld w 9 39 = payload := (h 9 39 rfl).trans (by simp)
  exact (decode_at 58 (congrArg BitVec.toNat h2)).trans ((decode58_at1 h0).trans (congrArg (fun x => Decoded.instr (.opcode58 x)) hx))

theorem Laws.RoundTrip.seqi (f : RI) : Laws.RoundTrip.Statement (.seqi f) := fun _ w h => by
  obtain ⟨h0, h2, hf⟩ := RI.read (f := f) h
  have hl : fld w 0 2 ≠ 0#2 := h0 ▸ f.imm.ln_ne
  exact (decode_at 22 (congrArg BitVec.toNat h2)).trans ((byLength_long hl).trans (congrArg (fun f => Decoded.instr (.seqi f)) hf))

theorem Laws.RoundTrip.zseqi (f : RI) : Laws.RoundTrip.Statement (.zseqi f) := fun _ w h => by
  obtain ⟨h0, h2, hf⟩ := RI.read (f := f) h
  have hl : fld w 0 2 ≠ 0#2 := h0 ▸ f.imm.ln_ne
  exact (decode_at 94 (congrArg BitVec.toNat h2)).trans ((byLength_long hl).trans (congrArg (fun f => Decoded.instr (.zseqi f)) hf))

theorem Laws.RoundTrip.snei (f : SetImm) : Laws.RoundTrip.Statement (.snei f) := fun _ _ h =>
  (decode_at 23 (congrArg BitVec.toNat (SetImm.read (f := f) h).1)).trans (congrArg (fun f => Decoded.instr (.snei f)) (SetImm.read (f := f) h).2)

theorem Laws.RoundTrip.slti (f : SetImm) : Laws.RoundTrip.Statement (.slti f) := fun _ _ h =>
  (decode_at 24 (congrArg BitVec.toNat (SetImm.read (f := f) h).1)).trans (congrArg (fun f => Decoded.instr (.slti f)) (SetImm.read (f := f) h).2)

theorem Laws.RoundTrip.slei (f : SetImm) : Laws.RoundTrip.Statement (.slei f) := fun _ _ h =>
  (decode_at 25 (congrArg BitVec.toNat (SetImm.read (f := f) h).1)).trans (congrArg (fun f => Decoded.instr (.slei f)) (SetImm.read (f := f) h).2)

theorem Laws.RoundTrip.sgti (f : SetImm) : Laws.RoundTrip.Statement (.sgti f) := fun _ _ h =>
  (decode_at 26 (congrArg BitVec.toNat (SetImm.read (f := f) h).1)).trans (congrArg (fun f => Decoded.instr (.sgti f)) (SetImm.read (f := f) h).2)

theorem Laws.RoundTrip.sgei (f : SetImm) : Laws.RoundTrip.Statement (.sgei f) := fun _ _ h =>
  (decode_at 27 (congrArg BitVec.toNat (SetImm.read (f := f) h).1)).trans (congrArg (fun f => Decoded.instr (.sgei f)) (SetImm.read (f := f) h).2)

theorem Laws.RoundTrip.sltui (f : SetImm) : Laws.RoundTrip.Statement (.sltui f) := fun _ _ h =>
  (decode_at 28 (congrArg BitVec.toNat (SetImm.read (f := f) h).1)).trans (congrArg (fun f => Decoded.instr (.sltui f)) (SetImm.read (f := f) h).2)

theorem Laws.RoundTrip.sleui (f : SetImm) : Laws.RoundTrip.Statement (.sleui f) := fun _ _ h =>
  (decode_at 29 (congrArg BitVec.toNat (SetImm.read (f := f) h).1)).trans (congrArg (fun f => Decoded.instr (.sleui f)) (SetImm.read (f := f) h).2)

theorem Laws.RoundTrip.sgtui (f : SetImm) : Laws.RoundTrip.Statement (.sgtui f) := fun _ _ h =>
  (decode_at 30 (congrArg BitVec.toNat (SetImm.read (f := f) h).1)).trans (congrArg (fun f => Decoded.instr (.sgtui f)) (SetImm.read (f := f) h).2)

theorem Laws.RoundTrip.sgeui (f : SetImm) : Laws.RoundTrip.Statement (.sgeui f) := fun _ _ h =>
  (decode_at 31 (congrArg BitVec.toNat (SetImm.read (f := f) h).1)).trans (congrArg (fun f => Decoded.instr (.sgeui f)) (SetImm.read (f := f) h).2)

theorem Laws.RoundTrip.zsnei (f : SetImm) : Laws.RoundTrip.Statement (.zsnei f) := fun _ _ h =>
  (decode_at 95 (congrArg BitVec.toNat (SetImm.read (f := f) h).1)).trans (congrArg (fun f => Decoded.instr (.zsnei f)) (SetImm.read (f := f) h).2)

theorem Laws.RoundTrip.zslti (f : SetImm) : Laws.RoundTrip.Statement (.zslti f) := fun _ _ h =>
  (decode_at 96 (congrArg BitVec.toNat (SetImm.read (f := f) h).1)).trans (congrArg (fun f => Decoded.instr (.zslti f)) (SetImm.read (f := f) h).2)

theorem Laws.RoundTrip.zslei (f : SetImm) : Laws.RoundTrip.Statement (.zslei f) := fun _ _ h =>
  (decode_at 97 (congrArg BitVec.toNat (SetImm.read (f := f) h).1)).trans (congrArg (fun f => Decoded.instr (.zslei f)) (SetImm.read (f := f) h).2)

theorem Laws.RoundTrip.zsgti (f : SetImm) : Laws.RoundTrip.Statement (.zsgti f) := fun _ _ h =>
  (decode_at 98 (congrArg BitVec.toNat (SetImm.read (f := f) h).1)).trans (congrArg (fun f => Decoded.instr (.zsgti f)) (SetImm.read (f := f) h).2)

theorem Laws.RoundTrip.zsgei (f : SetImm) : Laws.RoundTrip.Statement (.zsgei f) := fun _ _ h =>
  (decode_at 99 (congrArg BitVec.toNat (SetImm.read (f := f) h).1)).trans (congrArg (fun f => Decoded.instr (.zsgei f)) (SetImm.read (f := f) h).2)

theorem Laws.RoundTrip.zsltui (f : SetImm) : Laws.RoundTrip.Statement (.zsltui f) := fun _ _ h =>
  (decode_at 100 (congrArg BitVec.toNat (SetImm.read (f := f) h).1)).trans (congrArg (fun f => Decoded.instr (.zsltui f)) (SetImm.read (f := f) h).2)

theorem Laws.RoundTrip.zsleui (f : SetImm) : Laws.RoundTrip.Statement (.zsleui f) := fun _ _ h =>
  (decode_at 101 (congrArg BitVec.toNat (SetImm.read (f := f) h).1)).trans (congrArg (fun f => Decoded.instr (.zsleui f)) (SetImm.read (f := f) h).2)

theorem Laws.RoundTrip.zsgtui (f : SetImm) : Laws.RoundTrip.Statement (.zsgtui f) := fun _ _ h =>
  (decode_at 102 (congrArg BitVec.toNat (SetImm.read (f := f) h).1)).trans (congrArg (fun f => Decoded.instr (.zsgtui f)) (SetImm.read (f := f) h).2)

theorem Laws.RoundTrip.zsgeui (f : SetImm) : Laws.RoundTrip.Statement (.zsgeui f) := fun _ _ h =>
  (decode_at 103 (congrArg BitVec.toNat (SetImm.read (f := f) h).1)).trans (congrArg (fun f => Decoded.instr (.zsgeui f)) (SetImm.read (f := f) h).2)

theorem Laws.RoundTrip.csrrd (f : Csr) : Laws.RoundTrip.Statement (.csrrd f) := fun _ _ h => by
  obtain ⟨h0, h45, h2, hf⟩ := Csr.read (f := f) h
  exact (decode_at 7 (congrArg BitVec.toNat h2)).trans ((only48_eq h0).trans ((decodeCsr_at 0 (congrArg BitVec.toNat h45)).trans (congrArg (fun f => Decoded.instr (.csrrd f)) hf)))

theorem Laws.RoundTrip.csrrw (f : Csr) : Laws.RoundTrip.Statement (.csrrw f) := fun _ _ h => by
  obtain ⟨h0, h45, h2, hf⟩ := Csr.read (f := f) h
  exact (decode_at 7 (congrArg BitVec.toNat h2)).trans ((only48_eq h0).trans ((decodeCsr_at 1 (congrArg BitVec.toNat h45)).trans (congrArg (fun f => Decoded.instr (.csrrw f)) hf)))

theorem Laws.RoundTrip.csrrs (f : Csr) : Laws.RoundTrip.Statement (.csrrs f) := fun _ _ h => by
  obtain ⟨h0, h45, h2, hf⟩ := Csr.read (f := f) h
  exact (decode_at 7 (congrArg BitVec.toNat h2)).trans ((only48_eq h0).trans ((decodeCsr_at 2 (congrArg BitVec.toNat h45)).trans (congrArg (fun f => Decoded.instr (.csrrs f)) hf)))

theorem Laws.RoundTrip.csrrc (f : Csr) : Laws.RoundTrip.Statement (.csrrc f) := fun _ _ h => by
  obtain ⟨h0, h45, h2, hf⟩ := Csr.read (f := f) h
  exact (decode_at 7 (congrArg BitVec.toNat h2)).trans ((only48_eq h0).trans ((decodeCsr_at 3 (congrArg BitVec.toNat h45)).trans (congrArg (fun f => Decoded.instr (.csrrc f)) hf)))

theorem Laws.RoundTrip.csrrwImm (f : CsrImm) : Laws.RoundTrip.Statement (.csrrwImm f) := fun _ _ h => by
  obtain ⟨h0, h45, h2, hf⟩ := CsrImm.read (f := f) h
  exact (decode_at 7 (congrArg BitVec.toNat h2)).trans ((only48_eq h0).trans ((decodeCsr_at 5 (congrArg BitVec.toNat h45)).trans (congrArg (fun f => Decoded.instr (.csrrwImm f)) hf)))

theorem Laws.RoundTrip.csrrsImm (f : CsrImm) : Laws.RoundTrip.Statement (.csrrsImm f) := fun _ _ h => by
  obtain ⟨h0, h45, h2, hf⟩ := CsrImm.read (f := f) h
  exact (decode_at 7 (congrArg BitVec.toNat h2)).trans ((only48_eq h0).trans ((decodeCsr_at 6 (congrArg BitVec.toNat h45)).trans (congrArg (fun f => Decoded.instr (.csrrsImm f)) hf)))

theorem Laws.RoundTrip.csrrcImm (f : CsrImm) : Laws.RoundTrip.Statement (.csrrcImm f) := fun _ _ h => by
  obtain ⟨h0, h45, h2, hf⟩ := CsrImm.read (f := f) h
  exact (decode_at 7 (congrArg BitVec.toNat h2)).trans ((only48_eq h0).trans ((decodeCsr_at 7 (congrArg BitVec.toNat h45)).trans (congrArg (fun f => Decoded.instr (.csrrcImm f)) hf)))

theorem Laws.RoundTrip.chk (f : Chk) : Laws.RoundTrip.Statement (.chk f) := fun _ _ h => by
  obtain ⟨h0, h15, h2, hf⟩ := Chk.read (f := f) h
  exact (decode_at 112 (congrArg BitVec.toNat h2)).trans ((only48_eq h0).trans ((if_pos (flag_true h15)).trans (congrArg (fun f => Decoded.instr (.chk f)) hf)))

theorem Laws.RoundTrip.chku (f : Chk) : Laws.RoundTrip.Statement (.chku f) := fun _ _ h => by
  obtain ⟨h0, h15, h2, hf⟩ := Chk.read (f := f) h
  exact (decode_at 112 (congrArg BitVec.toNat h2)).trans ((only48_eq h0).trans ((if_neg (flag_false h15)).trans (congrArg (fun f => Decoded.instr (.chku f)) hf)))

theorem Laws.RoundTrip.and (f : R3) : Laws.RoundTrip.Statement (.and f) := fun _ _ h => by
  obtain ⟨h0, h41, h4, hp, hf⟩ := R3.read (f := f) h
  exact (decode_r3 h0 hp h4).trans ((decodeR3_at 0 (congrArg BitVec.toNat h41)).trans (congrArg (fun f => Decoded.instr (.and f)) hf))

theorem Laws.RoundTrip.or (f : R3) : Laws.RoundTrip.Statement (.or f) := fun _ _ h => by
  obtain ⟨h0, h41, h4, hp, hf⟩ := R3.read (f := f) h
  exact (decode_r3 h0 hp h4).trans ((decodeR3_at 1 (congrArg BitVec.toNat h41)).trans (congrArg (fun f => Decoded.instr (.or f)) hf))

theorem Laws.RoundTrip.eor (f : R3) : Laws.RoundTrip.Statement (.eor f) := fun _ _ h => by
  obtain ⟨h0, h41, h4, hp, hf⟩ := R3.read (f := f) h
  exact (decode_r3 h0 hp h4).trans ((decodeR3_at 2 (congrArg BitVec.toNat h41)).trans (congrArg (fun f => Decoded.instr (.eor f)) hf))

theorem Laws.RoundTrip.cmp (f : R3) : Laws.RoundTrip.Statement (.cmp f) := fun _ _ h => by
  obtain ⟨h0, h41, h4, hp, hf⟩ := R3.read (f := f) h
  exact (decode_r3 h0 hp h4).trans ((decodeR3_at 3 (congrArg BitVec.toNat h41)).trans (congrArg (fun f => Decoded.instr (.cmp f)) hf))

theorem Laws.RoundTrip.add (f : R3) : Laws.RoundTrip.Statement (.add f) := fun _ _ h => by
  obtain ⟨h0, h41, h4, hp, hf⟩ := R3.read (f := f) h
  exact (decode_r3 h0 hp h4).trans ((decodeR3_at 4 (congrArg BitVec.toNat h41)).trans (congrArg (fun f => Decoded.instr (.add f)) hf))

theorem Laws.RoundTrip.cmpu (f : R3) : Laws.RoundTrip.Statement (.cmpu f) := fun _ _ h => by
  obtain ⟨h0, h41, h4, hp, hf⟩ := R3.read (f := f) h
  exact (decode_r3 h0 hp h4).trans ((decodeR3_at 6 (congrArg BitVec.toNat h41)).trans (congrArg (fun f => Decoded.instr (.cmpu f)) hf))

theorem Laws.RoundTrip.cpuid (f : Cpuid) : Laws.RoundTrip.Statement (.cpuid f) := fun _ _ h => by
  obtain ⟨h0, h41, h2, hf⟩ := Cpuid.read (f := f) h
  exact (decode_at 107 (congrArg BitVec.toNat h2)).trans ((only48_eq h0).trans ((decodeR3_at 7 (congrArg BitVec.toNat h41)).trans ((if_pos (fld_two h2)).trans (congrArg (fun f => Decoded.instr (.cpuid f)) hf))))

theorem Laws.RoundTrip.cmov (f : R3) : Laws.RoundTrip.Statement (.cmov f) := fun _ _ h => by
  obtain ⟨h0, h41, h4, hp, hf⟩ := R3.read (f := f) h
  exact (decode_r3 h0 hp h4).trans ((decodeR3_at 12 (congrArg BitVec.toNat h41)).trans (congrArg (fun f => Decoded.instr (.cmov f)) hf))

theorem Laws.RoundTrip.abs (f : R3) : Laws.RoundTrip.Statement (.abs f) := fun hw w h => by
  obtain ⟨h0, h41, h4, hp, hf⟩ := R3.read (f := f) h
  have hop : fld w 37 4 = 3#4 := (congrArg R3.op4 hf).trans (eq_of_beq hw)
  exact (decode_r3 h0 hp h4).trans ((decodeR3_at 13 (congrArg BitVec.toNat h41)).trans ((if_pos hop).trans (congrArg (fun f => Decoded.instr (.abs f)) hf)))

theorem Laws.RoundTrip.maj (f : R3) : Laws.RoundTrip.Statement (.maj f) := fun _ _ h => by
  obtain ⟨h0, h41, h4, hp, hf⟩ := R3.read (f := f) h
  exact (decode_r3 h0 hp h4).trans ((decodeR3_at 14 (congrArg BitVec.toNat h41)).trans (congrArg (fun f => Decoded.instr (.maj f)) hf))

theorem Laws.RoundTrip.mul (f : R3) : Laws.RoundTrip.Statement (.mul f) := fun _ _ h => by
  obtain ⟨h0, h41, h4, hp, hf⟩ := R3.read (f := f) h
  exact (decode_r3 h0 hp h4).trans ((decodeR3_at 16 (congrArg BitVec.toNat h41)).trans (congrArg (fun f => Decoded.instr (.mul f)) hf))

theorem Laws.RoundTrip.div (f : R3) : Laws.RoundTrip.Statement (.div f) := fun _ _ h => by
  obtain ⟨h0, h41, h4, hp, hf⟩ := R3.read (f := f) h
  exact (decode_r3 h0 hp h4).trans ((decodeR3_at 17 (congrArg BitVec.toNat h41)).trans (congrArg (fun f => Decoded.instr (.div f)) hf))

theorem Laws.RoundTrip.mulu (f : R3) : Laws.RoundTrip.Statement (.mulu f) := fun _ _ h => by
  obtain ⟨h0, h41, h4, hp, hf⟩ := R3.read (f := f) h
  exact (decode_r3 h0 hp h4).trans ((decodeR3_at 19 (congrArg BitVec.toNat h41)).trans (congrArg (fun f => Decoded.instr (.mulu f)) hf))

theorem Laws.RoundTrip.divu (f : R3) : Laws.RoundTrip.Statement (.divu f) := fun _ _ h => by
  obtain ⟨h0, h41, h4, hp, hf⟩ := R3.read (f := f) h
  exact (decode_r3 h0 hp h4).trans ((decodeR3_at 20 (congrArg BitVec.toNat h41)).trans (congrArg (fun f => Decoded.instr (.divu f)) hf))

theorem Laws.RoundTrip.mulsu (f : R3) : Laws.RoundTrip.Statement (.mulsu f) := fun _ _ h => by
  obtain ⟨h0, h41, h4, hp, hf⟩ := R3.read (f := f) h
  exact (decode_r3 h0 hp h4).trans ((decodeR3_at 21 (congrArg BitVec.toNat h41)).trans (congrArg (fun f => Decoded.instr (.mulsu f)) hf))

theorem Laws.RoundTrip.rem (f : R3) : Laws.RoundTrip.Statement (.rem f) := fun _ _ h => by
  obtain ⟨h0, h41, h4, hp, hf⟩ := R3.read (f := f) h
  exact (decode_r3 h0 hp h4).trans ((decodeR3_at 25 (congrArg BitVec.toNat h41)).trans (congrArg (fun f => Decoded.instr (.rem f)) hf))

theorem Laws.RoundTrip.remu (f : R3) : Laws.RoundTrip.Statement (.remu f) := fun _ _ h => by
  obtain ⟨h0, h41, h4, hp, hf⟩ := R3.read (f := f) h
  exact (decode_r3 h0 hp h4).trans ((decodeR3_at 28 (congrArg BitVec.toNat h41)).trans (congrArg (fun f => Decoded.instr (.remu f)) hf))

theorem Laws.RoundTrip.min3 (f : R3) : Laws.RoundTrip.Statement (.min3 f) := fun hw w h => by
  obtain ⟨h0, h41, h4, hp, hf⟩ := R3.read (f := f) h
  have hop : fld w 37 4 = 0#4 := (congrArg R3.op4 hf).trans (eq_of_beq hw)
  exact (decode_r3 h0 hp h4).trans ((decodeR3_at 18 (congrArg BitVec.toNat h41)).trans ((decodeMinMax_at 0 (congrArg BitVec.toNat hop)).trans (congrArg (fun f => Decoded.instr (.min3 f)) hf)))

theorem Laws.RoundTrip.mid3 (f : R3) : Laws.RoundTrip.Statement (.mid3 f) := fun hw w h => by
  obtain ⟨h0, h41, h4, hp, hf⟩ := R3.read (f := f) h
  have hop : fld w 37 4 = 1#4 := (congrArg R3.op4 hf).trans (eq_of_beq hw)
  exact (decode_r3 h0 hp h4).trans ((decodeR3_at 18 (congrArg BitVec.toNat h41)).trans ((decodeMinMax_at 1 (congrArg BitVec.toNat hop)).trans (congrArg (fun f => Decoded.instr (.mid3 f)) hf)))

theorem Laws.RoundTrip.max3 (f : R3) : Laws.RoundTrip.Statement (.max3 f) := fun hw w h => by
  obtain ⟨h0, h41, h4, hp, hf⟩ := R3.read (f := f) h
  have hop : fld w 37 4 = 2#4 := (congrArg R3.op4 hf).trans (eq_of_beq hw)
  exact (decode_r3 h0 hp h4).trans ((decodeR3_at 18 (congrArg BitVec.toNat h41)).trans ((decodeMinMax_at 2 (congrArg BitVec.toNat hop)).trans (congrArg (fun f => Decoded.instr (.max3 f)) hf)))

theorem Laws.RoundTrip.minu3 (f : R3) : Laws.RoundTrip.Statement (.minu3 f) := fun hw w h => by
  obtain ⟨h0, h41, h4, hp, hf⟩ := R3.read (f := f) h
  have hop : fld w 37 4 = 0#4 := (congrArg R3.op4 hf).trans (eq_of_beq hw)
  exact (decode_r3 h0 hp h4).trans ((decodeR3_at 23 (congrArg BitVec.toNat h41)).trans ((decodeMinMaxU_at 0 (congrArg BitVec.toNat hop)).trans (congrArg (fun f => Decoded.instr (.minu3 f)) hf)))

theorem Laws.RoundTrip.midu3 (f : R3) : Laws.RoundTrip.Statement (.midu3 f) := fun hw w h => by
  obtain ⟨h0, h41, h4, hp, hf⟩ := R3.read (f := f) h
  have hop : fld w 37 4 = 1#4 := (congrArg R3.op4 hf).trans (eq_of_beq hw)
  exact (decode_r3 h0 hp h4).trans ((decodeR3_at 23 (congrArg BitVec.toNat h41)).trans ((decodeMinMaxU_at 1 (congrArg BitVec.toNat hop)).trans (congrArg (fun f => Decoded.instr (.midu3 f)) hf)))

theorem Laws.RoundTrip.maxu3 (f : R3) : Laws.RoundTrip.Statement (.maxu3 f) := fun hw w h => by
  obtain ⟨h0, h41, h4, hp, hf⟩ := R3.read (f := f) h
  have hop : fld w 37 4 = 2#4 := (congrArg R3.op4 hf).trans (eq_of_beq hw)
  exact (decode_r3 h0 hp h4).trans ((decodeR3_at 23 (congrArg BitVec.toNat h41)).trans ((decodeMinMaxU_at 2 (congrArg BitVec.toNat hop)).trans (congrArg (fun f => Decoded.instr (.maxu3 f)) hf)))

theorem Laws.RoundTrip.cntlz (f : R1) : Laws.RoundTrip.Statement (.cntlz f) := fun _ _ h => by
  obtain ⟨h0, h41, h30, h4, hp, hf⟩ := R1.read (f := f) h
  exact (decode_r3 h0 hp h4).trans ((decodeR3_at 26 (congrArg BitVec.toNat h41)).trans ((decodeR1_at 0 (congrArg BitVec.toNat h30)).trans (congrArg (fun f => Decoded.instr (.cntlz f)) hf)))

theorem Laws.RoundTrip.cntlo (f : R1) : Laws.RoundTrip.Statement (.cntlo f) := fun _ _ h => by
  obtain ⟨h0, h41, h30, h4, hp, hf⟩ := R1.read (f := f) h
  exact (decode_r3 h0 hp h4).trans ((decodeR3_at 26 (congrArg BitVec.toNat h41)).trans ((decodeR1_at 1 (congrArg BitVec.toNat h30)).trans (congrArg (fun f => Decoded.instr (.cntlo f)) hf)))

theorem Laws.RoundTrip.cntpop (f : R1) : Laws.RoundTrip.Statement (.cntpop f) := fun _ _ h => by
  obtain ⟨h0, h41, h30, h4, hp, hf⟩ := R1.read (f := f) h
  exact (decode_r3 h0 hp h4).trans ((decodeR3_at 26 (congrArg BitVec.toNat h41)).trans ((decodeR1_at 2 (congrArg BitVec.toNat h30)).trans (congrArg (fun f => Decoded.instr (.cntpop f)) hf)))

theorem Laws.RoundTrip.sqrt (f : R1) : Laws.RoundTrip.Statement (.sqrt f) := fun _ _ h => by
  obtain ⟨h0, h41, h30, h4, hp, hf⟩ := R1.read (f := f) h
  exact (decode_r3 h0 hp h4).trans ((decodeR3_at 26 (congrArg BitVec.toNat h41)).trans ((decodeR1_at 4 (congrArg BitVec.toNat h30)).trans (congrArg (fun f => Decoded.instr (.sqrt f)) hf)))

theorem Laws.RoundTrip.cnttz (f : R1) : Laws.RoundTrip.Statement (.cnttz f) := fun _ _ h => by
  obtain ⟨h0, h41, h30, h4, hp, hf⟩ := R1.read (f := f) h
  exact (decode_r3 h0 hp h4).trans ((decodeR3_at 26 (congrArg BitVec.toNat h41)).trans ((decodeR1_at 6 (congrArg BitVec.toNat h30)).trans (congrArg (fun f => Decoded.instr (.cnttz f)) hf)))

theorem Laws.RoundTrip.revbit (f : R1) : Laws.RoundTrip.Statement (.revbit f) := fun hw w h => by
  obtain ⟨h0, h41, h30, h4, hp, hf⟩ := R1.read (f := f) h
  have hop : fld w 37 4 = 0#4 := (congrArg R1.op4 hf).trans (eq_of_beq hw)
  exact (decode_r3 h0 hp h4).trans ((decodeR3_at 26 (congrArg BitVec.toNat h41)).trans ((decodeR1_at 5 (congrArg BitVec.toNat h30)).trans ((decodeRev_at 0 (congrArg BitVec.toNat hop)).trans (congrArg (fun f => Decoded.instr (.revbit f)) hf))))

theorem Laws.RoundTrip.revbitp (f : R1) : Laws.RoundTrip.Statement (.revbitp f) := fun hw w h => by
  obtain ⟨h0, h41, h30, h4, hp, hf⟩ := R1.read (f := f) h
  have hop : fld w 37 4 = 1#4 := (congrArg R1.op4 hf).trans (eq_of_beq hw)
  exact (decode_r3 h0 hp h4).trans ((decodeR3_at 26 (congrArg BitVec.toNat h41)).trans ((decodeR1_at 5 (congrArg BitVec.toNat h30)).trans ((decodeRev_at 1 (congrArg BitVec.toNat hop)).trans (congrArg (fun f => Decoded.instr (.revbitp f)) hf))))

theorem Laws.RoundTrip.revn (f : R1) : Laws.RoundTrip.Statement (.revn f) := fun hw w h => by
  obtain ⟨h0, h41, h30, h4, hp, hf⟩ := R1.read (f := f) h
  have hop : fld w 37 4 = 2#4 := (congrArg R1.op4 hf).trans (eq_of_beq hw)
  exact (decode_r3 h0 hp h4).trans ((decodeR3_at 26 (congrArg BitVec.toNat h41)).trans ((decodeR1_at 5 (congrArg BitVec.toNat h30)).trans ((decodeRev_at 2 (congrArg BitVec.toNat hop)).trans (congrArg (fun f => Decoded.instr (.revn f)) hf))))

theorem Laws.RoundTrip.revb (f : R1) : Laws.RoundTrip.Statement (.revb f) := fun hw w h => by
  obtain ⟨h0, h41, h30, h4, hp, hf⟩ := R1.read (f := f) h
  have hop : fld w 37 4 = 3#4 := (congrArg R1.op4 hf).trans (eq_of_beq hw)
  exact (decode_r3 h0 hp h4).trans ((decodeR3_at 26 (congrArg BitVec.toNat h41)).trans ((decodeR1_at 5 (congrArg BitVec.toNat h30)).trans ((decodeRev_at 3 (congrArg BitVec.toNat hop)).trans (congrArg (fun f => Decoded.instr (.revb f)) hf))))

theorem Laws.RoundTrip.revw (f : R1) : Laws.RoundTrip.Statement (.revw f) := fun hw w h => by
  obtain ⟨h0, h41, h30, h4, hp, hf⟩ := R1.read (f := f) h
  have hop : fld w 37 4 = 4#4 := (congrArg R1.op4 hf).trans (eq_of_beq hw)
  exact (decode_r3 h0 hp h4).trans ((decodeR3_at 26 (congrArg BitVec.toNat h41)).trans ((decodeR1_at 5 (congrArg BitVec.toNat h30)).trans ((decodeRev_at 4 (congrArg BitVec.toNat hop)).trans (congrArg (fun f => Decoded.instr (.revw f)) hf))))

theorem Laws.RoundTrip.revt (f : R1) : Laws.RoundTrip.Statement (.revt f) := fun hw w h => by
  obtain ⟨h0, h41, h30, h4, hp, hf⟩ := R1.read (f := f) h
  have hop : fld w 37 4 = 5#4 := (congrArg R1.op4 hf).trans (eq_of_beq hw)
  exact (decode_r3 h0 hp h4).trans ((decodeR3_at 26 (congrArg BitVec.toNat h41)).trans ((decodeR1_at 5 (congrArg BitVec.toNat h30)).trans ((decodeRev_at 5 (congrArg BitVec.toNat hop)).trans (congrArg (fun f => Decoded.instr (.revt f)) hf))))

theorem Laws.RoundTrip.revo (f : R1) : Laws.RoundTrip.Statement (.revo f) := fun hw w h => by
  obtain ⟨h0, h41, h30, h4, hp, hf⟩ := R1.read (f := f) h
  have hop : fld w 37 4 = 6#4 := (congrArg R1.op4 hf).trans (eq_of_beq hw)
  exact (decode_r3 h0 hp h4).trans ((decodeR3_at 26 (congrArg BitVec.toNat h41)).trans ((decodeR1_at 5 (congrArg BitVec.toNat h30)).trans ((decodeRev_at 6 (congrArg BitVec.toNat hop)).trans (congrArg (fun f => Decoded.instr (.revo f)) hf))))

theorem Laws.RoundTrip.ptrdif (f : R3) : Laws.RoundTrip.Statement (.ptrdif f) := fun hw w h => by
  obtain ⟨h0, h41, h4, hp, hf⟩ := R3.read (f := f) h
  have ho : f.op4 = 0#4 ∨ f.op4 = 8#4 :=
    by simpa using (show (f.op4 == 0#4 || f.op4 == 8#4) = true from hw)
  have h37 : fld w 37 4 = f.op4 := congrArg R3.op4 hf
  rcases ho with ho | ho <;> rw [ho] at h37
  · exact (decode_r3 h0 hp h4).trans ((decodeR3_at 32 (congrArg BitVec.toNat h41)).trans ((decodePtrdif_at 0 (congrArg BitVec.toNat h37)).trans (congrArg (fun f => Decoded.instr (.ptrdif f)) hf)))
  · exact (decode_r3 h0 hp h4).trans ((decodeR3_at 32 (congrArg BitVec.toNat h41)).trans ((decodePtrdif_at 8 (congrArg BitVec.toNat h37)).trans (congrArg (fun f => Decoded.instr (.ptrdif f)) hf)))

theorem Laws.RoundTrip.avgTrunc (f : R3) : Laws.RoundTrip.Statement (.avgTrunc f) := fun hw w h => by
  obtain ⟨h0, h41, h4, hp, hf⟩ := R3.read (f := f) h
  have ho : f.op4 = 1#4 ∨ f.op4 = 9#4 :=
    by simpa using (show (f.op4 == 1#4 || f.op4 == 9#4) = true from hw)
  have h37 : fld w 37 4 = f.op4 := congrArg R3.op4 hf
  rcases ho with ho | ho <;> rw [ho] at h37
  · exact (decode_r3 h0 hp h4).trans ((decodeR3_at 32 (congrArg BitVec.toNat h41)).trans ((decodePtrdif_at 1 (congrArg BitVec.toNat h37)).trans (congrArg (fun f => Decoded.instr (.avgTrunc f)) hf)))
  · exact (decode_r3 h0 hp h4).trans ((decodeR3_at 32 (congrArg BitVec.toNat h41)).trans ((decodePtrdif_at 9 (congrArg BitVec.toNat h37)).trans (congrArg (fun f => Decoded.instr (.avgTrunc f)) hf)))

theorem Laws.RoundTrip.avgRound (f : R3) : Laws.RoundTrip.Statement (.avgRound f) := fun hw w h => by
  obtain ⟨h0, h41, h4, hp, hf⟩ := R3.read (f := f) h
  have ho : f.op4 = 2#4 ∨ f.op4 = 10#4 :=
    by simpa using (show (f.op4 == 2#4 || f.op4 == 10#4) = true from hw)
  have h37 : fld w 37 4 = f.op4 := congrArg R3.op4 hf
  rcases ho with ho | ho <;> rw [ho] at h37
  · exact (decode_r3 h0 hp h4).trans ((decodeR3_at 32 (congrArg BitVec.toNat h41)).trans ((decodePtrdif_at 2 (congrArg BitVec.toNat h37)).trans (congrArg (fun f => Decoded.instr (.avgRound f)) hf)))
  · exact (decode_r3 h0 hp h4).trans ((decodeR3_at 32 (congrArg BitVec.toNat h41)).trans ((decodePtrdif_at 10 (congrArg BitVec.toNat h37)).trans (congrArg (fun f => Decoded.instr (.avgRound f)) hf)))

theorem Laws.RoundTrip.mux (f : R3) : Laws.RoundTrip.Statement (.mux f) := fun _ _ h => by
  obtain ⟨h0, h41, h4, hp, hf⟩ := R3.read (f := f) h
  exact (decode_r3 h0 hp h4).trans ((decodeR3_at 33 (congrArg BitVec.toNat h41)).trans (congrArg (fun f => Decoded.instr (.mux f)) hf))

theorem Laws.RoundTrip.bmm (f : Bmm) : Laws.RoundTrip.Statement (.bmm f) := fun _ _ h => by
  obtain ⟨h0, h41, h2, hf⟩ := Bmm.read (f := f) h
  exact (decode_at 107 (congrArg BitVec.toNat h2)).trans ((only48_eq h0).trans ((decodeR3_at 34 (congrArg BitVec.toNat h41)).trans ((if_pos (fld_two h2)).trans (congrArg (fun f => Decoded.instr (.bmm f)) hf))))

theorem Laws.RoundTrip.bmap (f : R3) : Laws.RoundTrip.Statement (.bmap f) := fun _ _ h => by
  obtain ⟨h0, h41, h4, hp, hf⟩ := R3.read (f := f) h
  exact (decode_r3 h0 hp h4).trans ((decodeR3_at 35 (congrArg BitVec.toNat h41)).trans (congrArg (fun f => Decoded.instr (.bmap f)) hf))

theorem Laws.RoundTrip.bytendx (f : Ndx) : Laws.RoundTrip.Statement (.bytendx f) := fun _ _ h => by
  obtain ⟨h0, h41, h4, hp, hf⟩ := Ndx.read (f := f) h
  exact (decode_r3 h0 hp h4).trans ((decodeR3_at 37 (congrArg BitVec.toNat h41)).trans (congrArg (fun f => Decoded.instr (.bytendx f)) hf))

theorem Laws.RoundTrip.wydendx (f : Ndx) : Laws.RoundTrip.Statement (.wydendx f) := fun _ _ h => by
  obtain ⟨h0, h41, h4, hp, hf⟩ := Ndx.read (f := f) h
  exact (decode_r3 h0 hp h4).trans ((decodeR3_at 38 (congrArg BitVec.toNat h41)).trans (congrArg (fun f => Decoded.instr (.wydendx f)) hf))

theorem Laws.RoundTrip.tetrandx (f : Ndx) : Laws.RoundTrip.Statement (.tetrandx f) := fun _ _ h => by
  obtain ⟨h0, h41, h4, hp, hf⟩ := Ndx.read (f := f) h
  exact (decode_r3 h0 hp h4).trans ((decodeR3_at 39 (congrArg BitVec.toNat h41)).trans (congrArg (fun f => Decoded.instr (.tetrandx f)) hf))

theorem Laws.RoundTrip.cmoveq (f : R3) : Laws.RoundTrip.Statement (.cmoveq f) := fun _ _ h => by
  obtain ⟨h0, h41, h4, hp, hf⟩ := R3.read (f := f) h
  exact (decode_r3 h0 hp h4).trans ((decodeR3_at 96 (congrArg BitVec.toNat h41)).trans (congrArg (fun f => Decoded.instr (.cmoveq f)) hf))

theorem Laws.RoundTrip.cmovne (f : R3) : Laws.RoundTrip.Statement (.cmovne f) := fun _ _ h => by
  obtain ⟨h0, h41, h4, hp, hf⟩ := R3.read (f := f) h
  exact (decode_r3 h0 hp h4).trans ((decodeR3_at 97 (congrArg BitVec.toNat h41)).trans (congrArg (fun f => Decoded.instr (.cmovne f)) hf))

theorem Laws.RoundTrip.cmovlt (f : R3) : Laws.RoundTrip.Statement (.cmovlt f) := fun _ _ h => by
  obtain ⟨h0, h41, h4, hp, hf⟩ := R3.read (f := f) h
  exact (decode_r3 h0 hp h4).trans ((decodeR3_at 98 (congrArg BitVec.toNat h41)).trans (congrArg (fun f => Decoded.instr (.cmovlt f)) hf))

theorem Laws.RoundTrip.cmovle (f : R3) : Laws.RoundTrip.Statement (.cmovle f) := fun _ _ h => by
  obtain ⟨h0, h41, h4, hp, hf⟩ := R3.read (f := f) h
  exact (decode_r3 h0 hp h4).trans ((decodeR3_at 99 (congrArg BitVec.toNat h41)).trans (congrArg (fun f => Decoded.instr (.cmovle f)) hf))

theorem Laws.RoundTrip.seq (f : R3) : Laws.RoundTrip.Statement (.seq f) := fun _ _ h => by
  obtain ⟨h0, h41, h4, hp, hf⟩ := R3.read (f := f) h
  exact (decode_r3 h0 hp h4).trans ((decodeR3_at 80 (congrArg BitVec.toNat h41)).trans (congrArg (fun f => Decoded.instr (.seq f)) hf))

theorem Laws.RoundTrip.sne (f : R3) : Laws.RoundTrip.Statement (.sne f) := fun _ _ h => by
  obtain ⟨h0, h41, h4, hp, hf⟩ := R3.read (f := f) h
  exact (decode_r3 h0 hp h4).trans ((decodeR3_at 81 (congrArg BitVec.toNat h41)).trans (congrArg (fun f => Decoded.instr (.sne f)) hf))

theorem Laws.RoundTrip.slt (f : R3) : Laws.RoundTrip.Statement (.slt f) := fun _ _ h => by
  obtain ⟨h0, h41, h4, hp, hf⟩ := R3.read (f := f) h
  exact (decode_r3 h0 hp h4).trans ((decodeR3_at 82 (congrArg BitVec.toNat h41)).trans (congrArg (fun f => Decoded.instr (.slt f)) hf))

theorem Laws.RoundTrip.sle (f : R3) : Laws.RoundTrip.Statement (.sle f) := fun _ _ h => by
  obtain ⟨h0, h41, h4, hp, hf⟩ := R3.read (f := f) h
  exact (decode_r3 h0 hp h4).trans ((decodeR3_at 83 (congrArg BitVec.toNat h41)).trans (congrArg (fun f => Decoded.instr (.sle f)) hf))

theorem Laws.RoundTrip.sltu (f : R3) : Laws.RoundTrip.Statement (.sltu f) := fun _ _ h => by
  obtain ⟨h0, h41, h4, hp, hf⟩ := R3.read (f := f) h
  exact (decode_r3 h0 hp h4).trans ((decodeR3_at 84 (congrArg BitVec.toNat h41)).trans (congrArg (fun f => Decoded.instr (.sltu f)) hf))

theorem Laws.RoundTrip.sleu (f : R3) : Laws.RoundTrip.Statement (.sleu f) := fun _ _ h => by
  obtain ⟨h0, h41, h4, hp, hf⟩ := R3.read (f := f) h
  exact (decode_r3 h0 hp h4).trans ((decodeR3_at 85 (congrArg BitVec.toNat h41)).trans (congrArg (fun f => Decoded.instr (.sleu f)) hf))

theorem Laws.RoundTrip.sltuCode100 (f : R3) : Laws.RoundTrip.Statement (.sltuCode100 f) := fun _ _ h => by
  obtain ⟨h0, h41, h4, hp, hf⟩ := R3.read (f := f) h
  exact (decode_r3 h0 hp h4).trans ((decodeR3_at 100 (congrArg BitVec.toNat h41)).trans (congrArg (fun f => Decoded.instr (.sltuCode100 f)) hf))

theorem Laws.RoundTrip.sleuCode101 (f : R3) : Laws.RoundTrip.Statement (.sleuCode101 f) := fun _ _ h => by
  obtain ⟨h0, h41, h4, hp, hf⟩ := R3.read (f := f) h
  exact (decode_r3 h0 hp h4).trans ((decodeR3_at 101 (congrArg BitVec.toNat h41)).trans (congrArg (fun f => Decoded.instr (.sleuCode101 f)) hf))

theorem Laws.RoundTrip.zseq (f : R3) : Laws.RoundTrip.Statement (.zseq f) := fun _ _ h => by
  obtain ⟨h0, h41, h4, hp, hf⟩ := R3.read (f := f) h
  exact (decode_r3 h0 hp h4).trans ((decodeR3_at 112 (congrArg BitVec.toNat h41)).trans (congrArg (fun f => Decoded.instr (.zseq f)) hf))

theorem Laws.RoundTrip.zsne (f : R3) : Laws.RoundTrip.Statement (.zsne f) := fun _ _ h => by
  obtain ⟨h0, h41, h4, hp, hf⟩ := R3.read (f := f) h
  exact (decode_r3 h0 hp h4).trans ((decodeR3_at 113 (congrArg BitVec.toNat h41)).trans (congrArg (fun f => Decoded.instr (.zsne f)) hf))

theorem Laws.RoundTrip.zslt (f : R3) : Laws.RoundTrip.Statement (.zslt f) := fun _ _ h => by
  obtain ⟨h0, h41, h4, hp, hf⟩ := R3.read (f := f) h
  exact (decode_r3 h0 hp h4).trans ((decodeR3_at 114 (congrArg BitVec.toNat h41)).trans (congrArg (fun f => Decoded.instr (.zslt f)) hf))

theorem Laws.RoundTrip.zsle (f : R3) : Laws.RoundTrip.Statement (.zsle f) := fun _ _ h => by
  obtain ⟨h0, h41, h4, hp, hf⟩ := R3.read (f := f) h
  exact (decode_r3 h0 hp h4).trans ((decodeR3_at 115 (congrArg BitVec.toNat h41)).trans (congrArg (fun f => Decoded.instr (.zsle f)) hf))

theorem Laws.RoundTrip.zsltu (f : R3) : Laws.RoundTrip.Statement (.zsltu f) := fun _ _ h => by
  obtain ⟨h0, h41, h4, hp, hf⟩ := R3.read (f := f) h
  exact (decode_r3 h0 hp h4).trans ((decodeR3_at 116 (congrArg BitVec.toNat h41)).trans (congrArg (fun f => Decoded.instr (.zsltu f)) hf))

theorem Laws.RoundTrip.zsleu (f : R3) : Laws.RoundTrip.Statement (.zsleu f) := fun _ _ h => by
  obtain ⟨h0, h41, h4, hp, hf⟩ := R3.read (f := f) h
  exact (decode_r3 h0 hp h4).trans ((decodeR3_at 117 (congrArg BitVec.toNat h41)).trans (congrArg (fun f => Decoded.instr (.zsleu f)) hf))

theorem Laws.RoundTrip.zseqCode120 (f : R3) : Laws.RoundTrip.Statement (.zseqCode120 f) := fun _ _ h => by
  obtain ⟨h0, h41, h4, hp, hf⟩ := R3.read (f := f) h
  exact (decode_r3 h0 hp h4).trans ((decodeR3_at 120 (congrArg BitVec.toNat h41)).trans (congrArg (fun f => Decoded.instr (.zseqCode120 f)) hf))

theorem Laws.RoundTrip.zsneCode121 (f : R3) : Laws.RoundTrip.Statement (.zsneCode121 f) := fun _ _ h => by
  obtain ⟨h0, h41, h4, hp, hf⟩ := R3.read (f := f) h
  exact (decode_r3 h0 hp h4).trans ((decodeR3_at 121 (congrArg BitVec.toNat h41)).trans (congrArg (fun f => Decoded.instr (.zsneCode121 f)) hf))

theorem Laws.RoundTrip.zsltCode122 (f : R3) : Laws.RoundTrip.Statement (.zsltCode122 f) := fun _ _ h => by
  obtain ⟨h0, h41, h4, hp, hf⟩ := R3.read (f := f) h
  exact (decode_r3 h0 hp h4).trans ((decodeR3_at 122 (congrArg BitVec.toNat h41)).trans (congrArg (fun f => Decoded.instr (.zsltCode122 f)) hf))

theorem Laws.RoundTrip.zsleCode123 (f : R3) : Laws.RoundTrip.Statement (.zsleCode123 f) := fun _ _ h => by
  obtain ⟨h0, h41, h4, hp, hf⟩ := R3.read (f := f) h
  exact (decode_r3 h0 hp h4).trans ((decodeR3_at 123 (congrArg BitVec.toNat h41)).trans (congrArg (fun f => Decoded.instr (.zsleCode123 f)) hf))

theorem Laws.RoundTrip.zsltuCode124 (f : R3) : Laws.RoundTrip.Statement (.zsltuCode124 f) := fun _ _ h => by
  obtain ⟨h0, h41, h4, hp, hf⟩ := R3.read (f := f) h
  exact (decode_r3 h0 hp h4).trans ((decodeR3_at 124 (congrArg BitVec.toNat h41)).trans (congrArg (fun f => Decoded.instr (.zsltuCode124 f)) hf))

theorem Laws.RoundTrip.zsleuCode125 (f : R3) : Laws.RoundTrip.Statement (.zsleuCode125 f) := fun _ _ h => by
  obtain ⟨h0, h41, h4, hp, hf⟩ := R3.read (f := f) h
  exact (decode_r3 h0 hp h4).trans ((decodeR3_at 125 (congrArg BitVec.toNat h41)).trans (congrArg (fun f => Decoded.instr (.zsleuCode125 f)) hf))

theorem Laws.RoundTrip.sllp (f : ShiftH) : Laws.RoundTrip.Statement (.sllp f) := fun _ _ h => by
  obtain ⟨h0, h44, h4, hp, hf⟩ := ShiftH.read (f := f) h
  exact (decode_shift h0 hp h4).trans ((decodeShift_at 0 (congrArg BitVec.toNat h44)).trans (congrArg (fun f => Decoded.instr (.sllp f)) hf))

theorem Laws.RoundTrip.srlp (f : Shift) : Laws.RoundTrip.Statement (.srlp f) := fun _ _ h => by
  obtain ⟨h0, h44, h4, hp, hf⟩ := Shift.read (f := f) h
  exact (decode_shift h0 hp h4).trans ((decodeShift_at 1 (congrArg BitVec.toNat h44)).trans (congrArg (fun f => Decoded.instr (.srlp f)) hf))

theorem Laws.RoundTrip.srap (f : Shift) : Laws.RoundTrip.Statement (.srap f) := fun _ _ h => by
  obtain ⟨h0, h44, h4, hp, hf⟩ := Shift.read (f := f) h
  exact (decode_shift h0 hp h4).trans ((decodeShift_at 2 (congrArg BitVec.toNat h44)).trans (congrArg (fun f => Decoded.instr (.srap f)) hf))

theorem Laws.RoundTrip.sraprz (f : Shift) : Laws.RoundTrip.Statement (.sraprz f) := fun _ _ h => by
  obtain ⟨h0, h44, h4, hp, hf⟩ := Shift.read (f := f) h
  exact (decode_shift h0 hp h4).trans ((decodeShift_at 3 (congrArg BitVec.toNat h44)).trans (congrArg (fun f => Decoded.instr (.sraprz f)) hf))

theorem Laws.RoundTrip.srapru (f : Shift) : Laws.RoundTrip.Statement (.srapru f) := fun _ _ h => by
  obtain ⟨h0, h44, h4, hp, hf⟩ := Shift.read (f := f) h
  exact (decode_shift h0 hp h4).trans ((decodeShift_at 4 (congrArg BitVec.toNat h44)).trans (congrArg (fun f => Decoded.instr (.srapru f)) hf))

theorem Laws.RoundTrip.dep (f : Shift) : Laws.RoundTrip.Statement (.dep f) := fun _ _ h => by
  obtain ⟨h0, h44, h4, hp, hf⟩ := Shift.read (f := f) h
  exact (decode_shift h0 hp h4).trans ((decodeShift_at 5 (congrArg BitVec.toNat h44)).trans (congrArg (fun f => Decoded.instr (.dep f)) hf))

theorem Laws.RoundTrip.depxor (f : Shift) : Laws.RoundTrip.Statement (.depxor f) := fun _ _ h => by
  obtain ⟨h0, h44, h4, hp, hf⟩ := Shift.read (f := f) h
  exact (decode_shift h0 hp h4).trans ((decodeShift_at 6 (congrArg BitVec.toNat h44)).trans (congrArg (fun f => Decoded.instr (.depxor f)) hf))

theorem Laws.RoundTrip.sllpi (f : ShiftHI) : Laws.RoundTrip.Statement (.sllpi f) := fun _ _ h => by
  obtain ⟨h0, h44, h4, hp, hf⟩ := ShiftHI.read (f := f) h
  exact (decode_shift h0 hp h4).trans ((decodeShift_at 8 (congrArg BitVec.toNat h44)).trans (congrArg (fun f => Decoded.instr (.sllpi f)) hf))

theorem Laws.RoundTrip.srlpi (f : ShiftI) : Laws.RoundTrip.Statement (.srlpi f) := fun _ _ h => by
  obtain ⟨h0, h44, h4, hp, hf⟩ := ShiftI.read (f := f) h
  exact (decode_shift h0 hp h4).trans ((decodeShift_at 9 (congrArg BitVec.toNat h44)).trans (congrArg (fun f => Decoded.instr (.srlpi f)) hf))

theorem Laws.RoundTrip.srapi (f : ShiftI) : Laws.RoundTrip.Statement (.srapi f) := fun _ _ h => by
  obtain ⟨h0, h44, h4, hp, hf⟩ := ShiftI.read (f := f) h
  exact (decode_shift h0 hp h4).trans ((decodeShift_at 10 (congrArg BitVec.toNat h44)).trans (congrArg (fun f => Decoded.instr (.srapi f)) hf))

theorem Laws.RoundTrip.sraprzi (f : ShiftI) : Laws.RoundTrip.Statement (.sraprzi f) := fun _ _ h => by
  obtain ⟨h0, h44, h4, hp, hf⟩ := ShiftI.read (f := f) h
  exact (decode_shift h0 hp h4).trans ((decodeShift_at 11 (congrArg BitVec.toNat h44)).trans (congrArg (fun f => Decoded.instr (.sraprzi f)) hf))

theorem Laws.RoundTrip.sraprui (f : ShiftI) : Laws.RoundTrip.Statement (.sraprui f) := fun _ _ h => by
  obtain ⟨h0, h44, h4, hp, hf⟩ := ShiftI.read (f := f) h
  exact (decode_shift h0 hp h4).trans ((decodeShift_at 12 (congrArg BitVec.toNat h44)).trans (congrArg (fun f => Decoded.instr (.sraprui f)) hf))

theorem Laws.RoundTrip.depi (f : ShiftI) : Laws.RoundTrip.Statement (.depi f) := fun _ _ h => by
  obtain ⟨h0, h44, h4, hp, hf⟩ := ShiftI.read (f := f) h
  exact (decode_shift h0 hp h4).trans ((decodeShift_at 13 (congrArg BitVec.toNat h44)).trans (congrArg (fun f => Decoded.instr (.depi f)) hf))

theorem Laws.RoundTrip.depxori (f : ShiftI) : Laws.RoundTrip.Statement (.depxori f) := fun _ _ h => by
  obtain ⟨h0, h44, h4, hp, hf⟩ := ShiftI.read (f := f) h
  exact (decode_shift h0 hp h4).trans ((decodeShift_at 14 (congrArg BitVec.toNat h44)).trans (congrArg (fun f => Decoded.instr (.depxori f)) hf))

theorem Laws.RoundTrip.fma (f : Flt3) : Laws.RoundTrip.Statement (.fma f) := fun hw _ h => by
  obtain ⟨h0, h41, h36, hr, hf⟩ := Flt3.read (f := f) h
  exact (decode_flt h0 (bne_iff_ne.1 hw) hr).trans ((decodeFlt_at 1 (congrArg BitVec.toNat h41)).trans ((if_neg (flag_false h36)).trans (congrArg (fun f => Decoded.instr (.fma f)) hf)))

theorem Laws.RoundTrip.fms (f : Flt3) : Laws.RoundTrip.Statement (.fms f) := fun hw _ h => by
  obtain ⟨h0, h41, h36, hr, hf⟩ := Flt3.read (f := f) h
  exact (decode_flt h0 (bne_iff_ne.1 hw) hr).trans ((decodeFlt_at 1 (congrArg BitVec.toNat h41)).trans ((if_pos (flag_true h36)).trans (congrArg (fun f => Decoded.instr (.fms f)) hf)))

theorem Laws.RoundTrip.fadd (f : FltAdd) : Laws.RoundTrip.Statement (.fadd f) := fun hw _ h => by
  obtain ⟨h0, h41, h29, hr, hf⟩ := FltAdd.read (f := f) h
  exact (decode_flt h0 (bne_iff_ne.1 hw) hr).trans ((decodeFlt_at 4 (congrArg BitVec.toNat h41)).trans ((if_neg (flag_false h29)).trans (congrArg (fun f => Decoded.instr (.fadd f)) hf)))

theorem Laws.RoundTrip.fsub (f : FltAdd) : Laws.RoundTrip.Statement (.fsub f) := fun hw _ h => by
  obtain ⟨h0, h41, h29, hr, hf⟩ := FltAdd.read (f := f) h
  exact (decode_flt h0 (bne_iff_ne.1 hw) hr).trans ((decodeFlt_at 4 (congrArg BitVec.toNat h41)).trans ((if_pos (flag_true h29)).trans (congrArg (fun f => Decoded.instr (.fsub f)) hf)))

theorem Laws.RoundTrip.fsne (f : FltCmp) : Laws.RoundTrip.Statement (.fsne f) := fun hw _ h => by
  obtain ⟨h0, h41, hr, hf⟩ := FltCmp.read (f := f) h
  exact (decode_flt h0 (bne_iff_ne.1 hw) hr).trans ((decodeFlt_at 9 (congrArg BitVec.toNat h41)).trans (congrArg (fun f => Decoded.instr (.fsne f)) hf))

theorem Laws.RoundTrip.fslt (f : FltCmp) : Laws.RoundTrip.Statement (.fslt f) := fun hw _ h => by
  obtain ⟨h0, h41, hr, hf⟩ := FltCmp.read (f := f) h
  exact (decode_flt h0 (bne_iff_ne.1 hw) hr).trans ((decodeFlt_at 10 (congrArg BitVec.toNat h41)).trans (congrArg (fun f => Decoded.instr (.fslt f)) hf))

theorem Laws.RoundTrip.fcmp (f : FltCmp) : Laws.RoundTrip.Statement (.fcmp f) := fun hw _ h => by
  obtain ⟨h0, h41, hr, hf⟩ := FltCmp.read (f := f) h
  exact (decode_flt h0 (bne_iff_ne.1 hw) hr).trans ((decodeFlt_at 13 (congrArg BitVec.toNat h41)).trans (congrArg (fun f => Decoded.instr (.fcmp f)) hf))

theorem Laws.RoundTrip.fabs (f : FltAbs) : Laws.RoundTrip.Statement (.fabs f) := fun hw _ h => by
  obtain ⟨h0, h41, h15, hr, hf⟩ := FltAbs.read (f := f) h
  exact (decode_flt h0 (bne_iff_ne.1 hw) hr).trans ((decodeFlt_at 32 (congrArg BitVec.toNat h41)).trans ((if_neg (flag_false h15)).trans (congrArg (fun f => Decoded.instr (.fabs f)) hf)))

theorem Laws.RoundTrip.fnabs (f : FltAbs) : Laws.RoundTrip.Statement (.fnabs f) := fun hw _ h => by
  obtain ⟨h0, h41, h15, hr, hf⟩ := FltAbs.read (f := f) h
  exact (decode_flt h0 (bne_iff_ne.1 hw) hr).trans ((decodeFlt_at 32 (congrArg BitVec.toNat h41)).trans ((if_pos (flag_true h15)).trans (congrArg (fun f => Decoded.instr (.fnabs f)) hf)))

theorem Laws.RoundTrip.fsqrt (f : Flt1) : Laws.RoundTrip.Statement (.fsqrt f) := fun hw _ h => by
  obtain ⟨h0, h41, hr, hf⟩ := Flt1.read (f := f) h
  exact (decode_flt h0 (bne_iff_ne.1 hw) hr).trans ((decodeFlt_at 40 (congrArg BitVec.toNat h41)).trans (congrArg (fun f => Decoded.instr (.fsqrt f)) hf))

theorem Laws.RoundTrip.ftrunc (f : Flt1) : Laws.RoundTrip.Statement (.ftrunc f) := fun hw _ h => by
  obtain ⟨h0, h41, hr, hf⟩ := Flt1.read (f := f) h
  exact (decode_flt h0 (bne_iff_ne.1 hw) hr).trans ((decodeFlt_at 53 (congrArg BitVec.toNat h41)).trans (congrArg (fun f => Decoded.instr (.ftrunc f)) hf))

theorem Laws.RoundTrip.fcos (f : FltCos) : Laws.RoundTrip.Statement (.fcos f) := fun hw _ h => by
  obtain ⟨h0, h41, hr, hf⟩ := FltCos.read (f := f) h
  exact (decode_flt h0 (bne_iff_ne.1 hw) hr).trans ((decodeFlt_at 65 (congrArg BitVec.toNat h41)).trans (congrArg (fun f => Decoded.instr (.fcos f)) hf))

theorem Laws.RoundTrip.ldb (f : LS) : Laws.RoundTrip.Statement (.ldb f) := fun _ w h => by
  obtain ⟨h0, h30, h2, hf⟩ := LS.read (f := f) h
  have hl : fld w 0 2 ≠ 0#2 := h0 ▸ f.disp.ln_ne
  exact (decode_at 64 (congrArg BitVec.toNat h2)).trans ((byLength_long hl).trans ((decodeLs64_at 0 (congrArg BitVec.toNat h30)).trans (congrArg (fun f => Decoded.instr (.ldb f)) hf)))

theorem Laws.RoundTrip.ldw (f : LS) : Laws.RoundTrip.Statement (.ldw f) := fun _ w h => by
  obtain ⟨h0, h30, h2, hf⟩ := LS.read (f := f) h
  have hl : fld w 0 2 ≠ 0#2 := h0 ▸ f.disp.ln_ne
  exact (decode_at 64 (congrArg BitVec.toNat h2)).trans ((byLength_long hl).trans ((decodeLs64_at 1 (congrArg BitVec.toNat h30)).trans (congrArg (fun f => Decoded.instr (.ldw f)) hf)))

theorem Laws.RoundTrip.ldt (f : LS) : Laws.RoundTrip.Statement (.ldt f) := fun _ w h => by
  obtain ⟨h0, h30, h2, hf⟩ := LS.read (f := f) h
  have hl : fld w 0 2 ≠ 0#2 := h0 ▸ f.disp.ln_ne
  exact (decode_at 64 (congrArg BitVec.toNat h2)).trans ((byLength_long hl).trans ((decodeLs64_at 2 (congrArg BitVec.toNat h30)).trans (congrArg (fun f => Decoded.instr (.ldt f)) hf)))

theorem Laws.RoundTrip.ldo (f : LS) : Laws.RoundTrip.Statement (.ldo f) := fun _ w h => by
  obtain ⟨h0, h30, h2, hf⟩ := LS.read (f := f) h
  have hl : fld w 0 2 ≠ 0#2 := h0 ▸ f.disp.ln_ne
  exact (decode_at 64 (congrArg BitVec.toNat h2)).trans ((byLength_long hl).trans ((decodeLs64_at 3 (congrArg BitVec.toNat h30)).trans (congrArg (fun f => Decoded.instr (.ldo f)) hf)))

theorem Laws.RoundTrip.ldo24 (f : LS24) : Laws.RoundTrip.Statement (.ldo24 f) := fun _ _ h => by
  obtain ⟨h0, h2, hf⟩ := LS24.read (f := f) h
  exact (decode_at 64 (congrArg BitVec.toNat h2)).trans ((byLength_short h0).trans (congrArg (fun f => Decoded.instr (.ldo24 f)) hf))

theorem Laws.RoundTrip.ldbu (f : LS) : Laws.RoundTrip.Statement (.ldbu f) := fun _ w h => by
  obtain ⟨h0, h30, h2, hf⟩ := LS.read (f := f) h
  have hl : fld w 0 2 ≠ 0#2 := h0 ▸ f.disp.ln_ne
  exact (decode_at 65 (congrArg BitVec.toNat h2)).trans ((byLength_long hl).trans ((decodeLs65_at 0 (congrArg BitVec.toNat h30)).trans (congrArg (fun f => Decoded.instr (.ldbu f)) hf)))

theorem Laws.RoundTrip.ldwu (f : LS) : Laws.RoundTrip.Statement (.ldwu f) := fun _ w h => by
  obtain ⟨h0, h30, h2, hf⟩ := LS.read (f := f) h
  have hl : fld w 0 2 ≠ 0#2 := h0 ▸ f.disp.ln_ne
  exact (decode_at 65 (congrArg BitVec.toNat h2)).trans ((byLength_long hl).trans ((decodeLs65_at 1 (congrArg BitVec.toNat h30)).trans (congrArg (fun f => Decoded.instr (.ldwu f)) hf)))

theorem Laws.RoundTrip.ldtu (f : LS) : Laws.RoundTrip.Statement (.ldtu f) := fun _ w h => by
  obtain ⟨h0, h30, h2, hf⟩ := LS.read (f := f) h
  have hl : fld w 0 2 ≠ 0#2 := h0 ▸ f.disp.ln_ne
  exact (decode_at 65 (congrArg BitVec.toNat h2)).trans ((byLength_long hl).trans ((decodeLs65_at 2 (congrArg BitVec.toNat h30)).trans (congrArg (fun f => Decoded.instr (.ldtu f)) hf)))

theorem Laws.RoundTrip.fldh (f : LS) : Laws.RoundTrip.Statement (.fldh f) := fun _ w h => by
  obtain ⟨h0, h30, h2, hf⟩ := LS.read (f := f) h
  have hl : fld w 0 2 ≠ 0#2 := h0 ▸ f.disp.ln_ne
  exact (decode_at 66 (congrArg BitVec.toNat h2)).trans ((byLength_long hl).trans ((decodeLs66_at 1 (congrArg BitVec.toNat h30)).trans (congrArg (fun f => Decoded.instr (.fldh f)) hf)))

theorem Laws.RoundTrip.flds (f : LS) : Laws.RoundTrip.Statement (.flds f) := fun _ w h => by
  obtain ⟨h0, h30, h2, hf⟩ := LS.read (f := f) h
  have hl : fld w 0 2 ≠ 0#2 := h0 ▸ f.disp.ln_ne
  exact (decode_at 66 (congrArg BitVec.toNat h2)).trans ((byLength_long hl).trans ((decodeLs66_at 2 (congrArg BitVec.toNat h30)).trans (congrArg (fun f => Decoded.instr (.flds f)) hf)))

theorem Laws.RoundTrip.fldd (f : LS) : Laws.RoundTrip.Statement (.fldd f) := fun _ w h => by
  obtain ⟨h0, h30, h2, hf⟩ := LS.read (f := f) h
  have hl : fld w 0 2 ≠ 0#2 := h0 ▸ f.disp.ln_ne
  exact (decode_at 66 (congrArg BitVec.toNat h2)).trans ((byLength_long hl).trans ((decodeLs66_at 3 (congrArg BitVec.toNat h30)).trans (congrArg (fun f => Decoded.instr (.fldd f)) hf)))

theorem Laws.RoundTrip.ldcapd (f : LS) : Laws.RoundTrip.Statement (.ldcapd f) := fun hw w h => by
  obtain ⟨h0, h30, h2, hf⟩ := LS.read (f := f) h
  have hl : fld w 0 2 ≠ 0#2 := h0 ▸ f.disp.ln_ne
  have h1 : fld w 0 2 = 1#2 := by rw [h0]; obtain ⟨m, _, _, _, _⟩ := f; cases m <;> first | rfl | cases hw
  exact (decode_at 69 (congrArg BitVec.toNat h2)).trans ((only48_eq h1).trans ((decodeLs69_at 0 (congrArg BitVec.toNat h30)).trans (congrArg (fun f => Decoded.instr (.ldcapd f)) hf)))

theorem Laws.RoundTrip.cache (f : LS) : Laws.RoundTrip.Statement (.cache f) := fun _ w h => by
  obtain ⟨h0, h30, h2, hf⟩ := LS.read (f := f) h
  have hl : fld w 0 2 ≠ 0#2 := h0 ▸ f.disp.ln_ne
  exact (decode_at 70 (congrArg BitVec.toNat h2)).trans ((byLength_long hl).trans ((decodeLs70_at 3 (congrArg BitVec.toNat h30)).trans (congrArg (fun f => Decoded.instr (.cache f)) hf)))

theorem Laws.RoundTrip.stb (f : LS) : Laws.RoundTrip.Statement (.stb f) := fun _ w h => by
  obtain ⟨h0, h30, h2, hf⟩ := LS.read (f := f) h
  have hl : fld w 0 2 ≠ 0#2 := h0 ▸ f.disp.ln_ne
  exact (decode_at 72 (congrArg BitVec.toNat h2)).trans ((byLength_long hl).trans ((decodeLs72_at 0 (congrArg BitVec.toNat h30)).trans (congrArg (fun f => Decoded.instr (.stb f)) hf)))

theorem Laws.RoundTrip.stw (f : LS) : Laws.RoundTrip.Statement (.stw f) := fun _ w h => by
  obtain ⟨h0, h30, h2, hf⟩ := LS.read (f := f) h
  have hl : fld w 0 2 ≠ 0#2 := h0 ▸ f.disp.ln_ne
  exact (decode_at 72 (congrArg BitVec.toNat h2)).trans ((byLength_long hl).trans ((decodeLs72_at 1 (congrArg BitVec.toNat h30)).trans (congrArg (fun f => Decoded.instr (.stw f)) hf)))

theorem Laws.RoundTrip.stt (f : LS) : Laws.RoundTrip.Statement (.stt f) := fun _ w h => by
  obtain ⟨h0, h30, h2, hf⟩ := LS.read (f := f) h
  have hl : fld w 0 2 ≠ 0#2 := h0 ▸ f.disp.ln_ne
  exact (decode_at 72 (congrArg BitVec.toNat h2)).trans ((byLength_long hl).trans ((decodeLs72_at 2 (congrArg BitVec.toNat h30)).trans (congrArg (fun f => Decoded.instr (.stt f)) hf)))

theorem Laws.RoundTrip.sto (f : LS) : Laws.RoundTrip.Statement (.sto f) := fun _ w h => by
  obtain ⟨h0, h30, h2, hf⟩ := LS.read (f := f) h
  have hl : fld w 0 2 ≠ 0#2 := h0 ▸ f.disp.ln_ne
  exact (decode_at 72 (congrArg BitVec.toNat h2)).trans ((byLength_long hl).trans ((decodeLs72_at 3 (congrArg BitVec.toNat h30)).trans (congrArg (fun f => Decoded.instr (.sto f)) hf)))

theorem Laws.RoundTrip.sto24 (f : LS24) : Laws.RoundTrip.Statement (.sto24 f) := fun _ _ h => by
  obtain ⟨h0, h2, hf⟩ := LS24.read (f := f) h
  exact (decode_at 72 (congrArg BitVec.toNat h2)).trans ((byLength_short h0).trans (congrArg (fun f => Decoded.instr (.sto24 f)) hf))

theorem Laws.RoundTrip.stib (f : LS) : Laws.RoundTrip.Statement (.stib f) := fun _ w h => by
  obtain ⟨h0, h30, h2, hf⟩ := LS.read (f := f) h
  have hl : fld w 0 2 ≠ 0#2 := h0 ▸ f.disp.ln_ne
  exact (decode_at 73 (congrArg BitVec.toNat h2)).trans ((byLength_long hl).trans ((decodeLs73_at 0 (congrArg BitVec.toNat h30)).trans (congrArg (fun f => Decoded.instr (.stib f)) hf)))

theorem Laws.RoundTrip.stiw (f : LS) : Laws.RoundTrip.Statement (.stiw f) := fun _ w h => by
  obtain ⟨h0, h30, h2, hf⟩ := LS.read (f := f) h
  have hl : fld w 0 2 ≠ 0#2 := h0 ▸ f.disp.ln_ne
  exact (decode_at 73 (congrArg BitVec.toNat h2)).trans ((byLength_long hl).trans ((decodeLs73_at 1 (congrArg BitVec.toNat h30)).trans (congrArg (fun f => Decoded.instr (.stiw f)) hf)))

theorem Laws.RoundTrip.stit (f : LS) : Laws.RoundTrip.Statement (.stit f) := fun _ w h => by
  obtain ⟨h0, h30, h2, hf⟩ := LS.read (f := f) h
  have hl : fld w 0 2 ≠ 0#2 := h0 ▸ f.disp.ln_ne
  exact (decode_at 73 (congrArg BitVec.toNat h2)).trans ((byLength_long hl).trans ((decodeLs73_at 2 (congrArg BitVec.toNat h30)).trans (congrArg (fun f => Decoded.instr (.stit f)) hf)))

theorem Laws.RoundTrip.stio (f : LS) : Laws.RoundTrip.Statement (.stio f) := fun _ w h => by
  obtain ⟨h0, h30, h2, hf⟩ := LS.read (f := f) h
  have hl : fld w 0 2 ≠ 0#2 := h0 ▸ f.disp.ln_ne
  exact (decode_at 73 (congrArg BitVec.toNat h2)).trans ((byLength_long hl).trans ((decodeLs73_at 3 (congrArg BitVec.toNat h30)).trans (congrArg (fun f => Decoded.instr (.stio f)) hf)))

theorem Laws.RoundTrip.fsth (f : LS) : Laws.RoundTrip.Statement (.fsth f) := fun _ w h => by
  obtain ⟨h0, h30, h2, hf⟩ := LS.read (f := f) h
  have hl : fld w 0 2 ≠ 0#2 := h0 ▸ f.disp.ln_ne
  exact (decode_at 74 (congrArg BitVec.toNat h2)).trans ((byLength_long hl).trans ((decodeLs74_at 1 (congrArg BitVec.toNat h30)).trans (congrArg (fun f => Decoded.instr (.fsth f)) hf)))

theorem Laws.RoundTrip.fsts (f : LS) : Laws.RoundTrip.Statement (.fsts f) := fun _ w h => by
  obtain ⟨h0, h30, h2, hf⟩ := LS.read (f := f) h
  have hl : fld w 0 2 ≠ 0#2 := h0 ▸ f.disp.ln_ne
  exact (decode_at 74 (congrArg BitVec.toNat h2)).trans ((byLength_long hl).trans ((decodeLs74_at 2 (congrArg BitVec.toNat h30)).trans (congrArg (fun f => Decoded.instr (.fsts f)) hf)))

theorem Laws.RoundTrip.fstd (f : LS) : Laws.RoundTrip.Statement (.fstd f) := fun _ w h => by
  obtain ⟨h0, h30, h2, hf⟩ := LS.read (f := f) h
  have hl : fld w 0 2 ≠ 0#2 := h0 ▸ f.disp.ln_ne
  exact (decode_at 74 (congrArg BitVec.toNat h2)).trans ((byLength_long hl).trans ((decodeLs74_at 3 (congrArg BitVec.toNat h30)).trans (congrArg (fun f => Decoded.instr (.fstd f)) hf)))

theorem Laws.RoundTrip.stcapd (f : LS) : Laws.RoundTrip.Statement (.stcapd f) := fun hw w h => by
  obtain ⟨h0, h30, h2, hf⟩ := LS.read (f := f) h
  have hl : fld w 0 2 ≠ 0#2 := h0 ▸ f.disp.ln_ne
  have h1 : fld w 0 2 = 1#2 := by rw [h0]; obtain ⟨m, _, _, _, _⟩ := f; cases m <;> first | rfl | cases hw
  exact (decode_at 77 (congrArg BitVec.toNat h2)).trans ((only48_eq h1).trans ((decodeLs77_at 0 (congrArg BitVec.toNat h30)).trans (congrArg (fun f => Decoded.instr (.stcapd f)) hf)))

theorem Laws.RoundTrip.stptr (f : LS) : Laws.RoundTrip.Statement (.stptr f) := fun _ w h => by
  obtain ⟨h0, h30, h2, hf⟩ := LS.read (f := f) h
  have hl : fld w 0 2 ≠ 0#2 := h0 ▸ f.disp.ln_ne
  exact (decode_at 78 (congrArg BitVec.toNat h2)).trans ((byLength_long hl).trans ((decodeLs78_at 1 (congrArg BitVec.toNat h30)).trans (congrArg (fun f => Decoded.instr (.stptr f)) hf)))

theorem Laws.RoundTrip.stptr24 (f : LS24) : Laws.RoundTrip.Statement (.stptr24 f) := fun _ _ h => by
  obtain ⟨h0, h2, hf⟩ := LS24.read (f := f) h
  exact (decode_at 78 (congrArg BitVec.toNat h2)).trans ((byLength_short h0).trans (congrArg (fun f => Decoded.instr (.stptr24 f)) hf))

theorem Laws.RoundTrip.loada (f : LS) : Laws.RoundTrip.Statement (.loada f) := fun _ w h => by
  obtain ⟨h0, h2, hf⟩ := LS.read2 (f := f) h
  have hl : fld w 0 2 ≠ 0#2 := h0 ▸ f.disp.ln_ne
  exact (decode_at 88 (congrArg BitVec.toNat h2)).trans ((byLength_long hl).trans (congrArg (fun f => Decoded.instr (.loada f)) hf))

theorem Laws.RoundTrip.beq (f : Br) : Laws.RoundTrip.Statement (.beq f) := fun _ _ h => by
  obtain ⟨h0, h9, h2, hf⟩ := Br.read (f := f) h
  exact (decode_at 40 (congrArg BitVec.toNat h2)).trans ((only48_eq h0).trans ((decodeBcc40_at 0 (congrArg BitVec.toNat h9)).trans (congrArg (fun f => Decoded.instr (.beq f)) hf)))

theorem Laws.RoundTrip.beqReg (f : BrReg) : Laws.RoundTrip.Statement (.beqReg f) := fun _ _ h => by
  obtain ⟨h0, h9, h2, hf⟩ := BrReg.read (f := f) h
  exact (decode_at 48 (congrArg BitVec.toNat h2)).trans ((only48_eq h0).trans ((decodeBcc48_at 0 (congrArg BitVec.toNat h9)).trans (congrArg (fun f => Decoded.instr (.beqReg f)) hf)))

theorem Laws.RoundTrip.bne (f : Br) : Laws.RoundTrip.Statement (.bne f) := fun _ _ h => by
  obtain ⟨h0, h9, h2, hf⟩ := Br.read (f := f) h
  exact (decode_at 40 (congrArg BitVec.toNat h2)).trans ((only48_eq h0).trans ((decodeBcc40_at 1 (congrArg BitVec.toNat h9)).trans (congrArg (fun f => Decoded.instr (.bne f)) hf)))

theorem Laws.RoundTrip.bneReg (f : BrReg) : Laws.RoundTrip.Statement (.bneReg f) := fun _ _ h => by
  obtain ⟨h0, h9, h2, hf⟩ := BrReg.read (f := f) h
  exact (decode_at 48 (congrArg BitVec.toNat h2)).trans ((only48_eq h0).trans ((decodeBcc48_at 1 (congrArg BitVec.toNat h9)).trans (congrArg (fun f => Decoded.instr (.bneReg f)) hf)))

theorem Laws.RoundTrip.bltu (f : Br) : Laws.RoundTrip.Statement (.bltu f) := fun _ _ h => by
  obtain ⟨h0, h9, h2, hf⟩ := Br.read (f := f) h
  exact (decode_at 40 (congrArg BitVec.toNat h2)).trans ((only48_eq h0).trans ((decodeBcc40_at 2 (congrArg BitVec.toNat h9)).trans (congrArg (fun f => Decoded.instr (.bltu f)) hf)))

theorem Laws.RoundTrip.bltuReg (f : BrReg) : Laws.RoundTrip.Statement (.bltuReg f) := fun _ _ h => by
  obtain ⟨h0, h9, h2, hf⟩ := BrReg.read (f := f) h
  exact (decode_at 48 (congrArg BitVec.toNat h2)).trans ((only48_eq h0).trans ((decodeBcc48_at 2 (congrArg BitVec.toNat h9)).trans (congrArg (fun f => Decoded.instr (.bltuReg f)) hf)))

theorem Laws.RoundTrip.bleu (f : Br) : Laws.RoundTrip.Statement (.bleu f) := fun _ _ h => by
  obtain ⟨h0, h9, h2, hf⟩ := Br.read (f := f) h
  exact (decode_at 40 (congrArg BitVec.toNat h2)).trans ((only48_eq h0).trans ((decodeBcc40_at 3 (congrArg BitVec.toNat h9)).trans (congrArg (fun f => Decoded.instr (.bleu f)) hf)))

theorem Laws.RoundTrip.bleuReg (f : BrReg) : Laws.RoundTrip.Statement (.bleuReg f) := fun _ _ h => by
  obtain ⟨h0, h9, h2, hf⟩ := BrReg.read (f := f) h
  exact (decode_at 48 (congrArg BitVec.toNat h2)).trans ((only48_eq h0).trans ((decodeBcc48_at 3 (congrArg BitVec.toNat h9)).trans (congrArg (fun f => Decoded.instr (.bleuReg f)) hf)))

theorem Laws.RoundTrip.bgeu (f : Br) : Laws.RoundTrip.Statement (.bgeu f) := fun _ _ h => by
  obtain ⟨h0, h9, h2, hf⟩ := Br.read (f := f) h
  exact (decode_at 40 (congrArg BitVec.toNat h2)).trans ((only48_eq h0).trans ((decodeBcc40_at 4 (congrArg BitVec.toNat h9)).trans (congrArg (fun f => Decoded.instr (.bgeu f)) hf)))

theorem Laws.RoundTrip.bgeuReg (f : BrReg) : Laws.RoundTrip.Statement (.bgeuReg f) := fun _ _ h => by
  obtain ⟨h0, h9, h2, hf⟩ := BrReg.read (f := f) h
  exact (decode_at 48 (congrArg BitVec.toNat h2)).trans ((only48_eq h0).trans ((decodeBcc48_at 4 (congrArg BitVec.toNat h9)).trans (congrArg (fun f => Decoded.instr (.bgeuReg f)) hf)))

theorem Laws.RoundTrip.bgtu (f : Br) : Laws.RoundTrip.Statement (.bgtu f) := fun _ _ h => by
  obtain ⟨h0, h9, h2, hf⟩ := Br.read (f := f) h
  exact (decode_at 40 (congrArg BitVec.toNat h2)).trans ((only48_eq h0).trans ((decodeBcc40_at 5 (congrArg BitVec.toNat h9)).trans (congrArg (fun f => Decoded.instr (.bgtu f)) hf)))

theorem Laws.RoundTrip.bgtuReg (f : BrReg) : Laws.RoundTrip.Statement (.bgtuReg f) := fun _ _ h => by
  obtain ⟨h0, h9, h2, hf⟩ := BrReg.read (f := f) h
  exact (decode_at 48 (congrArg BitVec.toNat h2)).trans ((only48_eq h0).trans ((decodeBcc48_at 5 (congrArg BitVec.toNat h9)).trans (congrArg (fun f => Decoded.instr (.bgtuReg f)) hf)))

theorem Laws.RoundTrip.bbc (f : Br) : Laws.RoundTrip.Statement (.bbc f) := fun _ _ h => by
  obtain ⟨h0, h9, h2, hf⟩ := Br.read (f := f) h
  exact (decode_at 40 (congrArg BitVec.toNat h2)).trans ((only48_eq h0).trans ((decodeBcc40_at 6 (congrArg BitVec.toNat h9)).trans (congrArg (fun f => Decoded.instr (.bbc f)) hf)))

theorem Laws.RoundTrip.bbcReg (f : BrReg) : Laws.RoundTrip.Statement (.bbcReg f) := fun _ _ h => by
  obtain ⟨h0, h9, h2, hf⟩ := BrReg.read (f := f) h
  exact (decode_at 48 (congrArg BitVec.toNat h2)).trans ((only48_eq h0).trans ((decodeBcc48_at 6 (congrArg BitVec.toNat h9)).trans (congrArg (fun f => Decoded.instr (.bbcReg f)) hf)))

theorem Laws.RoundTrip.bbs (f : Br) : Laws.RoundTrip.Statement (.bbs f) := fun _ _ h => by
  obtain ⟨h0, h9, h2, hf⟩ := Br.read (f := f) h
  exact (decode_at 40 (congrArg BitVec.toNat h2)).trans ((only48_eq h0).trans ((decodeBcc40_at 7 (congrArg BitVec.toNat h9)).trans (congrArg (fun f => Decoded.instr (.bbs f)) hf)))

theorem Laws.RoundTrip.bbsReg (f : BrReg) : Laws.RoundTrip.Statement (.bbsReg f) := fun _ _ h => by
  obtain ⟨h0, h9, h2, hf⟩ := BrReg.read (f := f) h
  exact (decode_at 48 (congrArg BitVec.toNat h2)).trans ((only48_eq h0).trans ((decodeBcc48_at 7 (congrArg BitVec.toNat h9)).trans (congrArg (fun f => Decoded.instr (.bbsReg f)) hf)))

theorem Laws.RoundTrip.bbcImm (f : Br) : Laws.RoundTrip.Statement (.bbcImm f) := fun _ _ h => by
  obtain ⟨h0, h9, h2, hf⟩ := Br.read (f := f) h
  exact (decode_at 40 (congrArg BitVec.toNat h2)).trans ((only48_eq h0).trans ((decodeBcc40_at 8 (congrArg BitVec.toNat h9)).trans (congrArg (fun f => Decoded.instr (.bbcImm f)) hf)))

theorem Laws.RoundTrip.bbcImmReg (f : BrReg) : Laws.RoundTrip.Statement (.bbcImmReg f) := fun _ _ h => by
  obtain ⟨h0, h9, h2, hf⟩ := BrReg.read (f := f) h
  exact (decode_at 48 (congrArg BitVec.toNat h2)).trans ((only48_eq h0).trans ((decodeBcc48_at 8 (congrArg BitVec.toNat h9)).trans (congrArg (fun f => Decoded.instr (.bbcImmReg f)) hf)))

theorem Laws.RoundTrip.bbsImm (f : Br) : Laws.RoundTrip.Statement (.bbsImm f) := fun _ _ h => by
  obtain ⟨h0, h9, h2, hf⟩ := Br.read (f := f) h
  exact (decode_at 40 (congrArg BitVec.toNat h2)).trans ((only48_eq h0).trans ((decodeBcc40_at 9 (congrArg BitVec.toNat h9)).trans (congrArg (fun f => Decoded.instr (.bbsImm f)) hf)))

theorem Laws.RoundTrip.bbsImmReg (f : BrReg) : Laws.RoundTrip.Statement (.bbsImmReg f) := fun _ _ h => by
  obtain ⟨h0, h9, h2, hf⟩ := BrReg.read (f := f) h
  exact (decode_at 48 (congrArg BitVec.toNat h2)).trans ((only48_eq h0).trans ((decodeBcc48_at 9 (congrArg BitVec.toNat h9)).trans (congrArg (fun f => Decoded.instr (.bbsImmReg f)) hf)))

theorem Laws.RoundTrip.bnandb (f : Br) : Laws.RoundTrip.Statement (.bnandb f) := fun _ _ h => by
  obtain ⟨h0, h9, h2, hf⟩ := Br.read (f := f) h
  exact (decode_at 40 (congrArg BitVec.toNat h2)).trans ((only48_eq h0).trans ((decodeBcc40_at 10 (congrArg BitVec.toNat h9)).trans (congrArg (fun f => Decoded.instr (.bnandb f)) hf)))

theorem Laws.RoundTrip.bnandbReg (f : BrReg) : Laws.RoundTrip.Statement (.bnandbReg f) := fun _ _ h => by
  obtain ⟨h0, h9, h2, hf⟩ := BrReg.read (f := f) h
  exact (decode_at 48 (congrArg BitVec.toNat h2)).trans ((only48_eq h0).trans ((decodeBcc48_at 10 (congrArg BitVec.toNat h9)).trans (congrArg (fun f => Decoded.instr (.bnandbReg f)) hf)))

theorem Laws.RoundTrip.bandb (f : Br) : Laws.RoundTrip.Statement (.bandb f) := fun _ _ h => by
  obtain ⟨h0, h9, h2, hf⟩ := Br.read (f := f) h
  exact (decode_at 40 (congrArg BitVec.toNat h2)).trans ((only48_eq h0).trans ((decodeBcc40_at 11 (congrArg BitVec.toNat h9)).trans (congrArg (fun f => Decoded.instr (.bandb f)) hf)))

theorem Laws.RoundTrip.bandbReg (f : BrReg) : Laws.RoundTrip.Statement (.bandbReg f) := fun _ _ h => by
  obtain ⟨h0, h9, h2, hf⟩ := BrReg.read (f := f) h
  exact (decode_at 48 (congrArg BitVec.toNat h2)).trans ((only48_eq h0).trans ((decodeBcc48_at 11 (congrArg BitVec.toNat h9)).trans (congrArg (fun f => Decoded.instr (.bandbReg f)) hf)))

theorem Laws.RoundTrip.bnorb (f : Br) : Laws.RoundTrip.Statement (.bnorb f) := fun _ _ h => by
  obtain ⟨h0, h9, h2, hf⟩ := Br.read (f := f) h
  exact (decode_at 40 (congrArg BitVec.toNat h2)).trans ((only48_eq h0).trans ((decodeBcc40_at 12 (congrArg BitVec.toNat h9)).trans (congrArg (fun f => Decoded.instr (.bnorb f)) hf)))

theorem Laws.RoundTrip.bnorbReg (f : BrReg) : Laws.RoundTrip.Statement (.bnorbReg f) := fun _ _ h => by
  obtain ⟨h0, h9, h2, hf⟩ := BrReg.read (f := f) h
  exact (decode_at 48 (congrArg BitVec.toNat h2)).trans ((only48_eq h0).trans ((decodeBcc48_at 12 (congrArg BitVec.toNat h9)).trans (congrArg (fun f => Decoded.instr (.bnorbReg f)) hf)))

theorem Laws.RoundTrip.borb (f : Br) : Laws.RoundTrip.Statement (.borb f) := fun _ _ h => by
  obtain ⟨h0, h9, h2, hf⟩ := Br.read (f := f) h
  exact (decode_at 40 (congrArg BitVec.toNat h2)).trans ((only48_eq h0).trans ((decodeBcc40_at 13 (congrArg BitVec.toNat h9)).trans (congrArg (fun f => Decoded.instr (.borb f)) hf)))

theorem Laws.RoundTrip.borbReg (f : BrReg) : Laws.RoundTrip.Statement (.borbReg f) := fun _ _ h => by
  obtain ⟨h0, h9, h2, hf⟩ := BrReg.read (f := f) h
  exact (decode_at 48 (congrArg BitVec.toNat h2)).trans ((only48_eq h0).trans ((decodeBcc48_at 13 (congrArg BitVec.toNat h9)).trans (congrArg (fun f => Decoded.instr (.borbReg f)) hf)))

theorem Laws.RoundTrip.benor (f : Br) : Laws.RoundTrip.Statement (.benor f) := fun _ _ h => by
  obtain ⟨h0, h9, h2, hf⟩ := Br.read (f := f) h
  exact (decode_at 41 (congrArg BitVec.toNat h2)).trans ((only48_eq h0).trans ((decodeBcc41_at 0 (congrArg BitVec.toNat h9)).trans (congrArg (fun f => Decoded.instr (.benor f)) hf)))

theorem Laws.RoundTrip.benorReg (f : BrReg) : Laws.RoundTrip.Statement (.benorReg f) := fun _ _ h => by
  obtain ⟨h0, h9, h2, hf⟩ := BrReg.read (f := f) h
  exact (decode_at 49 (congrArg BitVec.toNat h2)).trans ((only48_eq h0).trans ((decodeBcc49_at 0 (congrArg BitVec.toNat h9)).trans (congrArg (fun f => Decoded.instr (.benorReg f)) hf)))

theorem Laws.RoundTrip.beor (f : Br) : Laws.RoundTrip.Statement (.beor f) := fun _ _ h => by
  obtain ⟨h0, h9, h2, hf⟩ := Br.read (f := f) h
  exact (decode_at 41 (congrArg BitVec.toNat h2)).trans ((only48_eq h0).trans ((decodeBcc41_at 1 (congrArg BitVec.toNat h9)).trans (congrArg (fun f => Decoded.instr (.beor f)) hf)))

theorem Laws.RoundTrip.beorReg (f : BrReg) : Laws.RoundTrip.Statement (.beorReg f) := fun _ _ h => by
  obtain ⟨h0, h9, h2, hf⟩ := BrReg.read (f := f) h
  exact (decode_at 49 (congrArg BitVec.toNat h2)).trans ((only48_eq h0).trans ((decodeBcc49_at 1 (congrArg BitVec.toNat h9)).trans (congrArg (fun f => Decoded.instr (.beorReg f)) hf)))

theorem Laws.RoundTrip.blt (f : Br) : Laws.RoundTrip.Statement (.blt f) := fun _ _ h => by
  obtain ⟨h0, h9, h2, hf⟩ := Br.read (f := f) h
  exact (decode_at 41 (congrArg BitVec.toNat h2)).trans ((only48_eq h0).trans ((decodeBcc41_at 2 (congrArg BitVec.toNat h9)).trans (congrArg (fun f => Decoded.instr (.blt f)) hf)))

theorem Laws.RoundTrip.bltReg (f : BrReg) : Laws.RoundTrip.Statement (.bltReg f) := fun _ _ h => by
  obtain ⟨h0, h9, h2, hf⟩ := BrReg.read (f := f) h
  exact (decode_at 49 (congrArg BitVec.toNat h2)).trans ((only48_eq h0).trans ((decodeBcc49_at 2 (congrArg BitVec.toNat h9)).trans (congrArg (fun f => Decoded.instr (.bltReg f)) hf)))

theorem Laws.RoundTrip.ble (f : Br) : Laws.RoundTrip.Statement (.ble f) := fun _ _ h => by
  obtain ⟨h0, h9, h2, hf⟩ := Br.read (f := f) h
  exact (decode_at 41 (congrArg BitVec.toNat h2)).trans ((only48_eq h0).trans ((decodeBcc41_at 3 (congrArg BitVec.toNat h9)).trans (congrArg (fun f => Decoded.instr (.ble f)) hf)))

theorem Laws.RoundTrip.bleReg (f : BrReg) : Laws.RoundTrip.Statement (.bleReg f) := fun _ _ h => by
  obtain ⟨h0, h9, h2, hf⟩ := BrReg.read (f := f) h
  exact (decode_at 49 (congrArg BitVec.toNat h2)).trans ((only48_eq h0).trans ((decodeBcc49_at 3 (congrArg BitVec.toNat h9)).trans (congrArg (fun f => Decoded.instr (.bleReg f)) hf)))

theorem Laws.RoundTrip.bge (f : Br) : Laws.RoundTrip.Statement (.bge f) := fun _ _ h => by
  obtain ⟨h0, h9, h2, hf⟩ := Br.read (f := f) h
  exact (decode_at 41 (congrArg BitVec.toNat h2)).trans ((only48_eq h0).trans ((decodeBcc41_at 4 (congrArg BitVec.toNat h9)).trans (congrArg (fun f => Decoded.instr (.bge f)) hf)))

theorem Laws.RoundTrip.bgeReg (f : BrReg) : Laws.RoundTrip.Statement (.bgeReg f) := fun _ _ h => by
  obtain ⟨h0, h9, h2, hf⟩ := BrReg.read (f := f) h
  exact (decode_at 49 (congrArg BitVec.toNat h2)).trans ((only48_eq h0).trans ((decodeBcc49_at 4 (congrArg BitVec.toNat h9)).trans (congrArg (fun f => Decoded.instr (.bgeReg f)) hf)))

theorem Laws.RoundTrip.bgt (f : Br) : Laws.RoundTrip.Statement (.bgt f) := fun _ _ h => by
  obtain ⟨h0, h9, h2, hf⟩ := Br.read (f := f) h
  exact (decode_at 41 (congrArg BitVec.toNat h2)).trans ((only48_eq h0).trans ((decodeBcc41_at 5 (congrArg BitVec.toNat h9)).trans (congrArg (fun f => Decoded.instr (.bgt f)) hf)))

theorem Laws.RoundTrip.bgtReg (f : BrReg) : Laws.RoundTrip.Statement (.bgtReg f) := fun _ _ h => by
  obtain ⟨h0, h9, h2, hf⟩ := BrReg.read (f := f) h
  exact (decode_at 49 (congrArg BitVec.toNat h2)).trans ((only48_eq h0).trans ((decodeBcc49_at 5 (congrArg BitVec.toNat h9)).trans (congrArg (fun f => Decoded.instr (.bgtReg f)) hf)))

theorem Laws.RoundTrip.bnand (f : Br) : Laws.RoundTrip.Statement (.bnand f) := fun _ _ h => by
  obtain ⟨h0, h9, h2, hf⟩ := Br.read (f := f) h
  exact (decode_at 41 (congrArg BitVec.toNat h2)).trans ((only48_eq h0).trans ((decodeBcc41_at 10 (congrArg BitVec.toNat h9)).trans (congrArg (fun f => Decoded.instr (.bnand f)) hf)))

theorem Laws.RoundTrip.bnandReg (f : BrReg) : Laws.RoundTrip.Statement (.bnandReg f) := fun _ _ h => by
  obtain ⟨h0, h9, h2, hf⟩ := BrReg.read (f := f) h
  exact (decode_at 49 (congrArg BitVec.toNat h2)).trans ((only48_eq h0).trans ((decodeBcc49_at 10 (congrArg BitVec.toNat h9)).trans (congrArg (fun f => Decoded.instr (.bnandReg f)) hf)))

theorem Laws.RoundTrip.band (f : Br) : Laws.RoundTrip.Statement (.band f) := fun _ _ h => by
  obtain ⟨h0, h9, h2, hf⟩ := Br.read (f := f) h
  exact (decode_at 41 (congrArg BitVec.toNat h2)).trans ((only48_eq h0).trans ((decodeBcc41_at 11 (congrArg BitVec.toNat h9)).trans (congrArg (fun f => Decoded.instr (.band f)) hf)))

theorem Laws.RoundTrip.bandReg (f : BrReg) : Laws.RoundTrip.Statement (.bandReg f) := fun _ _ h => by
  obtain ⟨h0, h9, h2, hf⟩ := BrReg.read (f := f) h
  exact (decode_at 49 (congrArg BitVec.toNat h2)).trans ((only48_eq h0).trans ((decodeBcc49_at 11 (congrArg BitVec.toNat h9)).trans (congrArg (fun f => Decoded.instr (.bandReg f)) hf)))

theorem Laws.RoundTrip.bnor (f : Br) : Laws.RoundTrip.Statement (.bnor f) := fun _ _ h => by
  obtain ⟨h0, h9, h2, hf⟩ := Br.read (f := f) h
  exact (decode_at 41 (congrArg BitVec.toNat h2)).trans ((only48_eq h0).trans ((decodeBcc41_at 12 (congrArg BitVec.toNat h9)).trans (congrArg (fun f => Decoded.instr (.bnor f)) hf)))

theorem Laws.RoundTrip.bnorReg (f : BrReg) : Laws.RoundTrip.Statement (.bnorReg f) := fun _ _ h => by
  obtain ⟨h0, h9, h2, hf⟩ := BrReg.read (f := f) h
  exact (decode_at 49 (congrArg BitVec.toNat h2)).trans ((only48_eq h0).trans ((decodeBcc49_at 12 (congrArg BitVec.toNat h9)).trans (congrArg (fun f => Decoded.instr (.bnorReg f)) hf)))

theorem Laws.RoundTrip.bor (f : Br) : Laws.RoundTrip.Statement (.bor f) := fun _ _ h => by
  obtain ⟨h0, h9, h2, hf⟩ := Br.read (f := f) h
  exact (decode_at 41 (congrArg BitVec.toNat h2)).trans ((only48_eq h0).trans ((decodeBcc41_at 13 (congrArg BitVec.toNat h9)).trans (congrArg (fun f => Decoded.instr (.bor f)) hf)))

theorem Laws.RoundTrip.borReg (f : BrReg) : Laws.RoundTrip.Statement (.borReg f) := fun _ _ h => by
  obtain ⟨h0, h9, h2, hf⟩ := BrReg.read (f := f) h
  exact (decode_at 49 (congrArg BitVec.toNat h2)).trans ((only48_eq h0).trans ((decodeBcc49_at 13 (congrArg BitVec.toNat h9)).trans (congrArg (fun f => Decoded.instr (.borReg f)) hf)))

theorem Laws.RoundTrip.fbcc (f : FBr) : Laws.RoundTrip.Statement (.fbcc f) := fun _ _ h => by
  obtain ⟨h0, h2, hf⟩ := FBr.read (f := f) h
  exact (decode_at 42 (congrArg BitVec.toNat h2)).trans ((only48_eq h0).trans (congrArg (fun f => Decoded.instr (.fbcc f)) hf))

theorem Laws.RoundTrip.fbccReg (f : FBrReg) : Laws.RoundTrip.Statement (.fbccReg f) := fun _ _ h => by
  obtain ⟨h0, h2, hf⟩ := FBrReg.read (f := f) h
  exact (decode_at 50 (congrArg BitVec.toNat h2)).trans ((only48_eq h0).trans (congrArg (fun f => Decoded.instr (.fbccReg f)) hf))

theorem Laws.RoundTrip.ibne (f : Br) : Laws.RoundTrip.Statement (.ibne f) := fun _ _ h => by
  obtain ⟨h0, h9, h2, hf⟩ := Br.read (f := f) h
  exact (decode_at 46 (congrArg BitVec.toNat h2)).trans ((only48_eq h0).trans ((if_pos h9).trans (congrArg (fun f => Decoded.instr (.ibne f)) hf)))

theorem Laws.RoundTrip.ibneReg (f : BrReg) : Laws.RoundTrip.Statement (.ibneReg f) := fun _ _ h => by
  obtain ⟨h0, h9, h2, hf⟩ := BrReg.read (f := f) h
  exact (decode_at 54 (congrArg BitVec.toNat h2)).trans ((only48_eq h0).trans ((if_pos h9).trans (congrArg (fun f => Decoded.instr (.ibneReg f)) hf)))

theorem Laws.RoundTrip.dbne (f : Br) : Laws.RoundTrip.Statement (.dbne f) := fun _ _ h => by
  obtain ⟨h0, h9, h2, hf⟩ := Br.read (f := f) h
  exact (decode_at 47 (congrArg BitVec.toNat h2)).trans ((only48_eq h0).trans ((if_pos h9).trans (congrArg (fun f => Decoded.instr (.dbne f)) hf)))

theorem Laws.RoundTrip.dbneReg (f : BrReg) : Laws.RoundTrip.Statement (.dbneReg f) := fun _ _ h => by
  obtain ⟨h0, h9, h2, hf⟩ := BrReg.read (f := f) h
  exact (decode_at 55 (congrArg BitVec.toNat h2)).trans ((only48_eq h0).trans ((if_pos h9).trans (congrArg (fun f => Decoded.instr (.dbneReg f)) hf)))

theorem Laws.RoundTrip.bra (const : BitVec 37) : Laws.RoundTrip.Statement (.bra const) := fun _ w h => by
  change SameLow (8 * wordLen (place 11 const ||| place 9 0#2 ||| place 2 32#7 ||| place 0 1#2)) w (place 11 const ||| place 9 0#2 ||| place 2 32#7 ||| place 0 1#2) at h
  rw [wordLen_eq (c := 1#2) (by simp)] at h
  have h2 : fld w 2 7 = 32#7 := (h 2 7 rfl).trans (by simp)
  have h0 : fld w 0 2 = 1#2 := (h 0 2 rfl).trans (by simp)
  have hx : fld w 11 37 = const := (h 11 37 rfl).trans (by simp)
  have h9 : fld w 9 2 = 0#2 := (h 9 2 rfl).trans (by simp)
  exact (decode_at 32 (congrArg BitVec.toNat h2)).trans ((only48_eq h0).trans ((if_pos h9).trans (congrArg (fun x => Decoded.instr (.bra x)) hx)))

theorem Laws.RoundTrip.bsr (f : Bsr) : Laws.RoundTrip.Statement (.bsr f) := fun hw _ h => by
  obtain ⟨h0, h2, hf⟩ := Bsr.read (f := f) h
  exact (decode_at 32 (congrArg BitVec.toNat h2)).trans ((only48_eq h0).trans ((if_neg (fun e => (bne_iff_ne.1 hw : f.lk ≠ 0#2) ((congrArg Bsr.lk hf).symm.trans e))).trans (congrArg (fun f => Decoded.instr (.bsr f)) hf)))

theorem Laws.RoundTrip.jmpDirect (const : BitVec 37) : Laws.RoundTrip.Statement (.jmpDirect const) := fun _ w h => by
  change SameLow (8 * wordLen (place 11 const ||| place 9 0#2 ||| place 2 33#7 ||| place 0 1#2)) w (place 11 const ||| place 9 0#2 ||| place 2 33#7 ||| place 0 1#2) at h
  rw [wordLen_eq (c := 1#2) (by simp)] at h
  have h2 : fld w 2 7 = 33#7 := (h 2 7 rfl).trans (by simp)
  have h0 : fld w 0 2 = 1#2 := (h 0 2 rfl).trans (by simp)
  have hx : fld w 11 37 = const := (h 11 37 rfl).trans (by simp)
  have h9 : fld w 9 2 = 0#2 := (h 9 2 rfl).trans (by simp)
  exact (decode_at 33 (congrArg BitVec.toNat h2)).trans ((only48_eq h0).trans ((if_pos h9).trans (congrArg (fun x => Decoded.instr (.jmpDirect x)) hx)))

theorem Laws.RoundTrip.jsrDirect (f : Bsr) : Laws.RoundTrip.Statement (.jsrDirect f) := fun hw _ h => by
  obtain ⟨h0, h2, hf⟩ := Bsr.read (f := f) h
  exact (decode_at 33 (congrArg BitVec.toNat h2)).trans ((only48_eq h0).trans ((if_neg (fun e => (bne_iff_ne.1 hw : f.lk ≠ 0#2) ((congrArg Bsr.lk hf).symm.trans e))).trans (congrArg (fun f => Decoded.instr (.jsrDirect f)) hf)))

theorem Laws.RoundTrip.jmpIndirect (f : JmpI) : Laws.RoundTrip.Statement (.jmpIndirect f) := fun _ w h => by
  obtain ⟨h0, h9, h2, hf⟩ := JmpI.read (f := f) h
  have hl : fld w 0 2 ≠ 0#2 := h0 ▸ f.limit.ln_ne
  exact (decode_at 36 (congrArg BitVec.toNat h2)).trans ((byLength_long hl).trans ((if_pos h9).trans (congrArg (fun f => Decoded.instr (.jmpIndirect f)) hf)))

theorem Laws.RoundTrip.jsrIndirect (f : JsrI) : Laws.RoundTrip.Statement (.jsrIndirect f) := fun hw w h => by
  obtain ⟨h0, h2, hf⟩ := JsrI.read (f := f) h
  have hl : fld w 0 2 ≠ 0#2 := h0 ▸ f.limit.ln_ne
  exact (decode_at 36 (congrArg BitVec.toNat h2)).trans ((byLength_long hl).trans ((if_neg (fun e => (bne_iff_ne.1 hw : f.rt ≠ 0#6) ((congrArg JsrI.rt hf).symm.trans e))).trans (congrArg (fun f => Decoded.instr (.jsrIndirect f)) hf)))

theorem Laws.RoundTrip.jmpScaled (f : JmpS) : Laws.RoundTrip.Statement (.jmpScaled f) := fun _ w h => by
  obtain ⟨h0, h9, h2, hf⟩ := JmpS.read (f := f) h
  have hl : fld w 0 2 ≠ 0#2 := h0 ▸ f.disp.ln_ne
  exact (decode_at 38 (congrArg BitVec.toNat h2)).trans ((byLength_long hl).trans ((if_pos h9).trans (congrArg (fun f => Decoded.instr (.jmpScaled f)) hf)))

theorem Laws.RoundTrip.jsrScaled (f : LS) : Laws.RoundTrip.Statement (.jsrScaled f) := fun hw w h => by
  obtain ⟨h0, h2, hf⟩ := LS.read2 (f := f) h
  have hl : fld w 0 2 ≠ 0#2 := h0 ▸ f.disp.ln_ne
  exact (decode_at 38 (congrArg BitVec.toNat h2)).trans ((byLength_long hl).trans ((if_neg (fun e => (bne_iff_ne.1 hw : f.rt ≠ 0#6) ((congrArg LS.rt hf).symm.trans e))).trans (congrArg (fun f => Decoded.instr (.jsrScaled f)) hf)))

theorem Laws.RoundTrip.ret (f : RetForm) : Laws.RoundTrip.Statement (.ret f) := fun hw w h => by
  cases f with
  | short f =>
    obtain ⟨h0, h13, h2, hf⟩ := Ret24.read (f := f) h
    exact (decode_at 35 (congrArg BitVec.toNat h2)).trans ((decode35_at0 h0).trans ((if_pos h13).trans (congrArg (fun f => Decoded.instr (.ret (.short f))) hf)))
  | long f =>
    obtain ⟨h0, h13, h2, hf⟩ := RetF.read (f := f) h
    have hl : fld w 0 2 ≠ 0#2 := h0 ▸ f.imm.ln_ne
    have hm : fld w 0 2 ≠ 2#2 := by
      rw [h0]; obtain ⟨m, _, _, _⟩ := f
      cases m <;> first | exact (by decide : 1#2 ≠ 2#2) | exact (by decide : 3#2 ≠ 2#2) | cases hw
    exact (decode_at 35 (congrArg BitVec.toNat h2)).trans ((decode35_long hl hm).trans ((if_pos h13).trans (congrArg (fun f => Decoded.instr (.ret (.long f))) hf)))

theorem Laws.RoundTrip.rte (offs : BitVec 4) : Laws.RoundTrip.Statement (.rte offs) := fun _ w h => by
  change SameLow (8 * wordLen (place 9 offs ||| place 13 65#11 ||| place 2 35#7 ||| place 0 0#2)) w (place 9 offs ||| place 13 65#11 ||| place 2 35#7 ||| place 0 0#2) at h
  rw [wordLen_eq (c := 0#2) (by simp)] at h
  have h2 : fld w 2 7 = 35#7 := (h 2 7 rfl).trans (by simp)
  have h0 : fld w 0 2 = 0#2 := (h 0 2 rfl).trans (by simp)
  have hx : fld w 9 4 = offs := (h 9 4 rfl).trans (by simp)
  have h1 : fld w 13 1 ≠ 0#1 := by rw [h 13 1 rfl]; simp; decide
  have h3 : fld w 13 11 = 65#11 := (h 13 11 rfl).trans (by simp)
  exact (decode_at 35 (congrArg BitVec.toNat h2)).trans ((decode35_at0 h0).trans ((if_neg h1).trans ((if_pos h3).trans (congrArg (fun x => Decoded.instr (.rte x)) hx))))

theorem Laws.RoundTrip.rte2 (offs : BitVec 4) : Laws.RoundTrip.Statement (.rte2 offs) := fun _ w h => by
  change SameLow (8 * wordLen (place 9 offs ||| place 13 129#11 ||| place 2 35#7 ||| place 0 0#2)) w (place 9 offs ||| place 13 129#11 ||| place 2 35#7 ||| place 0 0#2) at h
  rw [wordLen_eq (c := 0#2) (by simp)] at h
  have h2 : fld w 2 7 = 35#7 := (h 2 7 rfl).trans (by simp)
  have h0 : fld w 0 2 = 0#2 := (h 0 2 rfl).trans (by simp)
  have hx : fld w 9 4 = offs := (h 9 4 rfl).trans (by simp)
  have h1 : fld w 13 1 ≠ 0#1 := by rw [h 13 1 rfl]; simp; decide
  have h3 : fld w 13 11 = 129#11 := (h 13 11 rfl).trans (by simp)
  exact (decode_at 35 (congrArg BitVec.toNat h2)).trans ((decode35_at0 h0).trans ((if_neg h1).trans ((if_neg (ne_of_fld h3 (by decide))).trans ((if_pos h3).trans (congrArg (fun x => Decoded.instr (.rte2 x)) hx)))))

theorem Laws.RoundTrip.cAndPerm (f : CapR) : Laws.RoundTrip.Statement (.cAndPerm f) := fun _ _ h => by
  obtain ⟨h0, h41, h2, hf⟩ := CapR.read (f := f) h
  exact (decode_at 1 (congrArg BitVec.toNat h2)).trans ((only48_eq h0).trans ((decodeCap_at 32 (congrArg BitVec.toNat h41)).trans (congrArg (fun f => Decoded.instr (.cAndPerm f)) hf)))

theorem Laws.RoundTrip.cAndPermi (f : CapI) : Laws.RoundTrip.Statement (.cAndPermi f) := fun _ _ h => by
  obtain ⟨h0, h41, h2, hf⟩ := CapI.read (f := f) h
  exact (decode_at 1 (congrArg BitVec.toNat h2)).trans ((only48_eq h0).trans ((decodeCap_at 48 (congrArg BitVec.toNat h41)).trans (congrArg (fun f => Decoded.instr (.cAndPermi f)) hf)))

theorem Laws.RoundTrip.cBuildCap (f : Cap3) : Laws.RoundTrip.Statement (.cBuildCap f) := fun _ _ h => by
  obtain ⟨h0, h41, h2, hf⟩ := Cap3.read (f := f) h
  exact (decode_at 1 (congrArg BitVec.toNat h2)).trans ((only48_eq h0).trans ((decodeCap_at 33 (congrArg BitVec.toNat h41)).trans (congrArg (fun f => Decoded.instr (.cBuildCap f)) hf)))

theorem Laws.RoundTrip.cClearTag (f : Cap2) : Laws.RoundTrip.Statement (.cClearTag f) := fun _ _ h => by
  obtain ⟨h0, h41, h2, hf⟩ := Cap2.read (f := f) h
  exact (decode_at 1 (congrArg BitVec.toNat h2)).trans ((only48_eq h0).trans ((decodeCap_at 64 (congrArg BitVec.toNat h41)).trans (congrArg (fun f => Decoded.instr (.cClearTag f)) hf)))

theorem Laws.RoundTrip.cCmp (f : Cap3) : Laws.RoundTrip.Statement (.cCmp f) := fun _ _ h => by
  obtain ⟨h0, h41, h2, hf⟩ := Cap3.read (f := f) h
  exact (decode_at 1 (congrArg BitVec.toNat h2)).trans ((only48_eq h0).trans ((decodeCap_at 44 (congrArg BitVec.toNat h41)).trans (congrArg (fun f => Decoded.instr (.cCmp f)) hf)))

theorem Laws.RoundTrip.atom (f : AtomForm) : Laws.RoundTrip.Statement (.atom f) := fun _ w h => by
  cases f with
  | short m =>
    change SameLow (8 * wordLen (place 9 m ||| place 2 122#7 ||| place 0 0#2)) w (place 9 m ||| place 2 122#7 ||| place 0 0#2) at h
    rw [wordLen_eq (c := 0#2) (by simp)] at h
    have h2 : fld w 2 7 = 122#7 := (h 2 7 rfl).trans (by simp)
    have h0 : fld w 0 2 = 0#2 := (h 0 2 rfl).trans (by simp)
    have h9 : fld w 9 15 = m := (h 9 15 rfl).trans (by simp)
    exact (decode_at 122 (congrArg BitVec.toNat h2)).trans ((decode122_at0 h0).trans
      (congrArg (fun m => Decoded.instr (.atom (.short m))) h9))
  | long m =>
    change SameLow (8 * wordLen (place 10 m ||| place 9 0#1 ||| place 2 122#7 ||| place 0 1#2)) w
      (place 10 m ||| place 9 0#1 ||| place 2 122#7 ||| place 0 1#2) at h
    rw [wordLen_eq (c := 1#2) (by simp)] at h
    have h2 : fld w 2 7 = 122#7 := (h 2 7 rfl).trans (by simp)
    have h0 : fld w 0 2 = 1#2 := (h 0 2 rfl).trans (by simp)
    have h9 : fld w 9 1 = 0#1 := (h 9 1 rfl).trans (by simp)
    have hm : fld w 10 33 = m := (h 10 33 rfl).trans (by simp)
    exact (decode_at 122 (congrArg BitVec.toNat h2)).trans ((decode122_at1 h0 h9).trans
      (congrArg (fun m => Decoded.instr (.atom (.long m))) hm))

theorem Laws.RoundTrip.brk : Laws.RoundTrip.Statement .brk := fun _ _ h =>
  (decode_at 0 (congrArg BitVec.toNat (h 2 7 rfl))).trans ((only24_eq (h 0 2 rfl)))

theorem Laws.RoundTrip.add24 : Laws.RoundTrip.Statement .add24 := fun _ _ h =>
  (decode_at 16 (congrArg BitVec.toNat (h 2 7 rfl))).trans ((decode16_at0 (h 0 2 rfl)))

theorem Laws.RoundTrip.csrOp4 : Laws.RoundTrip.Statement .csrOp4 := fun _ _ h =>
  (decode_at 7 (congrArg BitVec.toNat (h 2 7 rfl))).trans ((only48_eq (h 0 2 rfl)).trans ((decodeCsr_at 4 (congrArg BitVec.toNat (h 45 3 rfl)))))

theorem Laws.RoundTrip.absR1 : Laws.RoundTrip.Statement .absR1 := fun _ _ h =>
  (decode_at 104 (congrArg BitVec.toNat (h 2 7 rfl))).trans ((only48_eq (h 0 2 rfl)).trans ((decodeR3_at 26 (congrArg BitVec.toNat (h 41 7 rfl))).trans ((decodeR1_at 3 (congrArg BitVec.toNat (h 30 6 rfl))))))

theorem Laws.RoundTrip.not : Laws.RoundTrip.Statement .not := fun _ _ h =>
  (decode_at 104 (congrArg BitVec.toNat (h 2 7 rfl))).trans ((only48_eq (h 0 2 rfl)).trans ((decodeR3_at 26 (congrArg BitVec.toNat (h 41 7 rfl))).trans ((decodeR1_at 7 (congrArg BitVec.toNat (h 30 6 rfl))))))

theorem Laws.RoundTrip.nnatrig : Laws.RoundTrip.Statement .nnatrig := fun _ _ h =>
  (decode_at 104 (congrArg BitVec.toNat (h 2 7 rfl))).trans ((only48_eq (h 0 2 rfl)).trans ((decodeR3_at 26 (congrArg BitVec.toNat (h 41 7 rfl))).trans ((decodeR1_at 8 (congrArg BitVec.toNat (h 30 6 rfl))))))

theorem Laws.RoundTrip.nnastat : Laws.RoundTrip.Statement .nnastat := fun _ _ h =>
  (decode_at 104 (congrArg BitVec.toNat (h 2 7 rfl))).trans ((only48_eq (h 0 2 rfl)).trans ((decodeR3_at 26 (congrArg BitVec.toNat (h 41 7 rfl))).trans ((decodeR1_at 9 (congrArg BitVec.toNat (h 30 6 rfl))))))

theorem Laws.RoundTrip.nnamfact : Laws.RoundTrip.Statement .nnamfact := fun _ _ h =>
  (decode_at 104 (congrArg BitVec.toNat (h 2 7 rfl))).trans ((only48_eq (h 0 2 rfl)).trans ((decodeR3_at 26 (congrArg BitVec.toNat (h 41 7 rfl))).trans ((decodeR1_at 10 (congrArg BitVec.toNat (h 30 6 rfl))))))

theorem Laws.RoundTrip.mkbool : Laws.RoundTrip.Statement .mkbool := fun _ _ h =>
  (decode_at 104 (congrArg BitVec.toNat (h 2 7 rfl))).trans ((only48_eq (h 0 2 rfl)).trans ((decodeR3_at 26 (congrArg BitVec.toNat (h 41 7 rfl))).trans ((decodeR1_at 12 (congrArg BitVec.toNat (h 30 6 rfl))))))

theorem Laws.RoundTrip.rex : Laws.RoundTrip.Statement .rex := fun _ _ h =>
  (decode_at 104 (congrArg BitVec.toNat (h 2 7 rfl))).trans ((only48_eq (h 0 2 rfl)).trans ((decodeR3_at 26 (congrArg BitVec.toNat (h 41 7 rfl))).trans ((decodeR1_at 13 (congrArg BitVec.toNat (h 30 6 rfl))))))

theorem Laws.RoundTrip.sm3p0 : Laws.RoundTrip.Statement .sm3p0 := fun _ _ h =>
  (decode_at 104 (congrArg BitVec.toNat (h 2 7 rfl))).trans ((only48_eq (h 0 2 rfl)).trans ((decodeR3_at 26 (congrArg BitVec.toNat (h 41 7 rfl))).trans ((decodeR1_at 14 (congrArg BitVec.toNat (h 30 6 rfl))))))

theorem Laws.RoundTrip.sm3p1 : Laws.RoundTrip.Statement .sm3p1 := fun _ _ h =>
  (decode_at 104 (congrArg BitVec.toNat (h 2 7 rfl))).trans ((only48_eq (h 0 2 rfl)).trans ((decodeR3_at 26 (congrArg BitVec.toNat (h 41 7 rfl))).trans ((decodeR1_at 15 (congrArg BitVec.toNat (h 30 6 rfl))))))

theorem Laws.RoundTrip.aes64ds : Laws.RoundTrip.Statement .aes64ds := fun _ _ h =>
  (decode_at 104 (congrArg BitVec.toNat (h 2 7 rfl))).trans ((only48_eq (h 0 2 rfl)).trans ((decodeR3_at 26 (congrArg BitVec.toNat (h 41 7 rfl))).trans ((decodeR1_at 18 (congrArg BitVec.toNat (h 30 6 rfl))))))

theorem Laws.RoundTrip.aes64dsm : Laws.RoundTrip.Statement .aes64dsm := fun _ _ h =>
  (decode_at 104 (congrArg BitVec.toNat (h 2 7 rfl))).trans ((only48_eq (h 0 2 rfl)).trans ((decodeR3_at 26 (congrArg BitVec.toNat (h 41 7 rfl))).trans ((decodeR1_at 19 (congrArg BitVec.toNat (h 30 6 rfl))))))

theorem Laws.RoundTrip.aes64es : Laws.RoundTrip.Statement .aes64es := fun _ _ h =>
  (decode_at 104 (congrArg BitVec.toNat (h 2 7 rfl))).trans ((only48_eq (h 0 2 rfl)).trans ((decodeR3_at 26 (congrArg BitVec.toNat (h 41 7 rfl))).trans ((decodeR1_at 20 (congrArg BitVec.toNat (h 30 6 rfl))))))

theorem Laws.RoundTrip.aes64esm : Laws.RoundTrip.Statement .aes64esm := fun _ _ h =>
  (decode_at 104 (congrArg BitVec.toNat (h 2 7 rfl))).trans ((only48_eq (h 0 2 rfl)).trans ((decodeR3_at 26 (congrArg BitVec.toNat (h 41 7 rfl))).trans ((decodeR1_at 21 (congrArg BitVec.toNat (h 30 6 rfl))))))

theorem Laws.RoundTrip.aes64im : Laws.RoundTrip.Statement .aes64im := fun _ _ h =>
  (decode_at 104 (congrArg BitVec.toNat (h 2 7 rfl))).trans ((only48_eq (h 0 2 rfl)).trans ((decodeR3_at 26 (congrArg BitVec.toNat (h 41 7 rfl))).trans ((decodeR1_at 22 (congrArg BitVec.toNat (h 30 6 rfl))))))

theorem Laws.RoundTrip.sha256sig0 : Laws.RoundTrip.Statement .sha256sig0 := fun _ _ h =>
  (decode_at 104 (congrArg BitVec.toNat (h 2 7 rfl))).trans ((only48_eq (h 0 2 rfl)).trans ((decodeR3_at 26 (congrArg BitVec.toNat (h 41 7 rfl))).trans ((decodeR1_at 24 (congrArg BitVec.toNat (h 30 6 rfl))))))

theorem Laws.RoundTrip.sha256sig1 : Laws.RoundTrip.Statement .sha256sig1 := fun _ _ h =>
  (decode_at 104 (congrArg BitVec.toNat (h 2 7 rfl))).trans ((only48_eq (h 0 2 rfl)).trans ((decodeR3_at 26 (congrArg BitVec.toNat (h 41 7 rfl))).trans ((decodeR1_at 25 (congrArg BitVec.toNat (h 30 6 rfl))))))

theorem Laws.RoundTrip.sha256sum0 : Laws.RoundTrip.Statement .sha256sum0 := fun _ _ h =>
  (decode_at 104 (congrArg BitVec.toNat (h 2 7 rfl))).trans ((only48_eq (h 0 2 rfl)).trans ((decodeR3_at 26 (congrArg BitVec.toNat (h 41 7 rfl))).trans ((decodeR1_at 26 (congrArg BitVec.toNat (h 30 6 rfl))))))

theorem Laws.RoundTrip.sha256sum1 : Laws.RoundTrip.Statement .sha256sum1 := fun _ _ h =>
  (decode_at 104 (congrArg BitVec.toNat (h 2 7 rfl))).trans ((only48_eq (h 0 2 rfl)).trans ((decodeR3_at 26 (congrArg BitVec.toNat (h 41 7 rfl))).trans ((decodeR1_at 27 (congrArg BitVec.toNat (h 30 6 rfl))))))

theorem Laws.RoundTrip.sha512sig0 : Laws.RoundTrip.Statement .sha512sig0 := fun _ _ h =>
  (decode_at 104 (congrArg BitVec.toNat (h 2 7 rfl))).trans ((only48_eq (h 0 2 rfl)).trans ((decodeR3_at 26 (congrArg BitVec.toNat (h 41 7 rfl))).trans ((decodeR1_at 28 (congrArg BitVec.toNat (h 30 6 rfl))))))

theorem Laws.RoundTrip.sha512sig1 : Laws.RoundTrip.Statement .sha512sig1 := fun _ _ h =>
  (decode_at 104 (congrArg BitVec.toNat (h 2 7 rfl))).trans ((only48_eq (h 0 2 rfl)).trans ((decodeR3_at 26 (congrArg BitVec.toNat (h 41 7 rfl))).trans ((decodeR1_at 29 (congrArg BitVec.toNat (h 30 6 rfl))))))

theorem Laws.RoundTrip.sha512sum0 : Laws.RoundTrip.Statement .sha512sum0 := fun _ _ h =>
  (decode_at 104 (congrArg BitVec.toNat (h 2 7 rfl))).trans ((only48_eq (h 0 2 rfl)).trans ((decodeR3_at 26 (congrArg BitVec.toNat (h 41 7 rfl))).trans ((decodeR1_at 30 (congrArg BitVec.toNat (h 30 6 rfl))))))

theorem Laws.RoundTrip.sha512sum1 : Laws.RoundTrip.Statement .sha512sum1 := fun _ _ h =>
  (decode_at 104 (congrArg BitVec.toNat (h 2 7 rfl))).trans ((only48_eq (h 0 2 rfl)).trans ((decodeR3_at 26 (congrArg BitVec.toNat (h 41 7 rfl))).trans ((decodeR1_at 31 (congrArg BitVec.toNat (h 30 6 rfl))))))

theorem Laws.RoundTrip.nand : Laws.RoundTrip.Statement .nand := fun _ _ h =>
  (decode_at 104 (congrArg BitVec.toNat (h 2 7 rfl))).trans ((only48_eq (h 0 2 rfl)).trans ((decodeR3_at 8 (congrArg BitVec.toNat (h 41 7 rfl)))))

theorem Laws.RoundTrip.nor : Laws.RoundTrip.Statement .nor := fun _ _ h =>
  (decode_at 104 (congrArg BitVec.toNat (h 2 7 rfl))).trans ((only48_eq (h 0 2 rfl)).trans ((decodeR3_at 9 (congrArg BitVec.toNat (h 41 7 rfl)))))

theorem Laws.RoundTrip.enor : Laws.RoundTrip.Statement .enor := fun _ _ h =>
  (decode_at 104 (congrArg BitVec.toNat (h 2 7 rfl))).trans ((only48_eq (h 0 2 rfl)).trans ((decodeR3_at 10 (congrArg BitVec.toNat (h 41 7 rfl)))))

theorem Laws.RoundTrip.cmovnz : Laws.RoundTrip.Statement .cmovnz := fun _ _ h =>
  (decode_at 104 (congrArg BitVec.toNat (h 2 7 rfl))).trans ((only48_eq (h 0 2 rfl)).trans ((decodeR3_at 11 (congrArg BitVec.toNat (h 41 7 rfl)))))

theorem Laws.RoundTrip.divsu : Laws.RoundTrip.Statement .divsu := fun _ _ h =>
  (decode_at 104 (congrArg BitVec.toNat (h 2 7 rfl))).trans ((only48_eq (h 0 2 rfl)).trans ((decodeR3_at 22 (congrArg BitVec.toNat (h 41 7 rfl)))))

theorem Laws.RoundTrip.mulw : Laws.RoundTrip.Statement .mulw := fun _ _ h =>
  (decode_at 104 (congrArg BitVec.toNat (h 2 7 rfl))).trans ((only48_eq (h 0 2 rfl)).trans ((decodeR3_at 24 (congrArg BitVec.toNat (h 41 7 rfl)))))

theorem Laws.RoundTrip.muluw : Laws.RoundTrip.Statement .muluw := fun _ _ h =>
  (decode_at 104 (congrArg BitVec.toNat (h 2 7 rfl))).trans ((only48_eq (h 0 2 rfl)).trans ((decodeR3_at 27 (congrArg BitVec.toNat (h 41 7 rfl)))))

theorem Laws.RoundTrip.mulsuw : Laws.RoundTrip.Statement .mulsuw := fun _ _ h =>
  (decode_at 104 (congrArg BitVec.toNat (h 2 7 rfl))).trans ((only48_eq (h 0 2 rfl)).trans ((decodeR3_at 29 (congrArg BitVec.toNat (h 41 7 rfl)))))

theorem Laws.RoundTrip.modsu : Laws.RoundTrip.Statement .modsu := fun _ _ h =>
  (decode_at 104 (congrArg BitVec.toNat (h 2 7 rfl))).trans ((only48_eq (h 0 2 rfl)).trans ((decodeR3_at 30 (congrArg BitVec.toNat (h 41 7 rfl)))))

theorem Laws.RoundTrip.divmod : Laws.RoundTrip.Statement .divmod := fun _ _ h =>
  (decode_at 104 (congrArg BitVec.toNat (h 2 7 rfl))).trans ((only48_eq (h 0 2 rfl)).trans ((decodeR3_at 87 (congrArg BitVec.toNat (h 41 7 rfl)))))

theorem Laws.RoundTrip.divmodu : Laws.RoundTrip.Statement .divmodu := fun _ _ h =>
  (decode_at 104 (congrArg BitVec.toNat (h 2 7 rfl))).trans ((only48_eq (h 0 2 rfl)).trans ((decodeR3_at 95 (congrArg BitVec.toNat (h 41 7 rfl)))))

theorem Laws.RoundTrip.dif : Laws.RoundTrip.Statement .dif := fun _ _ h =>
  (decode_at 104 (congrArg BitVec.toNat (h 2 7 rfl))).trans ((only48_eq (h 0 2 rfl)).trans ((decodeR3_at 36 (congrArg BitVec.toNat (h 41 7 rfl)))))

theorem Laws.RoundTrip.nnamtwt : Laws.RoundTrip.Statement .nnamtwt := fun _ _ h =>
  (decode_at 104 (congrArg BitVec.toNat (h 2 7 rfl))).trans ((only48_eq (h 0 2 rfl)).trans ((decodeR3_at 40 (congrArg BitVec.toNat (h 41 7 rfl)))))

theorem Laws.RoundTrip.nnamtin : Laws.RoundTrip.Statement .nnamtin := fun _ _ h =>
  (decode_at 104 (congrArg BitVec.toNat (h 2 7 rfl))).trans ((only48_eq (h 0 2 rfl)).trans ((decodeR3_at 41 (congrArg BitVec.toNat (h 41 7 rfl)))))

theorem Laws.RoundTrip.nnamtbias : Laws.RoundTrip.Statement .nnamtbias := fun _ _ h =>
  (decode_at 104 (congrArg BitVec.toNat (h 2 7 rfl))).trans ((only48_eq (h 0 2 rfl)).trans ((decodeR3_at 42 (congrArg BitVec.toNat (h 41 7 rfl)))))

theorem Laws.RoundTrip.nnamtfb : Laws.RoundTrip.Statement .nnamtfb := fun _ _ h =>
  (decode_at 104 (congrArg BitVec.toNat (h 2 7 rfl))).trans ((only48_eq (h 0 2 rfl)).trans ((decodeR3_at 43 (congrArg BitVec.toNat (h 41 7 rfl)))))

theorem Laws.RoundTrip.nnamtmc : Laws.RoundTrip.Statement .nnamtmc := fun _ _ h =>
  (decode_at 104 (congrArg BitVec.toNat (h 2 7 rfl))).trans ((only48_eq (h 0 2 rfl)).trans ((decodeR3_at 44 (congrArg BitVec.toNat (h 41 7 rfl)))))

theorem Laws.RoundTrip.nnamtbc : Laws.RoundTrip.Statement .nnamtbc := fun _ _ h =>
  (decode_at 104 (congrArg BitVec.toNat (h 2 7 rfl))).trans ((only48_eq (h 0 2 rfl)).trans ((decodeR3_at 45 (congrArg BitVec.toNat (h 41 7 rfl)))))

theorem Laws.RoundTrip.v2bits : Laws.RoundTrip.Statement .v2bits := fun _ _ h =>
  (decode_at 104 (congrArg BitVec.toNat (h 2 7 rfl))).trans ((only48_eq (h 0 2 rfl)).trans ((decodeR3_at 48 (congrArg BitVec.toNat (h 41 7 rfl)))))

theorem Laws.RoundTrip.bits2v : Laws.RoundTrip.Statement .bits2v := fun _ _ h =>
  (decode_at 104 (congrArg BitVec.toNat (h 2 7 rfl))).trans ((only48_eq (h 0 2 rfl)).trans ((decodeR3_at 49 (congrArg BitVec.toNat (h 41 7 rfl)))))

theorem Laws.RoundTrip.vex : Laws.RoundTrip.Statement .vex := fun _ _ h =>
  (decode_at 104 (congrArg BitVec.toNat (h 2 7 rfl))).trans ((only48_eq (h 0 2 rfl)).trans ((decodeR3_at 50 (congrArg BitVec.toNat (h 41 7 rfl)))))

theorem Laws.RoundTrip.veins : Laws.RoundTrip.Statement .veins := fun _ _ h =>
  (decode_at 104 (congrArg BitVec.toNat (h 2 7 rfl))).trans ((only48_eq (h 0 2 rfl)).trans ((decodeR3_at 51 (congrArg BitVec.toNat (h 41 7 rfl)))))

theorem Laws.RoundTrip.vgndx : Laws.RoundTrip.Statement .vgndx := fun _ _ h =>
  (decode_at 104 (congrArg BitVec.toNat (h 2 7 rfl))).trans ((only48_eq (h 0 2 rfl)).trans ((decodeR3_at 52 (congrArg BitVec.toNat (h 41 7 rfl)))))

theorem Laws.RoundTrip.vshlv : Laws.RoundTrip.Statement .vshlv := fun _ _ h =>
  (decode_at 104 (congrArg BitVec.toNat (h 2 7 rfl))).trans ((only48_eq (h 0 2 rfl)).trans ((decodeR3_at 54 (congrArg BitVec.toNat (h 41 7 rfl)))))

theorem Laws.RoundTrip.vshrv : Laws.RoundTrip.Statement .vshrv := fun _ _ h =>
  (decode_at 104 (congrArg BitVec.toNat (h 2 7 rfl))).trans ((only48_eq (h 0 2 rfl)).trans ((decodeR3_at 55 (congrArg BitVec.toNat (h 41 7 rfl)))))

theorem Laws.RoundTrip.vsetmask : Laws.RoundTrip.Statement .vsetmask := fun _ _ h =>
  (decode_at 104 (congrArg BitVec.toNat (h 2 7 rfl))).trans ((only48_eq (h 0 2 rfl)).trans ((decodeR3_at 58 (congrArg BitVec.toNat (h 41 7 rfl)))))

theorem Laws.RoundTrip.vshlvi : Laws.RoundTrip.Statement .vshlvi := fun _ _ h =>
  (decode_at 104 (congrArg BitVec.toNat (h 2 7 rfl))).trans ((only48_eq (h 0 2 rfl)).trans ((decodeR3_at 62 (congrArg BitVec.toNat (h 41 7 rfl)))))

theorem Laws.RoundTrip.vshrvi : Laws.RoundTrip.Statement .vshrvi := fun _ _ h =>
  (decode_at 104 (congrArg BitVec.toNat (h 2 7 rfl))).trans ((only48_eq (h 0 2 rfl)).trans ((decodeR3_at 63 (congrArg BitVec.toNat (h 41 7 rfl)))))

theorem Laws.RoundTrip.aes64k1i : Laws.RoundTrip.Statement .aes64k1i := fun _ _ h =>
  (decode_at 104 (congrArg BitVec.toNat (h 2 7 rfl))).trans ((only48_eq (h 0 2 rfl)).trans ((decodeR3_at 64 (congrArg BitVec.toNat (h 41 7 rfl)))))

theorem Laws.RoundTrip.aes64ks2 : Laws.RoundTrip.Statement .aes64ks2 := fun _ _ h =>
  (decode_at 104 (congrArg BitVec.toNat (h 2 7 rfl))).trans ((only48_eq (h 0 2 rfl)).trans ((decodeR3_at 65 (congrArg BitVec.toNat (h 41 7 rfl)))))

theorem Laws.RoundTrip.sm4ed : Laws.RoundTrip.Statement .sm4ed := fun _ _ h =>
  (decode_at 104 (congrArg BitVec.toNat (h 2 7 rfl))).trans ((only48_eq (h 0 2 rfl)).trans ((decodeR3_at 66 (congrArg BitVec.toNat (h 41 7 rfl)))))

theorem Laws.RoundTrip.sm4ks : Laws.RoundTrip.Statement .sm4ks := fun _ _ h =>
  (decode_at 104 (congrArg BitVec.toNat (h 2 7 rfl))).trans ((only48_eq (h 0 2 rfl)).trans ((decodeR3_at 67 (congrArg BitVec.toNat (h 41 7 rfl)))))

theorem Laws.RoundTrip.clmul : Laws.RoundTrip.Statement .clmul := fun _ _ h =>
  (decode_at 104 (congrArg BitVec.toNat (h 2 7 rfl))).trans ((only48_eq (h 0 2 rfl)).trans ((decodeR3_at 70 (congrArg BitVec.toNat (h 41 7 rfl)))))

theorem Laws.RoundTrip.mvvr : Laws.RoundTrip.Statement .mvvr := fun _ _ h =>
  (decode_at 104 (congrArg BitVec.toNat (h 2 7 rfl))).trans ((only48_eq (h 0 2 rfl)).trans ((decodeR3_at 127 (congrArg BitVec.toNat (h 41 7 rfl)))))

theorem Laws.RoundTrip.reservedFunc4x7 : Laws.RoundTrip.Statement .reservedFunc4x7 := fun _ _ h =>
  (decode_at 80 (congrArg BitVec.toNat (h 2 7 rfl))).trans ((only48_eq (h 0 2 rfl)).trans ((decodeShift_at 7 (congrArg BitVec.toNat (h 44 4 rfl)))))

theorem Laws.RoundTrip.reservedFunc4x15 : Laws.RoundTrip.Statement .reservedFunc4x15 := fun _ _ h =>
  (decode_at 80 (congrArg BitVec.toNat (h 2 7 rfl))).trans ((only48_eq (h 0 2 rfl)).trans ((decodeShift_at 15 (congrArg BitVec.toNat (h 44 4 rfl)))))

theorem Laws.RoundTrip.fconst : Laws.RoundTrip.Statement .fconst := fun _ _ h =>
  (decode_at 57 (congrArg BitVec.toNat (h 2 7 rfl))).trans ((only48_eq (h 0 2 rfl)).trans ((decodeFlt_at 36 (congrArg BitVec.toNat (h 41 7 rfl)))))

theorem Laws.RoundTrip.fnop : Laws.RoundTrip.Statement .fnop := fun _ _ h =>
  (decode_at 57 (congrArg BitVec.toNat (h 2 7 rfl))).trans ((only48_eq (h 0 2 rfl)).trans ((decodeFlt_at 0 (congrArg BitVec.toNat (h 41 7 rfl)))))

theorem Laws.RoundTrip.fmin : Laws.RoundTrip.Statement .fmin := fun _ _ h =>
  (decode_at 57 (congrArg BitVec.toNat (h 2 7 rfl))).trans ((only48_eq (h 0 2 rfl)).trans ((decodeFlt_at 2 (congrArg BitVec.toNat (h 41 7 rfl)))))

theorem Laws.RoundTrip.fmax : Laws.RoundTrip.Statement .fmax := fun _ _ h =>
  (decode_at 57 (congrArg BitVec.toNat (h 2 7 rfl))).trans ((only48_eq (h 0 2 rfl)).trans ((decodeFlt_at 3 (congrArg BitVec.toNat (h 41 7 rfl)))))

theorem Laws.RoundTrip.fsubCode5 : Laws.RoundTrip.Statement .fsubCode5 := fun _ _ h =>
  (decode_at 57 (congrArg BitVec.toNat (h 2 7 rfl))).trans ((only48_eq (h 0 2 rfl)).trans ((decodeFlt_at 5 (congrArg BitVec.toNat (h 41 7 rfl)))))

theorem Laws.RoundTrip.fmul : Laws.RoundTrip.Statement .fmul := fun _ _ h =>
  (decode_at 57 (congrArg BitVec.toNat (h 2 7 rfl))).trans ((only48_eq (h 0 2 rfl)).trans ((decodeFlt_at 6 (congrArg BitVec.toNat (h 41 7 rfl)))))

theorem Laws.RoundTrip.fdiv : Laws.RoundTrip.Statement .fdiv := fun _ _ h =>
  (decode_at 57 (congrArg BitVec.toNat (h 2 7 rfl))).trans ((only48_eq (h 0 2 rfl)).trans ((decodeFlt_at 7 (congrArg BitVec.toNat (h 41 7 rfl)))))

theorem Laws.RoundTrip.fseq : Laws.RoundTrip.Statement .fseq := fun _ _ h =>
  (decode_at 57 (congrArg BitVec.toNat (h 2 7 rfl))).trans ((only48_eq (h 0 2 rfl)).trans ((decodeFlt_at 8 (congrArg BitVec.toNat (h 41 7 rfl)))))

theorem Laws.RoundTrip.fsle : Laws.RoundTrip.Statement .fsle := fun _ _ h =>
  (decode_at 57 (congrArg BitVec.toNat (h 2 7 rfl))).trans ((only48_eq (h 0 2 rfl)).trans ((decodeFlt_at 11 (congrArg BitVec.toNat (h 41 7 rfl)))))

theorem Laws.RoundTrip.fnxt : Laws.RoundTrip.Statement .fnxt := fun _ _ h =>
  (decode_at 57 (congrArg BitVec.toNat (h 2 7 rfl))).trans ((only48_eq (h 0 2 rfl)).trans ((decodeFlt_at 14 (congrArg BitVec.toNat (h 41 7 rfl)))))

theorem Laws.RoundTrip.frem : Laws.RoundTrip.Statement .frem := fun _ _ h =>
  (decode_at 57 (congrArg BitVec.toNat (h 2 7 rfl))).trans ((only48_eq (h 0 2 rfl)).trans ((decodeFlt_at 15 (congrArg BitVec.toNat (h 41 7 rfl)))))

theorem Laws.RoundTrip.fsgnj : Laws.RoundTrip.Statement .fsgnj := fun _ _ h =>
  (decode_at 57 (congrArg BitVec.toNat (h 2 7 rfl))).trans ((only48_eq (h 0 2 rfl)).trans ((decodeFlt_at 16 (congrArg BitVec.toNat (h 41 7 rfl)))))

theorem Laws.RoundTrip.fsgnjn : Laws.RoundTrip.Statement .fsgnjn := fun _ _ h =>
  (decode_at 57 (congrArg BitVec.toNat (h 2 7 rfl))).trans ((only48_eq (h 0 2 rfl)).trans ((decodeFlt_at 17 (congrArg BitVec.toNat (h 41 7 rfl)))))

theorem Laws.RoundTrip.fsgnjx : Laws.RoundTrip.Statement .fsgnjx := fun _ _ h =>
  (decode_at 57 (congrArg BitVec.toNat (h 2 7 rfl))).trans ((only48_eq (h 0 2 rfl)).trans ((decodeFlt_at 18 (congrArg BitVec.toNat (h 41 7 rfl)))))

theorem Laws.RoundTrip.fscaleb : Laws.RoundTrip.Statement .fscaleb := fun _ _ h =>
  (decode_at 57 (congrArg BitVec.toNat (h 2 7 rfl))).trans ((only48_eq (h 0 2 rfl)).trans ((decodeFlt_at 20 (congrArg BitVec.toNat (h 41 7 rfl)))))

theorem Laws.RoundTrip.fneg : Laws.RoundTrip.Statement .fneg := fun _ _ h =>
  (decode_at 57 (congrArg BitVec.toNat (h 2 7 rfl))).trans ((only48_eq (h 0 2 rfl)).trans ((decodeFlt_at 33 (congrArg BitVec.toNat (h 41 7 rfl)))))

theorem Laws.RoundTrip.ftoi : Laws.RoundTrip.Statement .ftoi := fun _ _ h =>
  (decode_at 57 (congrArg BitVec.toNat (h 2 7 rfl))).trans ((only48_eq (h 0 2 rfl)).trans ((decodeFlt_at 34 (congrArg BitVec.toNat (h 41 7 rfl)))))

theorem Laws.RoundTrip.itof : Laws.RoundTrip.Statement .itof := fun _ _ h =>
  (decode_at 57 (congrArg BitVec.toNat (h 2 7 rfl))).trans ((only48_eq (h 0 2 rfl)).trans ((decodeFlt_at 35 (congrArg BitVec.toNat (h 41 7 rfl)))))

theorem Laws.RoundTrip.fsign : Laws.RoundTrip.Statement .fsign := fun _ _ h =>
  (decode_at 57 (congrArg BitVec.toNat (h 2 7 rfl))).trans ((only48_eq (h 0 2 rfl)).trans ((decodeFlt_at 38 (congrArg BitVec.toNat (h 41 7 rfl)))))

theorem Laws.RoundTrip.fsig : Laws.RoundTrip.Statement .fsig := fun _ _ h =>
  (decode_at 57 (congrArg BitVec.toNat (h 2 7 rfl))).trans ((only48_eq (h 0 2 rfl)).trans ((decodeFlt_at 39 (congrArg BitVec.toNat (h 41 7 rfl)))))

theorem Laws.RoundTrip.fcvts2d : Laws.RoundTrip.Statement .fcvts2d := fun _ _ h =>
  (decode_at 57 (congrArg BitVec.toNat (h 2 7 rfl))).trans ((only48_eq (h 0 2 rfl)).trans ((decodeFlt_at 41 (congrArg BitVec.toNat (h 41 7 rfl)))))

theorem Laws.RoundTrip.fcvts2q : Laws.RoundTrip.Statement .fcvts2q := fun _ _ h =>
  (decode_at 57 (congrArg BitVec.toNat (h 2 7 rfl))).trans ((only48_eq (h 0 2 rfl)).trans ((decodeFlt_at 42 (congrArg BitVec.toNat (h 41 7 rfl)))))

theorem Laws.RoundTrip.fcvtd2q : Laws.RoundTrip.Statement .fcvtd2q := fun _ _ h =>
  (decode_at 57 (congrArg BitVec.toNat (h 2 7 rfl))).trans ((only48_eq (h 0 2 rfl)).trans ((decodeFlt_at 43 (congrArg BitVec.toNat (h 41 7 rfl)))))

theorem Laws.RoundTrip.fcvth2s : Laws.RoundTrip.Statement .fcvth2s := fun _ _ h =>
  (decode_at 57 (congrArg BitVec.toNat (h 2 7 rfl))).trans ((only48_eq (h 0 2 rfl)).trans ((decodeFlt_at 44 (congrArg BitVec.toNat (h 41 7 rfl)))))

theorem Laws.RoundTrip.fcvth2d : Laws.RoundTrip.Statement .fcvth2d := fun _ _ h =>
  (decode_at 57 (congrArg BitVec.toNat (h 2 7 rfl))).trans ((only48_eq (h 0 2 rfl)).trans ((decodeFlt_at 45 (congrArg BitVec.toNat (h 41 7 rfl)))))

theorem Laws.RoundTrip.isnan : Laws.RoundTrip.Statement .isnan := fun _ _ h =>
  (decode_at 57 (congrArg BitVec.toNat (h 2 7 rfl))).trans ((only48_eq (h 0 2 rfl)).trans ((decodeFlt_at 46 (congrArg BitVec.toNat (h 41 7 rfl)))))

theorem Laws.RoundTrip.finite : Laws.RoundTrip.Statement .finite := fun _ _ h =>
  (decode_at 57 (congrArg BitVec.toNat (h 2 7 rfl))).trans ((only48_eq (h 0 2 rfl)).trans ((decodeFlt_at 47 (congrArg BitVec.toNat (h 41 7 rfl)))))

theorem Laws.RoundTrip.fcvtq2h : Laws.RoundTrip.Statement .fcvtq2h := fun _ _ h =>
  (decode_at 57 (congrArg BitVec.toNat (h 2 7 rfl))).trans ((only48_eq (h 0 2 rfl)).trans ((decodeFlt_at 48 (congrArg BitVec.toNat (h 41 7 rfl)))))

theorem Laws.RoundTrip.fcvtq2s : Laws.RoundTrip.Statement .fcvtq2s := fun _ _ h =>
  (decode_at 57 (congrArg BitVec.toNat (h 2 7 rfl))).trans ((only48_eq (h 0 2 rfl)).trans ((decodeFlt_at 49 (congrArg BitVec.toNat (h 41 7 rfl)))))

theorem Laws.RoundTrip.fcvtq2d : Laws.RoundTrip.Statement .fcvtq2d := fun _ _ h =>
  (decode_at 57 (congrArg BitVec.toNat (h 2 7 rfl))).trans ((only48_eq (h 0 2 rfl)).trans ((decodeFlt_at 50 (congrArg BitVec.toNat (h 41 7 rfl)))))

theorem Laws.RoundTrip.fcvth2q : Laws.RoundTrip.Statement .fcvth2q := fun _ _ h =>
  (decode_at 57 (congrArg BitVec.toNat (h 2 7 rfl))).trans ((only48_eq (h 0 2 rfl)).trans ((decodeFlt_at 52 (congrArg BitVec.toNat (h 41 7 rfl)))))

theorem Laws.RoundTrip.frsqrt : Laws.RoundTrip.Statement .frsqrt := fun _ _ h =>
  (decode_at 57 (congrArg BitVec.toNat (h 2 7 rfl))).trans ((only48_eq (h 0 2 rfl)).trans ((decodeFlt_at 54 (congrArg BitVec.toNat (h 41 7 rfl)))))

theorem Laws.RoundTrip.fres : Laws.RoundTrip.Statement .fres := fun _ _ h =>
  (decode_at 57 (congrArg BitVec.toNat (h 2 7 rfl))).trans ((only48_eq (h 0 2 rfl)).trans ((decodeFlt_at 55 (congrArg BitVec.toNat (h 41 7 rfl)))))

theorem Laws.RoundTrip.fcvtd2s : Laws.RoundTrip.Statement .fcvtd2s := fun _ _ h =>
  (decode_at 57 (congrArg BitVec.toNat (h 2 7 rfl))).trans ((only48_eq (h 0 2 rfl)).trans ((decodeFlt_at 57 (congrArg BitVec.toNat (h 41 7 rfl)))))

theorem Laws.RoundTrip.fclass : Laws.RoundTrip.Statement .fclass := fun _ _ h =>
  (decode_at 57 (congrArg BitVec.toNat (h 2 7 rfl))).trans ((only48_eq (h 0 2 rfl)).trans ((decodeFlt_at 62 (congrArg BitVec.toNat (h 41 7 rfl)))))

theorem Laws.RoundTrip.fsin : Laws.RoundTrip.Statement .fsin := fun _ _ h =>
  (decode_at 57 (congrArg BitVec.toNat (h 2 7 rfl))).trans ((only48_eq (h 0 2 rfl)).trans ((decodeFlt_at 64 (congrArg BitVec.toNat (h 41 7 rfl)))))

theorem Laws.RoundTrip.ftan : Laws.RoundTrip.Statement .ftan := fun _ _ h =>
  (decode_at 57 (congrArg BitVec.toNat (h 2 7 rfl))).trans ((only48_eq (h 0 2 rfl)).trans ((decodeFlt_at 66 (congrArg BitVec.toNat (h 41 7 rfl)))))

theorem Laws.RoundTrip.fatan : Laws.RoundTrip.Statement .fatan := fun _ _ h =>
  (decode_at 57 (congrArg BitVec.toNat (h 2 7 rfl))).trans ((only48_eq (h 0 2 rfl)).trans ((decodeFlt_at 74 (congrArg BitVec.toNat (h 41 7 rfl)))))

theorem Laws.RoundTrip.fsigmoid : Laws.RoundTrip.Statement .fsigmoid := fun _ _ h =>
  (decode_at 57 (congrArg BitVec.toNat (h 2 7 rfl))).trans ((only48_eq (h 0 2 rfl)).trans ((decodeFlt_at 80 (congrArg BitVec.toNat (h 41 7 rfl)))))

theorem Laws.RoundTrip.reservedLd65x3 : Laws.RoundTrip.Statement .reservedLd65x3 := fun _ _ h =>
  (decode_at 65 (congrArg BitVec.toNat (h 2 7 rfl))).trans ((byLength_long (ne_of_fld (h 0 2 rfl) (by decide))).trans ((decodeLs65_at 3 (congrArg BitVec.toNat (h 30 2 rfl)))))

theorem Laws.RoundTrip.dfldd : Laws.RoundTrip.Statement .dfldd := fun _ _ h =>
  (decode_at 67 (congrArg BitVec.toNat (h 2 7 rfl))).trans ((byLength_long (ne_of_fld (h 0 2 rfl) (by decide))).trans ((decodeLs67_at 0 (congrArg BitVec.toNat (h 30 2 rfl)))))

theorem Laws.RoundTrip.dfldq : Laws.RoundTrip.Statement .dfldq := fun _ _ h =>
  (decode_at 67 (congrArg BitVec.toNat (h 2 7 rfl))).trans ((byLength_long (ne_of_fld (h 0 2 rfl) (by decide))).trans ((decodeLs67_at 1 (congrArg BitVec.toNat (h 30 2 rfl)))))

theorem Laws.RoundTrip.pldw : Laws.RoundTrip.Statement .pldw := fun _ _ h =>
  (decode_at 68 (congrArg BitVec.toNat (h 2 7 rfl))).trans ((byLength_long (ne_of_fld (h 0 2 rfl) (by decide))).trans ((decodeLs68_at 1 (congrArg BitVec.toNat (h 30 2 rfl)))))

theorem Laws.RoundTrip.pldt : Laws.RoundTrip.Statement .pldt := fun _ _ h =>
  (decode_at 68 (congrArg BitVec.toNat (h 2 7 rfl))).trans ((byLength_long (ne_of_fld (h 0 2 rfl) (by decide))).trans ((decodeLs68_at 2 (congrArg BitVec.toNat (h 30 2 rfl)))))

theorem Laws.RoundTrip.pldo : Laws.RoundTrip.Statement .pldo := fun _ _ h =>
  (decode_at 68 (congrArg BitVec.toNat (h 2 7 rfl))).trans ((byLength_long (ne_of_fld (h 0 2 rfl) (by decide))).trans ((decodeLs68_at 3 (congrArg BitVec.toNat (h 30 2 rfl)))))

theorem Laws.RoundTrip.ldcapq : Laws.RoundTrip.Statement .ldcapq := fun _ _ h =>
  (decode_at 69 (congrArg BitVec.toNat (h 2 7 rfl))).trans ((only48_eq (h 0 2 rfl)).trans ((decodeLs69_at 1 (congrArg BitVec.toNat (h 30 2 rfl)))))

theorem Laws.RoundTrip.dfstd : Laws.RoundTrip.Statement .dfstd := fun _ _ h =>
  (decode_at 75 (congrArg BitVec.toNat (h 2 7 rfl))).trans ((byLength_long (ne_of_fld (h 0 2 rfl) (by decide))).trans ((decodeLs75_at 3 (congrArg BitVec.toNat (h 30 2 rfl)))))

theorem Laws.RoundTrip.pstw : Laws.RoundTrip.Statement .pstw := fun _ _ h =>
  (decode_at 76 (congrArg BitVec.toNat (h 2 7 rfl))).trans ((byLength_long (ne_of_fld (h 0 2 rfl) (by decide))).trans ((decodeLs76_at 1 (congrArg BitVec.toNat (h 30 2 rfl)))))

theorem Laws.RoundTrip.pstt : Laws.RoundTrip.Statement .pstt := fun _ _ h =>
  (decode_at 76 (congrArg BitVec.toNat (h 2 7 rfl))).trans ((byLength_long (ne_of_fld (h 0 2 rfl) (by decide))).trans ((decodeLs76_at 2 (congrArg BitVec.toNat (h 30 2 rfl)))))

theorem Laws.RoundTrip.psto : Laws.RoundTrip.Statement .psto := fun _ _ h =>
  (decode_at 76 (congrArg BitVec.toNat (h 2 7 rfl))).trans ((byLength_long (ne_of_fld (h 0 2 rfl) (by decide))).trans ((decodeLs76_at 3 (congrArg BitVec.toNat (h 30 2 rfl)))))

theorem Laws.RoundTrip.stcapq : Laws.RoundTrip.Statement .stcapq := fun _ _ h =>
  (decode_at 77 (congrArg BitVec.toNat (h 2 7 rfl))).trans ((only48_eq (h 0 2 rfl)).trans ((decodeLs77_at 1 (congrArg BitVec.toNat (h 30 2 rfl)))))

theorem Laws.RoundTrip.stptrt : Laws.RoundTrip.Statement .stptrt := fun _ _ h =>
  (decode_at 78 (congrArg BitVec.toNat (h 2 7 rfl))).trans ((byLength_long (ne_of_fld (h 0 2 rfl) (by decide))).trans ((decodeLs78_at 0 (congrArg BitVec.toNat (h 30 2 rfl)))))

theorem Laws.RoundTrip.reservedBcc40x14 : Laws.RoundTrip.Statement .reservedBcc40x14 := fun _ _ h =>
  (decode_at 40 (congrArg BitVec.toNat (h 2 7 rfl))).trans ((only48_eq (h 0 2 rfl)).trans ((decodeBcc40_at 14 (congrArg BitVec.toNat (h 9 4 rfl)))))

theorem Laws.RoundTrip.reservedBcc48x14 : Laws.RoundTrip.Statement .reservedBcc48x14 := fun _ _ h =>
  (decode_at 48 (congrArg BitVec.toNat (h 2 7 rfl))).trans ((only48_eq (h 0 2 rfl)).trans ((decodeBcc48_at 14 (congrArg BitVec.toNat (h 9 4 rfl)))))

theorem Laws.RoundTrip.irq40 : Laws.RoundTrip.Statement .irq40 := fun _ _ h =>
  (decode_at 40 (congrArg BitVec.toNat (h 2 7 rfl))).trans ((only48_eq (h 0 2 rfl)).trans ((decodeBcc40_at 15 (congrArg BitVec.toNat (h 9 4 rfl)))))

theorem Laws.RoundTrip.irq48 : Laws.RoundTrip.Statement .irq48 := fun _ _ h =>
  (decode_at 48 (congrArg BitVec.toNat (h 2 7 rfl))).trans ((only48_eq (h 0 2 rfl)).trans ((decodeBcc48_at 15 (congrArg BitVec.toNat (h 9 4 rfl)))))

theorem Laws.RoundTrip.irq41 : Laws.RoundTrip.Statement .irq41 := fun _ _ h =>
  (decode_at 41 (congrArg BitVec.toNat (h 2 7 rfl))).trans ((only48_eq (h 0 2 rfl)).trans ((decodeBcc41_at 15 (congrArg BitVec.toNat (h 9 4 rfl)))))

theorem Laws.RoundTrip.irq49 : Laws.RoundTrip.Statement .irq49 := fun _ _ h =>
  (decode_at 49 (congrArg BitVec.toNat (h 2 7 rfl))).trans ((only48_eq (h 0 2 rfl)).trans ((decodeBcc49_at 15 (congrArg BitVec.toNat (h 9 4 rfl)))))

theorem Laws.RoundTrip.reservedBcc41x6 : Laws.RoundTrip.Statement .reservedBcc41x6 := fun _ _ h =>
  (decode_at 41 (congrArg BitVec.toNat (h 2 7 rfl))).trans ((only48_eq (h 0 2 rfl)).trans ((decodeBcc41_at 6 (congrArg BitVec.toNat (h 9 4 rfl)))))

theorem Laws.RoundTrip.reservedBcc49x6 : Laws.RoundTrip.Statement .reservedBcc49x6 := fun _ _ h =>
  (decode_at 49 (congrArg BitVec.toNat (h 2 7 rfl))).trans ((only48_eq (h 0 2 rfl)).trans ((decodeBcc49_at 6 (congrArg BitVec.toNat (h 9 4 rfl)))))

theorem Laws.RoundTrip.reservedBcc41x7 : Laws.RoundTrip.Statement .reservedBcc41x7 := fun _ _ h =>
  (decode_at 41 (congrArg BitVec.toNat (h 2 7 rfl))).trans ((only48_eq (h 0 2 rfl)).trans ((decodeBcc41_at 7 (congrArg BitVec.toNat (h 9 4 rfl)))))

theorem Laws.RoundTrip.reservedBcc49x7 : Laws.RoundTrip.Statement .reservedBcc49x7 := fun _ _ h =>
  (decode_at 49 (congrArg BitVec.toNat (h 2 7 rfl))).trans ((only48_eq (h 0 2 rfl)).trans ((decodeBcc49_at 7 (congrArg BitVec.toNat (h 9 4 rfl)))))

theorem Laws.RoundTrip.reservedBcc41x8 : Laws.RoundTrip.Statement .reservedBcc41x8 := fun _ _ h =>
  (decode_at 41 (congrArg BitVec.toNat (h 2 7 rfl))).trans ((only48_eq (h 0 2 rfl)).trans ((decodeBcc41_at 8 (congrArg BitVec.toNat (h 9 4 rfl)))))

theorem Laws.RoundTrip.reservedBcc49x8 : Laws.RoundTrip.Statement .reservedBcc49x8 := fun _ _ h =>
  (decode_at 49 (congrArg BitVec.toNat (h 2 7 rfl))).trans ((only48_eq (h 0 2 rfl)).trans ((decodeBcc49_at 8 (congrArg BitVec.toNat (h 9 4 rfl)))))

theorem Laws.RoundTrip.reservedBcc41x9 : Laws.RoundTrip.Statement .reservedBcc41x9 := fun _ _ h =>
  (decode_at 41 (congrArg BitVec.toNat (h 2 7 rfl))).trans ((only48_eq (h 0 2 rfl)).trans ((decodeBcc41_at 9 (congrArg BitVec.toNat (h 9 4 rfl)))))

theorem Laws.RoundTrip.reservedBcc49x9 : Laws.RoundTrip.Statement .reservedBcc49x9 := fun _ _ h =>
  (decode_at 49 (congrArg BitVec.toNat (h 2 7 rfl))).trans ((only48_eq (h 0 2 rfl)).trans ((decodeBcc49_at 9 (congrArg BitVec.toNat (h 9 4 rfl)))))

theorem Laws.RoundTrip.reservedBcc41x14 : Laws.RoundTrip.Statement .reservedBcc41x14 := fun _ _ h =>
  (decode_at 41 (congrArg BitVec.toNat (h 2 7 rfl))).trans ((only48_eq (h 0 2 rfl)).trans ((decodeBcc41_at 14 (congrArg BitVec.toNat (h 9 4 rfl)))))

theorem Laws.RoundTrip.reservedBcc49x14 : Laws.RoundTrip.Statement .reservedBcc49x14 := fun _ _ h =>
  (decode_at 49 (congrArg BitVec.toNat (h 2 7 rfl))).trans ((only48_eq (h 0 2 rfl)).trans ((decodeBcc49_at 14 (congrArg BitVec.toNat (h 9 4 rfl)))))

theorem Laws.RoundTrip.dfbcc : Laws.RoundTrip.Statement .dfbcc := fun _ _ h =>
  (decode_at 43 (congrArg BitVec.toNat (h 2 7 rfl))).trans ((only48_eq (h 0 2 rfl)))

theorem Laws.RoundTrip.dfbccReg : Laws.RoundTrip.Statement .dfbccReg := fun _ _ h =>
  (decode_at 51 (congrArg BitVec.toNat (h 2 7 rfl))).trans ((only48_eq (h 0 2 rfl)))

theorem Laws.RoundTrip.pbcc : Laws.RoundTrip.Statement .pbcc := fun _ _ h =>
  (decode_at 44 (congrArg BitVec.toNat (h 2 7 rfl))).trans ((only48_eq (h 0 2 rfl)))

theorem Laws.RoundTrip.pbccReg : Laws.RoundTrip.Statement .pbccReg := fun _ _ h =>
  (decode_at 52 (congrArg BitVec.toNat (h 2 7 rfl))).trans ((only48_eq (h 0 2 rfl)))

theorem Laws.RoundTrip.cbcc : Laws.RoundTrip.Statement .cbcc := fun _ _ h =>
  (decode_at 45 (congrArg BitVec.toNat (h 2 7 rfl))).trans ((only48_eq (h 0 2 rfl)))

theorem Laws.RoundTrip.cbccReg : Laws.RoundTrip.Statement .cbccReg := fun _ _ h =>
  (decode_at 53 (congrArg BitVec.toNat (h 2 7 rfl))).trans ((only48_eq (h 0 2 rfl)))

theorem Laws.RoundTrip.cjmp34 : Laws.RoundTrip.Statement .cjmp34 := fun _ _ h =>
  decode_at 34 (congrArg BitVec.toNat (h 2 7 rfl))

theorem Laws.RoundTrip.cjmp37 : Laws.RoundTrip.Statement .cjmp37 := fun _ _ h =>
  decode_at 37 (congrArg BitVec.toNat (h 2 7 rfl))

theorem Laws.RoundTrip.cjmp39 : Laws.RoundTrip.Statement .cjmp39 := fun _ _ h =>
  decode_at 39 (congrArg BitVec.toNat (h 2 7 rfl))

theorem Laws.RoundTrip.nop : Laws.RoundTrip.Statement .nop := fun _ _ h =>
  (decode_at 127 (congrArg BitVec.toNat (h 2 7 rfl))).trans ((only24_eq (h 0 2 rfl)))

theorem Laws.RoundTrip.cRetd : Laws.RoundTrip.Statement .cRetd := fun _ _ h =>
  (decode_at 1 (congrArg BitVec.toNat (h 2 7 rfl))).trans ((only48_eq (h 0 2 rfl)).trans ((decodeCap_at 8 (congrArg BitVec.toNat (h 41 7 rfl)))))

theorem Laws.RoundTrip.cInvoke : Laws.RoundTrip.Statement .cInvoke := fun _ _ h =>
  (decode_at 1 (congrArg BitVec.toNat (h 2 7 rfl))).trans ((only48_eq (h 0 2 rfl)).trans ((decodeCap_at 12 (congrArg BitVec.toNat (h 41 7 rfl)))))

theorem Laws.RoundTrip.cCopyType : Laws.RoundTrip.Statement .cCopyType := fun _ _ h =>
  (decode_at 1 (congrArg BitVec.toNat (h 2 7 rfl))).trans ((only48_eq (h 0 2 rfl)).trans ((decodeCap_at 34 (congrArg BitVec.toNat (h 41 7 rfl)))))

theorem Laws.RoundTrip.cIncOffs : Laws.RoundTrip.Statement .cIncOffs := fun _ _ h =>
  (decode_at 1 (congrArg BitVec.toNat (h 2 7 rfl))).trans ((only48_eq (h 0 2 rfl)).trans ((decodeCap_at 35 (congrArg BitVec.toNat (h 41 7 rfl)))))

theorem Laws.RoundTrip.cSeal : Laws.RoundTrip.Statement .cSeal := fun _ _ h =>
  (decode_at 1 (congrArg BitVec.toNat (h 2 7 rfl))).trans ((only48_eq (h 0 2 rfl)).trans ((decodeCap_at 36 (congrArg BitVec.toNat (h 41 7 rfl)))))

theorem Laws.RoundTrip.cSetAddr : Laws.RoundTrip.Statement .cSetAddr := fun _ _ h =>
  (decode_at 1 (congrArg BitVec.toNat (h 2 7 rfl))).trans ((only48_eq (h 0 2 rfl)).trans ((decodeCap_at 37 (congrArg BitVec.toNat (h 41 7 rfl)))))

theorem Laws.RoundTrip.cSetBounds : Laws.RoundTrip.Statement .cSetBounds := fun _ _ h =>
  (decode_at 1 (congrArg BitVec.toNat (h 2 7 rfl))).trans ((only48_eq (h 0 2 rfl)).trans ((decodeCap_at 38 (congrArg BitVec.toNat (h 41 7 rfl)))))

theorem Laws.RoundTrip.cSetFlags : Laws.RoundTrip.Statement .cSetFlags := fun _ _ h =>
  (decode_at 1 (congrArg BitVec.toNat (h 2 7 rfl))).trans ((only48_eq (h 0 2 rfl)).trans ((decodeCap_at 39 (congrArg BitVec.toNat (h 41 7 rfl)))))

theorem Laws.RoundTrip.cSetHigh : Laws.RoundTrip.Statement .cSetHigh := fun _ _ h =>
  (decode_at 1 (congrArg BitVec.toNat (h 2 7 rfl))).trans ((only48_eq (h 0 2 rfl)).trans ((decodeCap_at 40 (congrArg BitVec.toNat (h 41 7 rfl)))))

theorem Laws.RoundTrip.cSetOffs : Laws.RoundTrip.Statement .cSetOffs := fun _ _ h =>
  (decode_at 1 (congrArg BitVec.toNat (h 2 7 rfl))).trans ((only48_eq (h 0 2 rfl)).trans ((decodeCap_at 41 (congrArg BitVec.toNat (h 41 7 rfl)))))

theorem Laws.RoundTrip.cSpeicalRW : Laws.RoundTrip.Statement .cSpeicalRW := fun _ _ h =>
  (decode_at 1 (congrArg BitVec.toNat (h 2 7 rfl))).trans ((only48_eq (h 0 2 rfl)).trans ((decodeCap_at 42 (congrArg BitVec.toNat (h 41 7 rfl)))))

theorem Laws.RoundTrip.cUnseal : Laws.RoundTrip.Statement .cUnseal := fun _ _ h =>
  (decode_at 1 (congrArg BitVec.toNat (h 2 7 rfl))).trans ((only48_eq (h 0 2 rfl)).trans ((decodeCap_at 43 (congrArg BitVec.toNat (h 41 7 rfl)))))

theorem Laws.RoundTrip.cGetFlags : Laws.RoundTrip.Statement .cGetFlags := fun _ _ h =>
  (decode_at 1 (congrArg BitVec.toNat (h 2 7 rfl))).trans ((only48_eq (h 0 2 rfl)).trans ((decodeCap_at 65 (congrArg BitVec.toNat (h 41 7 rfl)))))

theorem Laws.RoundTrip.cGetHigh : Laws.RoundTrip.Statement .cGetHigh := fun _ _ h =>
  (decode_at 1 (congrArg BitVec.toNat (h 2 7 rfl))).trans ((only48_eq (h 0 2 rfl)).trans ((decodeCap_at 66 (congrArg BitVec.toNat (h 41 7 rfl)))))

theorem Laws.RoundTrip.cGetLen : Laws.RoundTrip.Statement .cGetLen := fun _ _ h =>
  (decode_at 1 (congrArg BitVec.toNat (h 2 7 rfl))).trans ((only48_eq (h 0 2 rfl)).trans ((decodeCap_at 67 (congrArg BitVec.toNat (h 41 7 rfl)))))

theorem Laws.RoundTrip.cGetOffs : Laws.RoundTrip.Statement .cGetOffs := fun _ _ h =>
  (decode_at 1 (congrArg BitVec.toNat (h 2 7 rfl))).trans ((only48_eq (h 0 2 rfl)).trans ((decodeCap_at 68 (congrArg BitVec.toNat (h 41 7 rfl)))))

theorem Laws.RoundTrip.cGetPerms : Laws.RoundTrip.Statement .cGetPerms := fun _ _ h =>
  (decode_at 1 (congrArg BitVec.toNat (h 2 7 rfl))).trans ((only48_eq (h 0 2 rfl)).trans ((decodeCap_at 69 (congrArg BitVec.toNat (h 41 7 rfl)))))

theorem Laws.RoundTrip.cGetTag : Laws.RoundTrip.Statement .cGetTag := fun _ _ h =>
  (decode_at 1 (congrArg BitVec.toNat (h 2 7 rfl))).trans ((only48_eq (h 0 2 rfl)).trans ((decodeCap_at 70 (congrArg BitVec.toNat (h 41 7 rfl)))))

theorem Laws.RoundTrip.cGetTop : Laws.RoundTrip.Statement .cGetTop := fun _ _ h =>
  (decode_at 1 (congrArg BitVec.toNat (h 2 7 rfl))).trans ((only48_eq (h 0 2 rfl)).trans ((decodeCap_at 71 (congrArg BitVec.toNat (h 41 7 rfl)))))

theorem Laws.RoundTrip.cGetType : Laws.RoundTrip.Statement .cGetType := fun _ _ h =>
  (decode_at 1 (congrArg BitVec.toNat (h 2 7 rfl))).trans ((only48_eq (h 0 2 rfl)).trans ((decodeCap_at 72 (congrArg BitVec.toNat (h 41 7 rfl)))))

theorem Laws.RoundTrip.cLoadTags : Laws.RoundTrip.Statement .cLoadTags := fun _ _ h =>
  (decode_at 1 (congrArg BitVec.toNat (h 2 7 rfl))).trans ((only48_eq (h 0 2 rfl)).trans ((decodeCap_at 73 (congrArg BitVec.toNat (h 41 7 rfl)))))

theorem Laws.RoundTrip.cAlignMsk : Laws.RoundTrip.Statement .cAlignMsk := fun _ _ h =>
  (decode_at 1 (congrArg BitVec.toNat (h 2 7 rfl))).trans ((only48_eq (h 0 2 rfl)).trans ((decodeCap_at 74 (congrArg BitVec.toNat (h 41 7 rfl)))))

theorem Laws.RoundTrip.cRoundLen : Laws.RoundTrip.Statement .cRoundLen := fun _ _ h =>
  (decode_at 1 (congrArg BitVec.toNat (h 2 7 rfl))).trans ((only48_eq (h 0 2 rfl)).trans ((decodeCap_at 75 (congrArg BitVec.toNat (h 41 7 rfl)))))

theorem Laws.RoundTrip.cSealEntry : Laws.RoundTrip.Statement .cSealEntry := fun _ _ h =>
  (decode_at 1 (congrArg BitVec.toNat (h 2 7 rfl))).trans ((only48_eq (h 0 2 rfl)).trans ((decodeCap_at 76 (congrArg BitVec.toNat (h 41 7 rfl)))))

theorem Laws.RoundTrip.cGetBase : Laws.RoundTrip.Statement .cGetBase := fun _ _ h =>
  (decode_at 1 (congrArg BitVec.toNat (h 2 7 rfl))).trans ((only48_eq (h 0 2 rfl)).trans ((decodeCap_at 77 (congrArg BitVec.toNat (h 41 7 rfl)))))

theorem Laws.RoundTrip.qext : Laws.RoundTrip.Statement .qext := fun _ _ h =>
  decode_at 120 (congrArg BitVec.toNat (h 2 7 rfl))

theorem Laws.RoundTrip.pred : Laws.RoundTrip.Statement .pred := fun _ _ h =>
  decode_at 121 (congrArg BitVec.toNat (h 2 7 rfl))

theorem Laws.RoundTrip.pfx : Laws.RoundTrip.Statement .pfx := fun _ _ h =>
  decode_at 124 (congrArg BitVec.toNat (h 2 7 rfl))

theorem Laws.RoundTrip.r3x128 : Laws.RoundTrip.Statement .r3x128 := fun _ _ h =>
  decode_at 2 (congrArg BitVec.toNat (h 2 7 rfl))

theorem Laws.RoundTrip.flt128 : Laws.RoundTrip.Statement .flt128 := fun _ _ h =>
  decode_at 90 (congrArg BitVec.toNat (h 2 7 rfl))

theorem Laws.RoundTrip.dflt : Laws.RoundTrip.Statement .dflt := fun _ _ h =>
  decode_at 17 (congrArg BitVec.toNat (h 2 7 rfl))

theorem Laws.RoundTrip.pst : Laws.RoundTrip.Statement .pst := fun _ _ h =>
  decode_at 18 (congrArg BitVec.toNat (h 2 7 rfl))

theorem Laws.RoundTrip.chksc : Laws.RoundTrip.Statement .chksc := fun _ _ h =>
  decode_at 71 (congrArg BitVec.toNat (h 2 7 rfl))

theorem Laws.RoundTrip.stctx : Laws.RoundTrip.Statement .stctx := fun _ _ h =>
  decode_at 79 (congrArg BitVec.toNat (h 2 7 rfl))

theorem Laws.RoundTrip.enter : Laws.RoundTrip.Statement .enter := fun _ _ h =>
  decode_at 84 (congrArg BitVec.toNat (h 2 7 rfl))

theorem Laws.RoundTrip.leave : Laws.RoundTrip.Statement .leave := fun _ _ h =>
  decode_at 85 (congrArg BitVec.toNat (h 2 7 rfl))

theorem Laws.RoundTrip.push : Laws.RoundTrip.Statement .push := fun _ _ h =>
  decode_at 86 (congrArg BitVec.toNat (h 2 7 rfl))

theorem Laws.RoundTrip.pop : Laws.RoundTrip.Statement .pop := fun _ _ h =>
  decode_at 87 (congrArg BitVec.toNat (h 2 7 rfl))

theorem Laws.RoundTrip.blend : Laws.RoundTrip.Statement .blend := fun _ _ h =>
  decode_at 89 (congrArg BitVec.toNat (h 2 7 rfl))

theorem Laws.RoundTrip.bfind : Laws.RoundTrip.Statement .bfind := fun _ _ h =>
  decode_at 108 (congrArg BitVec.toNat (h 2 7 rfl))

theorem Laws.RoundTrip.bcmp : Laws.RoundTrip.Statement .bcmp := fun _ _ h =>
  decode_at 109 (congrArg BitVec.toNat (h 2 7 rfl))

theorem Laws.RoundTrip.block : Laws.RoundTrip.Statement .block := fun _ _ h =>
  decode_at 111 (congrArg BitVec.toNat (h 2 7 rfl))

theorem Laws.RoundTrip.amo : Laws.RoundTrip.Statement .amo := fun _ _ h =>
  decode_at 92 (congrArg BitVec.toNat (h 2 7 rfl))

theorem Laws.RoundTrip.cas : Laws.RoundTrip.Statement .cas := fun _ _ h =>
  decode_at 93 (congrArg BitVec.toNat (h 2 7 rfl))

theorem Laws.RoundTrip.stopOp : Laws.RoundTrip.Statement .stopOp := fun _ _ h =>
  decode_at 113 (congrArg BitVec.toNat (h 2 7 rfl))

theorem Laws.RoundTrip.fence : Laws.RoundTrip.Statement .fence := fun _ _ h =>
  decode_at 114 (congrArg BitVec.toNat (h 2 7 rfl))

theorem Laws.RoundTrip.pfi : Laws.RoundTrip.Statement .pfi := fun _ _ h =>
  decode_at 115 (congrArg BitVec.toNat (h 2 7 rfl))

theorem Laws.RoundTrip.reservedRoot12 : Laws.RoundTrip.Statement .reservedRoot12 := fun _ _ h =>
  decode_at 12 (congrArg BitVec.toNat (h 2 7 rfl))

theorem Laws.RoundTrip.reservedRoot20 : Laws.RoundTrip.Statement .reservedRoot20 := fun _ _ h =>
  decode_at 20 (congrArg BitVec.toNat (h 2 7 rfl))

theorem Laws.RoundTrip.reservedRoot56 : Laws.RoundTrip.Statement .reservedRoot56 := fun _ _ h =>
  decode_at 56 (congrArg BitVec.toNat (h 2 7 rfl))

theorem Laws.RoundTrip.reservedRoot91 : Laws.RoundTrip.Statement .reservedRoot91 := fun _ _ h =>
  decode_at 91 (congrArg BitVec.toNat (h 2 7 rfl))

theorem Laws.RoundTrip.reservedRoot110 : Laws.RoundTrip.Statement .reservedRoot110 := fun _ _ h =>
  decode_at 110 (congrArg BitVec.toNat (h 2 7 rfl))

theorem Laws.RoundTrip.reservedRoot116 : Laws.RoundTrip.Statement .reservedRoot116 := fun _ _ h =>
  decode_at 116 (congrArg BitVec.toNat (h 2 7 rfl))

theorem Laws.RoundTrip.reservedRoot117 : Laws.RoundTrip.Statement .reservedRoot117 := fun _ _ h =>
  decode_at 117 (congrArg BitVec.toNat (h 2 7 rfl))

theorem Laws.RoundTrip.reservedRoot118 : Laws.RoundTrip.Statement .reservedRoot118 := fun _ _ h =>
  decode_at 118 (congrArg BitVec.toNat (h 2 7 rfl))

theorem Laws.RoundTrip.reservedRoot119 : Laws.RoundTrip.Statement .reservedRoot119 := fun _ _ h =>
  decode_at 119 (congrArg BitVec.toNat (h 2 7 rfl))

theorem Laws.RoundTrip.reservedRoot123 : Laws.RoundTrip.Statement .reservedRoot123 := fun _ _ h =>
  decode_at 123 (congrArg BitVec.toNat (h 2 7 rfl))

theorem Laws.RoundTrip.reservedRoot125 : Laws.RoundTrip.Statement .reservedRoot125 := fun _ _ h =>
  decode_at 125 (congrArg BitVec.toNat (h 2 7 rfl))

theorem Laws.RoundTrip.reservedRoot126 : Laws.RoundTrip.Statement .reservedRoot126 := fun _ _ h =>
  decode_at 126 (congrArg BitVec.toNat (h 2 7 rfl))

theorem Laws.RoundTrip.reservedRoot1648 : Laws.RoundTrip.Statement .reservedRoot1648 := fun _ _ h =>
  (decode_at 16 (congrArg BitVec.toNat (h 2 7 rfl))).trans ((decode16_at1 (h 0 2 rfl)))

theorem Laws.RoundTrip.reservedRoot1672 : Laws.RoundTrip.Statement .reservedRoot1672 := fun _ _ h =>
  (decode_at 16 (congrArg BitVec.toNat (h 2 7 rfl))).trans ((decode16_at2 (h 0 2 rfl)))

theorem Laws.RoundTrip.reservedRoot1696 : Laws.RoundTrip.Statement .reservedRoot1696 := fun _ _ h =>
  (decode_at 16 (congrArg BitVec.toNat (h 2 7 rfl))).trans ((decode16_at3 (h 0 2 rfl)))

end Sys2Proof
end

