-- ==== Sys2Proof/Tests/Slice0.lean ====
section
/-! SUPPORT. Small tests: ill-formed terms, words written out from the encodings, single steps of the examples of
spec/95_test_vectors.md, and for every statement with hypotheses a state that meets them. -/

namespace Sys2Proof.Tests

open Sys2Proof Sys2Proof.Machine

/-! ## Ill-formed terms (WellFormed) -/

/-- ABS is Op4 = 3 of its row. -/
theorem test_wf_abs : (Instr.abs ⟨.octa, 0#4, false, 0#6, false, 2#6, false, 1#6, false, 3#6⟩).wf = false := by decide

/-- The six selections are Op4 0, 1 and 2 of two rows. -/
theorem test_wf_selection :
    ∀ i ∈ [(⟨.octa, 3#4, false, 3#6, false, 2#6, false, 1#6, false, 4#6⟩ : R3)],
      (Instr.min3 i).wf = false ∧ (Instr.mid3 i).wf = false ∧ (Instr.max3 i).wf = false ∧
      (Instr.minu3 i).wf = false ∧ (Instr.midu3 i).wf = false ∧ (Instr.maxu3 i).wf = false := by decide

/-- The reversals are Op4 0 to 6 of one row. -/
theorem test_wf_reversal :
    ∀ i ∈ [(⟨.octa, 7#4, false, 1#6, false, 3#6⟩ : R1)],
      (Instr.revbit i).wf = false ∧ (Instr.revbitp i).wf = false ∧ (Instr.revn i).wf = false ∧ (Instr.revb i).wf = false ∧
      (Instr.revw i).wf = false ∧ (Instr.revt i).wf = false ∧ (Instr.revo i).wf = false := by decide

/-- PTRDIF and the averages are Op4 0 to 2 and 8 to 10 of one row. -/
theorem test_wf_average :
    ∀ i ∈ [(⟨.octa, 3#4, false, 3#6, false, 2#6, false, 1#6, false, 4#6⟩ : R3)],
      (Instr.ptrdif i).wf = false ∧ (Instr.avgTrunc i).wf = false ∧ (Instr.avgRound i).wf = false := by decide

/-- AUIIP has no 48-bit form, RET none of 72 bits. -/
theorem test_wf_length :
    (Instr.auiip (.long ⟨.i23 1#23, false, 1#6⟩)).wf = false ∧
    (Instr.ret (.long ⟨.i47 1#47, false, 1#6, 1#4⟩)).wf = false := by decide

/-- The capability load and store have no 72-bit form. -/
theorem test_wf_capability_length :
    ∀ i ∈ [(⟨.d40 1#40, 0#3, 3#6, 2#6, 1#6⟩ : LS)], (Instr.ldcapd i).wf = false ∧ (Instr.stcapd i).wf = false := by decide

/-- No row gives a float operation the 32-bit format. -/
theorem test_wf_float_format :
    (Instr.fma ⟨.single, 0#3, 3#6, false, 2#6, false, 1#6, false, 4#6⟩).wf = false ∧
    (Instr.fms ⟨.single, 0#3, 3#6, false, 2#6, false, 1#6, false, 4#6⟩).wf = false ∧
    (Instr.fadd ⟨.single, 0#3, 2#6, false, 1#6, false, 3#6⟩).wf = false ∧
    (Instr.fsub ⟨.single, 0#3, 2#6, false, 1#6, false, 3#6⟩).wf = false ∧
    (Instr.fsne ⟨.single, false, 2#6, false, 1#6, false, 3#6⟩).wf = false ∧
    (Instr.fslt ⟨.single, false, 2#6, false, 1#6, false, 3#6⟩).wf = false ∧
    (Instr.fcmp ⟨.single, false, 2#6, false, 1#6, false, 3#6⟩).wf = false ∧
    (Instr.fabs ⟨.single, false, 1#6, 3#6⟩).wf = false ∧ (Instr.fnabs ⟨.single, false, 1#6, 3#6⟩).wf = false ∧
    (Instr.fsqrt ⟨.single, 0#3, false, 1#6, false, 3#6⟩).wf = false ∧
    (Instr.ftrunc ⟨.single, 0#3, false, 1#6, false, 3#6⟩).wf = false ∧
    (Instr.fcos ⟨.single, 0#3, 3#3, false, 1#6, false, 3#6⟩).wf = false := by decide

/-- Calls name a link or target register. -/
theorem test_wf_link :
    (Instr.bsr ⟨1#37, 0#2⟩).wf = false ∧ (Instr.jsrDirect ⟨1#37, 0#2⟩).wf = false ∧
    (Instr.jsrIndirect ⟨.d16 1#16, 0#2, 3#3, 2#6, 1#6, 0#6⟩).wf = false ∧
    (Instr.jsrScaled ⟨.d16 1#16, 0#3, 2#6, 1#6, 0#6⟩).wf = false := by decide

/-! ## Words and the instructions they stand for -/

/-- Words of table rows 0 to 11 (spec/opcode_table.json). -/
theorem test_decode_immediate_1 :
    decodeTableWord 24 0x0 = some .brk ∧
    decodeTableWord 24 0x1CC60C = some (.zx ⟨28#6, true, 35#6⟩) ∧
    decodeTableWord 24 0x76E20C = some (.sxImm ⟨54#6, true, 49#6⟩) ∧
    decodeTableWord 24 0x9CEC0C = some (.sxReg ⟨false, 28#6, true, 54#6⟩) ∧
    decodeTableWord 24 0x8BC03C = some (.move ⟨true, false, 11#6, true, 32#6⟩) ∧
    decodeTableWord 24 0x40 = some .add24 ∧
    decodeTableWord 24 0x7D2610 = some (.addi (.short ⟨15#5, 20#5, 19#5⟩)) ∧
    decodeTableWord 48 0xCB00881C1211 = some (.addi (.long ⟨.i23 6651972#23, .byte, false, 28#6, false, 9#6⟩)) ∧
    decodeTableWord 24 0x147214 = some (.subfi (.short ⟨2#5, 17#5, 25#5⟩)) ∧
    decodeTableWord 48 0xE3EFF942FC15 = some (.subfi (.long ⟨.i23 7469052#23, .tetra, true, 2#6, true, 62#6⟩)) ∧
    decodeTableWord 24 0x679C18 = some (.muli (.short ⟨12#5, 30#5, 14#5⟩)) ∧
    decodeTableWord 48 0xA76777694E19 = some (.muli (.long ⟨.i23 5485499#23, .tetra, true, 41#6, false, 39#6⟩)) := by
  decide

/-- Words of table rows 12 to 23 (spec/opcode_table.json). -/
theorem test_decode_immediate_2 :
    decodeTableWord 24 0xD40420 = some (.andi (.short ⟨26#5, 16#5, 2#5⟩)) ∧
    decodeTableWord 48 0xF3EBC384C21 = some (.andi (.long ⟨.i23 499550#23, .byte, false, 56#6, false, 38#6⟩)) ∧
    decodeTableWord 24 0xC39424 = some (.ori (.short ⟨24#5, 14#5, 10#5⟩)) ∧
    decodeTableWord 48 0x70C6A54C9C25 = some (.ori (.long ⟨.i23 3695442#23, .tetra, true, 12#6, true, 14#6⟩)) ∧
    decodeTableWord 24 0xA25E28 = some (.eori (.short ⟨20#5, 9#5, 15#5⟩)) ∧
    decodeTableWord 48 0x12D0F1DA229 = some (.eori (.long ⟨.i23 38535#23, .tetra, false, 29#6, true, 17#6⟩)) ∧
    decodeTableWord 24 0x6C7A2C = some (.cmpi (.short ⟨13#5, 17#5, 29#5⟩)) ∧
    decodeTableWord 48 0xD7185C50602D = some (.cmpi (.long ⟨.i23 7048238#23, .byte, true, 16#6, false, 48#6⟩)) ∧
    decodeTableWord 24 0x3C1234 = some (.divi (.short ⟨7#5, 16#5, 9#5⟩)) ∧
    decodeTableWord 48 0x79DD2713235 = some (.divi (.long ⟨.i23 249577#23, .byte, true, 49#6, false, 25#6⟩)) ∧
    decodeTableWord 24 0x1ED238 = some (.mului (.short ⟨3#5, 27#5, 9#5⟩)) ∧
    decodeTableWord 48 0x62F28C41D639 = some (.mului (.long ⟨.i23 3242310#23, .byte, true, 1#6, true, 43#6⟩)) := by
  decide

/-- Words of table rows 24 to 35 (spec/opcode_table.json). -/
theorem test_decode_immediate_3 :
    decodeTableWord 24 0x31BA4C = some (.cmpui (.short ⟨6#5, 6#5, 29#5⟩)) ∧
    decodeTableWord 48 0xE9079418DA4D = some (.cmpui (.long ⟨.i23 7635914#23, .byte, false, 24#6, true, 45#6⟩)) ∧
    decodeTableWord 24 0x634454 = some (.divui (.short ⟨12#5, 13#5, 2#5⟩)) ∧
    decodeTableWord 48 0x90F53931A255 = some (.divui (.long ⟨.i23 4749980#23, .tetra, false, 49#6, true, 17#6⟩)) ∧
    decodeTableWord 24 0x5092F0 = some (.add2ui (.short ⟨10#5, 2#5, 9#5⟩)) ∧
    decodeTableWord 48 0x5524545AF6F1 = some (.add2ui (.long ⟨.i23 2789930#23, .byte, true, 26#6, true, 59#6⟩)) ∧
    decodeTableWord 24 0x190EF4 = some (.add4ui (.short ⟨3#5, 4#5, 7#5⟩)) ∧
    decodeTableWord 48 0xB4FF000366F5 = some (.add4ui (.long ⟨.i23 5930880#23, .byte, false, 3#6, false, 51#6⟩)) ∧
    decodeTableWord 24 0x796AF8 = some (.add8ui (.short ⟨15#5, 5#5, 21#5⟩)) ∧
    decodeTableWord 48 0x8F2DF6205CF9 = some (.add8ui (.long ⟨.i23 4691707#23, .byte, false, 32#6, false, 46#6⟩)) ∧
    decodeTableWord 24 0xC11AFC = some (.add16ui (.short ⟨24#5, 4#5, 13#5⟩)) ∧
    decodeTableWord 48 0xA4CA82991AFD = some (.add16ui (.long ⟨.i23 5399873#23, .wyde, false, 25#6, false, 13#6⟩)) := by
  decide

/-- Words of table rows 36 to 47 (spec/opcode_table.json). -/
theorem test_decode_immediate_4 :
    decodeTableWord 24 0x46F2E8 = some (.auiip (.short ⟨8#5, 25#5⟩)) ∧
    decodeTableWord 72 0x4DDD2F7BB305C116EA = some (.auiip (.long ⟨.i47 42806189873538#47, false, 11#6⟩)) ∧
    decodeTableWord 48 0xFEC9DE5D7CE9 = some (.opcode58 547154243262#39) ∧
    decodeTableWord 48 0xDAB871640459 = some (.seqi ⟨.i23 7167032#23, .tetra, true, 36#6, false, 2#6⟩) ∧
    decodeTableWord 48 0xFD42E01C6379 = some (.zseqi ⟨.i23 8298864#23, .byte, false, 28#6, false, 49#6⟩) ∧
    decodeTableWord 48 0x9C3ECAD2085D = some (.snei (.long ⟨.i23 5119845#23, .wyde, true, 18#6, false, 4#6⟩)) ∧
    decodeTableWord 48 0x130414259E61 = some (.slti (.long ⟨.i23 623114#23, .byte, false, 37#6, true, 15#6⟩)) ∧
    decodeTableWord 48 0x3F86717BA65 = some (.slei (.long ⟨.i23 130099#23, .tetra, false, 23#6, true, 29#6⟩)) ∧
    decodeTableWord 48 0x20918FDEC869 = some (.sgti (.long ⟨.i23 1067207#23, .octa, true, 30#6, true, 36#6⟩)) ∧
    decodeTableWord 48 0x22BFB98B926D = some (.sgei (.long ⟨.i23 1138652#23, .octa, false, 11#6, true, 9#6⟩)) ∧
    decodeTableWord 48 0x4F9155B49E71 = some (.sltui (.long ⟨.i23 2607274#23, .octa, false, 52#6, true, 15#6⟩)) ∧
    decodeTableWord 48 0xB9B3382FF875 = some (.sleui (.long ⟨.i23 6085020#23, .byte, false, 47#6, true, 60#6⟩)) := by
  decide

/-- Words of table rows 48 to 58 (spec/opcode_table.json). -/
theorem test_decode_immediate_5 :
    decodeTableWord 48 0x8DCE6E7C7079 = some (.sgtui (.long ⟨.i23 4646711#23, .byte, true, 60#6, false, 56#6⟩)) ∧
    decodeTableWord 48 0x7B862F1A0C7D = some (.sgeui (.long ⟨.i23 4047639#23, .tetra, false, 26#6, false, 6#6⟩)) ∧
    decodeTableWord 48 0x1BEA847D1F7D = some (.zsnei (.long ⟨.i23 914754#23, .byte, true, 61#6, false, 15#6⟩)) ∧
    decodeTableWord 48 0xBD6569106981 = some (.zslti (.long ⟨.i23 6206132#23, .tetra, false, 16#6, false, 52#6⟩)) ∧
    decodeTableWord 48 0xE7A28D129785 = some (.zslei (.long ⟨.i23 7590214#23, .tetra, false, 18#6, true, 11#6⟩)) ∧
    decodeTableWord 48 0xEDE26D441D89 = some (.zsgti (.long ⟨.i23 7794998#23, .tetra, true, 4#6, false, 14#6⟩)) ∧
    decodeTableWord 48 0x7AB36776CF8D = some (.zsgei (.long ⟨.i23 4020659#23, .tetra, true, 54#6, true, 39#6⟩)) ∧
    decodeTableWord 48 0x12FAD8BA9B91 = some (.zsltui (.long ⟨.i23 621932#23, .wyde, false, 58#6, true, 13#6⟩)) ∧
    decodeTableWord 48 0xBFBD7C113995 = some (.zsleui (.long ⟨.i23 6282942#23, .byte, false, 17#6, false, 28#6⟩)) ∧
    decodeTableWord 48 0x3FC2A80B2F99 = some (.zsgtui (.long ⟨.i23 2089300#23, .byte, false, 11#6, false, 23#6⟩)) ∧
    decodeTableWord 48 0x87EFDB482F9D = some (.zsgeui (.long ⟨.i23 4454381#23, .tetra, true, 8#6, false, 23#6⟩)) := by
  decide

/-- Words of table rows 59 to 68 (spec/opcode_table.json). -/
theorem test_decode_csr_chk :
    decodeTableWord 48 0x46DDCAA1D = some (.csrrd ⟨2267#14, true, 28#6, true, 21#6⟩) ∧
    decodeTableWord 48 0x201505ECCA1D = some (.csrrw ⟨10763#14, true, 44#6, true, 37#6⟩) ∧
    decodeTableWord 48 0x401E4CA5761D = some (.csrrs ⟨15513#14, false, 37#6, false, 59#6⟩) ∧
    decodeTableWord 48 0x600092BA581D = some (.csrrc ⟨293#14, false, 58#6, false, 44#6⟩) ∧
    decodeTableWord 48 0xA009FA7B021D = some (.csrrwImm ⟨5108#14, 123#7, false, 1#6⟩) ∧
    decodeTableWord 48 0xC01325D13C1D = some (.csrrsImm ⟨9803#14, 81#7, false, 30#6⟩) ∧
    decodeTableWord 48 0xE002275D281D = some (.csrrcImm ⟨1102#14, 93#7, false, 20#6⟩) ∧
    decodeTableWord 48 0x80000000001D = some .csrOp4 ∧
    decodeTableWord 48 0x20110E57DFC1 = some (.chk ⟨2#4, true, 4#6, false, 28#6, true, 23#6, 47#6⟩) ∧
    decodeTableWord 48 0xE01BF6B27BC1 = some (.chku ⟨14#4, true, 47#6, true, 45#6, false, 50#6, 61#6⟩) := by
  decide

/-- Words of table rows 69 to 80 (spec/opcode_table.json). -/
theorem test_decode_register_form_1 :
    decodeTableWord 48 0x1C595B96FAD = some (.and ⟨.octa, 14#4, false, 22#6, false, 43#6, false, 57#6, false, 55#6⟩) ∧
    decodeTableWord 48 0x2DC9BA44FA9 = some (.or ⟨.tetra, 6#4, true, 50#6, false, 55#6, false, 36#6, false, 39#6⟩) ∧
    decodeTableWord 48 0x4C9530551A1 = some (.eor ⟨.byte, 6#4, false, 37#6, false, 38#6, false, 5#6, false, 40#6⟩) ∧
    decodeTableWord 48 0x696AABBD9A9 = some (.cmp ⟨.tetra, 4#4, true, 26#6, true, 21#6, false, 59#6, true, 44#6⟩) ∧
    decodeTableWord 48 0x8E77121C1A1 = some (.add ⟨.byte, 7#4, false, 29#6, true, 34#6, false, 33#6, true, 32#6⟩) ∧
    decodeTableWord 48 0xC9140BD8FA5 = some (.cmpu ⟨.wyde, 4#4, true, 5#6, false, 1#6, false, 61#6, true, 7#6⟩) ∧
    decodeTableWord 48 0xE0C755F73AD = some (.cpuid ⟨49#6, true, 42#6, true, 31#6, false, 57#6⟩) ∧
    decodeTableWord 48 0x18A273A161AD = some (.cmov ⟨.octa, 5#4, false, 9#6, true, 39#6, false, 33#6, false, 48#6⟩) ∧
    decodeTableWord 48 0x1A6AAE3929A5 = some (.abs ⟨.wyde, 3#4, false, 42#6, true, 28#6, false, 57#6, false, 20#6⟩) ∧
    decodeTableWord 48 0x1D432DF3F5A1 = some (.maj ⟨.byte, 10#4, false, 12#6, true, 27#6, true, 51#6, true, 58#6⟩) ∧
    decodeTableWord 48 0x21C612D411A1 = some (.mul ⟨.byte, 14#4, false, 24#6, false, 37#6, true, 20#6, false, 8#6⟩) ∧
    decodeTableWord 48 0x22ED7B2D79AD = some (.div ⟨.octa, 7#4, false, 53#6, true, 54#6, false, 45#6, false, 60#6⟩) := by
  decide

/-- Words of table rows 81 to 91 (spec/opcode_table.json). -/
theorem test_decode_register_form_2 :
    decodeTableWord 48 0x26928E119BAD = some (.mulu ⟨.octa, 4#4, true, 10#6, false, 28#6, false, 17#6, true, 13#6⟩) ∧
    decodeTableWord 48 0x28CA2FD4EBAD = some (.divu ⟨.octa, 6#4, false, 40#6, true, 31#6, true, 20#6, true, 53#6⟩) ∧
    decodeTableWord 48 0x2B251A91CDA1 = some (.mulsu ⟨.byte, 9#4, false, 20#6, false, 53#6, false, 17#6, true, 38#6⟩) ∧
    decodeTableWord 48 0x33546B29C9A1 = some (.rem ⟨.byte, 10#4, true, 17#6, true, 22#6, false, 41#6, true, 36#6⟩) ∧
    decodeTableWord 48 0x39464631A3A1 = some (.remu ⟨.byte, 10#4, false, 25#6, false, 12#6, false, 49#6, true, 17#6⟩) ∧
    decodeTableWord 48 0x241261E839A1 = some (.min3 ⟨.byte, 0#4, true, 9#6, true, 3#6, true, 40#6, false, 28#6⟩) ∧
    decodeTableWord 48 0x2438B45789A9 = some (.mid3 ⟨.tetra, 1#4, true, 34#6, true, 40#6, true, 23#6, true, 4#6⟩) ∧
    decodeTableWord 48 0x24432F0BE1A5 = some (.max3 ⟨.wyde, 2#4, false, 12#6, true, 30#6, false, 11#6, true, 48#6⟩) ∧
    decodeTableWord 48 0x2E1B4591ADA9 = some (.minu3 ⟨.tetra, 0#4, true, 45#6, false, 11#6, false, 17#6, true, 22#6⟩) ∧
    decodeTableWord 48 0x2E3F307033AD = some (.midu3 ⟨.octa, 1#4, true, 60#6, true, 32#6, true, 48#6, false, 25#6⟩) ∧
    decodeTableWord 48 0x2E5B271AF3A9 = some (.maxu3 ⟨.tetra, 2#4, true, 44#6, true, 14#6, false, 26#6, true, 57#6⟩) := by
  decide

/-- Words of table rows 92 to 103 (spec/opcode_table.json). -/
theorem test_decode_one_operand_1 :
    decodeTableWord 48 0x34C00E0CF1AD = some (.cntlz ⟨.octa, 6#4, false, 12#6, true, 56#6⟩) ∧
    decodeTableWord 48 0x34C07278E5AD = some (.cntlo ⟨.octa, 6#4, true, 56#6, true, 50#6⟩) ∧
    decodeTableWord 48 0x34A08A7E0DA9 = some (.cntpop ⟨.tetra, 5#4, true, 62#6, false, 6#6⟩) ∧
    decodeTableWord 48 0x35A139FB8FA1 = some (.sqrt ⟨.byte, 13#4, true, 59#6, true, 7#6⟩) ∧
    decodeTableWord 48 0x3461AC45A7A9 = some (.cnttz ⟨.tetra, 3#4, true, 5#6, true, 19#6⟩) ∧
    decodeTableWord 48 0x3401795475A9 = some (.revbit ⟨.tetra, 0#4, true, 20#6, false, 58#6⟩) ∧
    decodeTableWord 48 0x342160A005A5 = some (.revbitp ⟨.wyde, 1#4, false, 32#6, false, 2#6⟩) ∧
    decodeTableWord 48 0x344151B13FAD = some (.revn ⟨.octa, 2#4, false, 49#6, false, 31#6⟩) ∧
    decodeTableWord 48 0x346146F737AD = some (.revb ⟨.octa, 3#4, true, 55#6, false, 27#6⟩) ∧
    decodeTableWord 48 0x348145D5E5AD = some (.revw ⟨.octa, 4#4, true, 21#6, true, 50#6⟩) ∧
    decodeTableWord 48 0x34A14F21DDA9 = some (.revt ⟨.tetra, 5#4, false, 33#6, true, 46#6⟩) ∧
    decodeTableWord 48 0x34C175DCF1A5 = some (.revo ⟨.wyde, 6#4, true, 28#6, true, 56#6⟩) := by
  decide

/-- Words of table rows 104 to 115 (spec/opcode_table.json). -/
theorem test_decode_one_operand_2 :
    decodeTableWord 48 0x3400C00001A1 = some .absR1 ∧
    decodeTableWord 48 0x3401C00001A1 = some .not ∧
    decodeTableWord 48 0x3402000001A1 = some .nnatrig ∧
    decodeTableWord 48 0x3402400001A1 = some .nnastat ∧
    decodeTableWord 48 0x3402800001A1 = some .nnamfact ∧
    decodeTableWord 48 0x3403000001A1 = some .mkbool ∧
    decodeTableWord 48 0x3403400001A1 = some .rex ∧
    decodeTableWord 48 0x3403800001A1 = some .sm3p0 ∧
    decodeTableWord 48 0x3403C00001A1 = some .sm3p1 ∧
    decodeTableWord 48 0x3404800001A1 = some .aes64ds ∧
    decodeTableWord 48 0x3404C00001A1 = some .aes64dsm ∧
    decodeTableWord 48 0x3405000001A1 = some .aes64es := by
  decide

/-- Words of table rows 116 to 125 (spec/opcode_table.json). -/
theorem test_decode_one_operand_3 :
    decodeTableWord 48 0x3405400001A1 = some .aes64esm ∧
    decodeTableWord 48 0x3405800001A1 = some .aes64im ∧
    decodeTableWord 48 0x3406000001A1 = some .sha256sig0 ∧
    decodeTableWord 48 0x3406400001A1 = some .sha256sig1 ∧
    decodeTableWord 48 0x3406800001A1 = some .sha256sum0 ∧
    decodeTableWord 48 0x3406C00001A1 = some .sha256sum1 ∧
    decodeTableWord 48 0x3407000001A1 = some .sha512sig0 ∧
    decodeTableWord 48 0x3407400001A1 = some .sha512sig1 ∧
    decodeTableWord 48 0x3407800001A1 = some .sha512sum0 ∧
    decodeTableWord 48 0x3407C00001A1 = some .sha512sum1 := by
  decide

/-- Words of table rows 126 to 137 (spec/opcode_table.json). -/
theorem test_decode_average_index_move_1 :
    decodeTableWord 48 0x401F22CE43A9 = some (.ptrdif ⟨.tetra, 0#4, true, 60#6, true, 5#6, true, 14#6, false, 33#6⟩) ∧
    decodeTableWord 48 0x413BB421EBAD = some (.avgTrunc ⟨.octa, 9#4, true, 46#6, true, 40#6, false, 33#6, true, 53#6⟩) ∧
    decodeTableWord 48 0x4044EC76F3A9 = some (.avgRound ⟨.tetra, 2#4, false, 19#6, true, 24#6, true, 54#6, true, 57#6⟩) ∧
    decodeTableWord 48 0x42927151BFA1 = some (.mux ⟨.byte, 4#4, true, 9#6, true, 34#6, true, 17#6, true, 31#6⟩) ∧
    decodeTableWord 48 0x44C011204DAD = some (.bmm ⟨3#3, false, 34#6, false, 32#6, false, 38#6⟩) ∧
    decodeTableWord 48 0x4710BD22C9AD = some (.bmap ⟨.octa, 8#4, true, 2#6, true, 58#6, false, 34#6, true, 36#6⟩) ∧
    decodeTableWord 48 0x4A45E53BBBAD = some (.bytendx ⟨.octa, false, 1#2, 23#8, true, 10#6, false, 59#6, true, 29#6⟩) ∧
    decodeTableWord 48 0x4CFD3D913DAD = some (.wydendx ⟨.octa, false, 3#2, 244#8, true, 59#6, false, 17#6, false, 30#6⟩) ∧
    decodeTableWord 48 0x4E159CFBF5AD = some (.tetrandx ⟨.octa, false, 0#2, 86#8, false, 57#6, true, 59#6, true, 58#6⟩) ∧
    decodeTableWord 48 0xC088431A83AD = some (.cmoveq ⟨.octa, 4#4, false, 33#6, false, 6#6, false, 26#6, true, 1#6⟩) ∧
    decodeTableWord 48 0xC34B3F0213A1 = some (.cmovne ⟨.byte, 10#4, false, 44#6, true, 62#6, false, 2#6, false, 9#6⟩) ∧
    decodeTableWord 48 0xC5652B270DA5 = some (.cmovlt ⟨.wyde, 11#4, false, 20#6, true, 22#6, false, 39#6, false, 6#6⟩) := by
  decide

/-- Words of table rows 138 to 138 (spec/opcode_table.json). -/
theorem test_decode_average_index_move_2 :
    decodeTableWord 48 0xC711F05099A9 = some (.cmovle ⟨.tetra, 8#4, true, 7#6, true, 32#6, true, 16#6, true, 12#6⟩) := by
  decide

/-- Words of table rows 139 to 150 (spec/opcode_table.json). -/
theorem test_decode_map_names_1 :
    decodeTableWord 48 0x1000000001A1 = some .nand ∧
    decodeTableWord 48 0x1200000001A1 = some .nor ∧
    decodeTableWord 48 0x1400000001A1 = some .enor ∧
    decodeTableWord 48 0x1600000001A1 = some .cmovnz ∧
    decodeTableWord 48 0x2C00000001A1 = some .divsu ∧
    decodeTableWord 48 0x3000000001A1 = some .mulw ∧
    decodeTableWord 48 0x3600000001A1 = some .muluw ∧
    decodeTableWord 48 0x3A00000001A1 = some .mulsuw ∧
    decodeTableWord 48 0x3C00000001A1 = some .modsu ∧
    decodeTableWord 48 0xAE00000001A1 = some .divmod ∧
    decodeTableWord 48 0xBE00000001A1 = some .divmodu ∧
    decodeTableWord 48 0x4800000001A1 = some .dif := by
  decide

/-- Words of table rows 151 to 162 (spec/opcode_table.json). -/
theorem test_decode_map_names_2 :
    decodeTableWord 48 0x5000000001A1 = some .nnamtwt ∧
    decodeTableWord 48 0x5200000001A1 = some .nnamtin ∧
    decodeTableWord 48 0x5400000001A1 = some .nnamtbias ∧
    decodeTableWord 48 0x5600000001A1 = some .nnamtfb ∧
    decodeTableWord 48 0x5800000001A1 = some .nnamtmc ∧
    decodeTableWord 48 0x5A00000001A1 = some .nnamtbc ∧
    decodeTableWord 48 0x6000000001A1 = some .v2bits ∧
    decodeTableWord 48 0x6200000001A1 = some .bits2v ∧
    decodeTableWord 48 0x6400000001A1 = some .vex ∧
    decodeTableWord 48 0x6600000001A1 = some .veins ∧
    decodeTableWord 48 0x6800000001A1 = some .vgndx ∧
    decodeTableWord 48 0x6C00000001A1 = some .vshlv := by
  decide

/-- Words of table rows 163 to 172 (spec/opcode_table.json). -/
theorem test_decode_map_names_3 :
    decodeTableWord 48 0x6E00000001A1 = some .vshrv ∧
    decodeTableWord 48 0x7400000001A1 = some .vsetmask ∧
    decodeTableWord 48 0x7C00000001A1 = some .vshlvi ∧
    decodeTableWord 48 0x7E00000001A1 = some .vshrvi ∧
    decodeTableWord 48 0x8000000001A1 = some .aes64k1i ∧
    decodeTableWord 48 0x8200000001A1 = some .aes64ks2 ∧
    decodeTableWord 48 0x8400000001A1 = some .sm4ed ∧
    decodeTableWord 48 0x8600000001A1 = some .sm4ks ∧
    decodeTableWord 48 0x8C00000001A1 = some .clmul ∧
    decodeTableWord 48 0xFE00000001A1 = some .mvvr := by
  decide

/-- Words of table rows 173 to 184 (spec/opcode_table.json). -/
theorem test_decode_set_family_1 :
    decodeTableWord 48 0xA1C05434CFA1 = some (.seq ⟨.byte, 14#4, false, 1#6, false, 40#6, false, 52#6, true, 39#6⟩) ∧
    decodeTableWord 48 0xA30DF14D9BAD = some (.sne ⟨.octa, 8#4, false, 55#6, true, 34#6, true, 13#6, true, 13#6⟩) ∧
    decodeTableWord 48 0xA519643AD1AD = some (.slt ⟨.octa, 8#4, true, 37#6, true, 8#6, false, 58#6, true, 40#6⟩) ∧
    decodeTableWord 48 0xA6B2D33999A1 = some (.sle ⟨.byte, 5#4, true, 11#6, false, 38#6, false, 57#6, true, 12#6⟩) ∧
    decodeTableWord 48 0xA993233811A9 = some (.sltu ⟨.tetra, 12#4, true, 12#6, true, 6#6, false, 56#6, false, 8#6⟩) ∧
    decodeTableWord 48 0xAA260DFC45AD = some (.sleu ⟨.octa, 1#4, false, 24#6, false, 27#6, true, 60#6, false, 34#6⟩) ∧
    decodeTableWord 48 0xC96314730DA1 = some (.sltuCode100 ⟨.byte, 11#4, false, 12#6, false, 40#6, true, 51#6, false, 6#6⟩) ∧
    decodeTableWord 48 0xCB35BA575BA9 = some (.sleuCode101 ⟨.tetra, 9#4, true, 22#6, true, 52#6, true, 23#6, false, 45#6⟩) ∧
    decodeTableWord 48 0xE15575CC89A5 = some (.zseq ⟨.wyde, 10#4, true, 21#6, true, 43#6, true, 12#6, true, 4#6⟩) ∧
    decodeTableWord 48 0xE220B1E0C9A5 = some (.zsne ⟨.wyde, 1#4, false, 2#6, true, 35#6, true, 32#6, true, 36#6⟩) ∧
    decodeTableWord 48 0xE442C6B525AD = some (.zslt ⟨.octa, 2#4, false, 11#6, false, 13#6, false, 53#6, false, 18#6⟩) ∧
    decodeTableWord 48 0xE749446B09AD = some (.zsle ⟨.octa, 10#4, false, 37#6, false, 8#6, true, 43#6, false, 4#6⟩) := by
  decide

/-- Words of table rows 185 to 192 (spec/opcode_table.json). -/
theorem test_decode_set_family_2 :
    decodeTableWord 48 0xE8264DD61BA9 = some (.zsltu ⟨.tetra, 1#4, false, 25#6, false, 27#6, true, 22#6, false, 13#6⟩) ∧
    decodeTableWord 48 0xEAAA214C35A5 = some (.zsleu ⟨.wyde, 5#4, false, 40#6, true, 2#6, true, 12#6, false, 26#6⟩) ∧
    decodeTableWord 48 0xF0B5DD260DA9 = some (.zseqCode120 ⟨.tetra, 5#4, true, 23#6, false, 58#6, false, 38#6, false, 6#6⟩) ∧
    decodeTableWord 48 0xF38522F5F1AD = some (.zsneCode121 ⟨.octa, 12#4, false, 20#6, true, 5#6, true, 53#6, true, 56#6⟩) ∧
    decodeTableWord 48 0xF5DF124CCBAD = some (.zsltCode122 ⟨.octa, 14#4, true, 60#6, false, 36#6, true, 12#6, true, 37#6⟩) ∧
    decodeTableWord 48 0xF6BC08C7DFAD = some (.zsleCode123 ⟨.octa, 5#4, true, 48#6, false, 17#6, true, 7#6, true, 47#6⟩) ∧
    decodeTableWord 48 0xF85EC455C5A9 = some (.zsltuCode124 ⟨.tetra, 2#4, true, 59#6, false, 8#6, true, 21#6, true, 34#6⟩) ∧
    decodeTableWord 48 0xFAB6E58D97A1 = some (.zsleuCode125 ⟨.byte, 5#4, true, 27#6, true, 11#6, false, 13#6, true, 11#6⟩) := by
  decide

/-- Words of table rows 193 to 204 (spec/opcode_table.json). -/
theorem test_decode_shift_1 :
    decodeTableWord 48 0x804C338514D = some (.sllp ⟨.octa, true, false, 19#6, false, 6#6, false, 56#6, false, 40#6⟩) ∧
    decodeTableWord 48 0x1010C8FDA745 = some (.srlp ⟨.wyde, true, 3#6, false, 17#6, true, 61#6, true, 19#6⟩) ∧
    decodeTableWord 48 0x200A92223149 = some (.srap ⟨.tetra, false, 42#6, false, 36#6, false, 34#6, false, 24#6⟩) ∧
    decodeTableWord 48 0x3017E6C7B34D = some (.sraprz ⟨.octa, true, 31#6, true, 13#6, true, 7#6, true, 25#6⟩) ∧
    decodeTableWord 48 0x401053AF2145 = some (.srapru ⟨.wyde, true, 1#6, false, 39#6, false, 47#6, false, 16#6⟩) ∧
    decodeTableWord 48 0x500818290D45 = some (.dep ⟨.wyde, false, 32#6, false, 48#6, false, 41#6, false, 6#6⟩) ∧
    decodeTableWord 48 0x60046AE2B54D = some (.depxor ⟨.octa, false, 17#6, true, 21#6, true, 34#6, true, 26#6⟩) ∧
    decodeTableWord 48 0x700000000141 = some .reservedFunc4x7 ∧
    decodeTableWord 48 0x8812235CD341 = some (.sllpi ⟨.byte, true, 72#7, true, 6#6, true, 28#6, true, 41#6⟩) ∧
    decodeTableWord 48 0x98D33842774D = some (.srlpi ⟨.octa, 70#7, 76#7, true, 48#6, true, 2#6, false, 59#6⟩) ∧
    decodeTableWord 48 0xA28C5F364549 = some (.srapi ⟨.tetra, 20#7, 49#7, false, 62#6, false, 54#6, false, 34#6⟩) ∧
    decodeTableWord 48 0xB981DE1A4345 = some (.sraprzi ⟨.wyde, 76#7, 7#7, false, 60#6, false, 26#6, false, 33#6⟩) := by
  decide

/-- Words of table rows 205 to 208 (spec/opcode_table.json). -/
theorem test_decode_shift_2 :
    decodeTableWord 48 0xC989D09EA349 = some (.sraprui ⟨.tetra, 76#7, 39#7, false, 33#6, false, 30#6, true, 17#6⟩) ∧
    decodeTableWord 48 0xDEC936D26341 = some (.depi ⟨.byte, 118#7, 36#7, true, 45#6, true, 18#6, false, 49#6⟩) ∧
    decodeTableWord 48 0xE9416530B141 = some (.depxori ⟨.byte, 74#7, 5#7, true, 10#6, false, 48#6, true, 24#6⟩) ∧
    decodeTableWord 48 0xF00000000141 = some .reservedFunc4x15 := by
  decide

/-- Words of table rows 209 to 220 (spec/opcode_table.json). -/
theorem test_decode_float_1 :
    decodeTableWord 48 0x2E52CA5DCED = some (.fma ⟨.double, 7#3, 20#6, true, 25#6, false, 37#6, true, 46#6⟩) ∧
    decodeTableWord 48 0x2513C9BBCE5 = some (.fms ⟨.half, 2#3, 4#6, true, 57#6, false, 27#6, true, 30#6⟩) ∧
    decodeTableWord 48 0x8E018028CED = some (.fadd ⟨.double, 7#3, 48#6, false, 2#6, true, 6#6⟩) ∧
    decodeTableWord 48 0x8C0375D7CED = some (.fsub ⟨.double, 6#3, 46#6, true, 29#6, false, 62#6⟩) ∧
    decodeTableWord 48 0x12C013474EE5 = some (.fsne ⟨.half, false, 38#6, true, 7#6, false, 39#6⟩) ∧
    decodeTableWord 48 0x146006C342E5 = some (.fslt ⟨.half, false, 13#6, true, 3#6, false, 33#6⟩) ∧
    decodeTableWord 48 0x1A000E2A3AED = some (.fcmp ⟨.double, false, 28#6, false, 42#6, false, 29#6⟩) ∧
    decodeTableWord 48 0x4040006556E5 = some (.fabs ⟨.half, true, 37#6, 43#6⟩) ∧
    decodeTableWord 48 0x4040006FC2ED = some (.fnabs ⟨.double, true, 47#6, 33#6⟩) ∧
    decodeTableWord 48 0x4800000000E5 = some .fconst ∧
    decodeTableWord 48 0x50E0003C5CE5 = some (.fsqrt ⟨.half, 7#3, false, 60#6, false, 46#6⟩) ∧
    decodeTableWord 48 0x6A200007F2E5 = some (.ftrunc ⟨.half, 1#3, false, 7#6, true, 57#6⟩) := by
  decide

/-- Words of table rows 221 to 232 (spec/opcode_table.json). -/
theorem test_decode_float_2 :
    decodeTableWord 48 0x82C0C067ACE5 = some (.fcos ⟨.half, 6#3, 3#3, true, 39#6, true, 22#6⟩) ∧
    decodeTableWord 48 0xE5 = some .fnop ∧
    decodeTableWord 48 0x400000000E5 = some .fmin ∧
    decodeTableWord 48 0x600000000E5 = some .fmax ∧
    decodeTableWord 48 0xA00000000E5 = some .fsubCode5 ∧
    decodeTableWord 48 0xC00000000E5 = some .fmul ∧
    decodeTableWord 48 0xE00000000E5 = some .fdiv ∧
    decodeTableWord 48 0x1000000000E5 = some .fseq ∧
    decodeTableWord 48 0x1600000000E5 = some .fsle ∧
    decodeTableWord 48 0x1C00000000E5 = some .fnxt ∧
    decodeTableWord 48 0x1E00000000E5 = some .frem ∧
    decodeTableWord 48 0x2000000000E5 = some .fsgnj := by
  decide

/-- Words of table rows 233 to 244 (spec/opcode_table.json). -/
theorem test_decode_float_3 :
    decodeTableWord 48 0x2200000000E5 = some .fsgnjn ∧
    decodeTableWord 48 0x2400000000E5 = some .fsgnjx ∧
    decodeTableWord 48 0x2800000000E5 = some .fscaleb ∧
    decodeTableWord 48 0x4200000000E5 = some .fneg ∧
    decodeTableWord 48 0x4400000000E5 = some .ftoi ∧
    decodeTableWord 48 0x4600000000E5 = some .itof ∧
    decodeTableWord 48 0x4C00000000E5 = some .fsign ∧
    decodeTableWord 48 0x4E00000000E5 = some .fsig ∧
    decodeTableWord 48 0x5200000000E5 = some .fcvts2d ∧
    decodeTableWord 48 0x5400000000E5 = some .fcvts2q ∧
    decodeTableWord 48 0x5600000000E5 = some .fcvtd2q ∧
    decodeTableWord 48 0x5800000000E5 = some .fcvth2s := by
  decide

/-- Words of table rows 245 to 256 (spec/opcode_table.json). -/
theorem test_decode_float_4 :
    decodeTableWord 48 0x5A00000000E5 = some .fcvth2d ∧
    decodeTableWord 48 0x5C00000000E5 = some .isnan ∧
    decodeTableWord 48 0x5E00000000E5 = some .finite ∧
    decodeTableWord 48 0x6000000000E5 = some .fcvtq2h ∧
    decodeTableWord 48 0x6200000000E5 = some .fcvtq2s ∧
    decodeTableWord 48 0x6400000000E5 = some .fcvtq2d ∧
    decodeTableWord 48 0x6800000000E5 = some .fcvth2q ∧
    decodeTableWord 48 0x6C00000000E5 = some .frsqrt ∧
    decodeTableWord 48 0x6E00000000E5 = some .fres ∧
    decodeTableWord 48 0x7200000000E5 = some .fcvtd2s ∧
    decodeTableWord 48 0x7C00000000E5 = some .fclass ∧
    decodeTableWord 48 0x8000000000E5 = some .fsin := by
  decide

/-- Words of table rows 257 to 259 (spec/opcode_table.json). -/
theorem test_decode_float_5 :
    decodeTableWord 48 0x8400000000E5 = some .ftan ∧
    decodeTableWord 48 0x9400000000E5 = some .fatan ∧
    decodeTableWord 48 0xA000000000E5 = some .fsigmoid := by
  decide

/-- Words of table rows 260 to 271 (spec/opcode_table.json). -/
theorem test_decode_load_store_1 :
    decodeTableWord 48 0x458125774B01 = some (.ldb ⟨.d16 17793#16, 4#3, 43#6, 46#6, 37#6⟩) ∧
    decodeTableWord 48 0xB2F461942501 = some (.ldw ⟨.d16 45812#16, 4#3, 12#6, 40#6, 18#6⟩) ∧
    decodeTableWord 48 0xC0DB899E2101 = some (.ldt ⟨.d16 49371#16, 1#3, 12#6, 60#6, 16#6⟩) ∧
    decodeTableWord 48 0x808CFD3D1B01 = some (.ldo ⟨.d16 32908#16, 7#3, 41#6, 58#6, 13#6⟩) ∧
    decodeTableWord 24 0xE54300 = some (.ldo24 ⟨28#5, 21#5, 1#5⟩) ∧
    decodeTableWord 48 0xA0DF02283905 = some (.ldbu ⟨.d16 41183#16, 0#3, 17#6, 16#6, 28#6⟩) ∧
    decodeTableWord 48 0x6E360431F05 = some (.ldwu ⟨.d16 1763#16, 4#3, 2#6, 6#6, 15#6⟩) ∧
    decodeTableWord 48 0x8AA990980D05 = some (.ldtu ⟨.d16 35497#16, 2#3, 4#6, 48#6, 6#6⟩) ∧
    decodeTableWord 48 0xC0000105 = some .reservedLd65x3 ∧
    decodeTableWord 48 0xE9B26951A109 = some (.fldh ⟨.d16 59826#16, 5#3, 10#6, 35#6, 16#6⟩) ∧
    decodeTableWord 48 0xA190BAEF3F09 = some (.flds ⟨.d16 41360#16, 7#3, 23#6, 30#6, 31#6⟩) ∧
    decodeTableWord 48 0x5AA6CAAAC109 = some (.fldd ⟨.d16 23206#16, 1#3, 21#6, 21#6, 32#6⟩) := by
  decide

/-- Words of table rows 272 to 283 (spec/opcode_table.json). -/
theorem test_decode_load_store_2 :
    decodeTableWord 48 0x10D = some .dfldd ∧
    decodeTableWord 48 0x4000010D = some .dfldq ∧
    decodeTableWord 48 0x40000111 = some .pldw ∧
    decodeTableWord 48 0x80000111 = some .pldt ∧
    decodeTableWord 48 0xC0000111 = some .pldo ∧
    decodeTableWord 48 0xBEAC0EBB8915 = some (.ldcapd ⟨.d16 48812#16, 1#3, 53#6, 55#6, 4#6⟩) ∧
    decodeTableWord 48 0x40000115 = some .ldcapq ∧
    decodeTableWord 48 0xCD60C399EB19 = some (.cache ⟨.d16 52576#16, 0#3, 28#6, 51#6, 53#6⟩) ∧
    decodeTableWord 48 0x9FAC36389B21 = some (.stb ⟨.d16 40876#16, 6#3, 49#6, 49#6, 13#6⟩) ∧
    decodeTableWord 48 0x71C05DE83121 = some (.stw ⟨.d16 29120#16, 3#3, 47#6, 16#6, 24#6⟩) ∧
    decodeTableWord 48 0xCF548AE4D321 = some (.stt ⟨.d16 53076#16, 1#3, 23#6, 9#6, 41#6⟩) ∧
    decodeTableWord 48 0xD61AFCCA2521 = some (.sto ⟨.d16 54810#16, 7#3, 38#6, 20#6, 18#6⟩) := by
  decide

/-- Words of table rows 284 to 295 (spec/opcode_table.json). -/
theorem test_decode_load_store_3 :
    decodeTableWord 24 0x8E2F20 = some (.sto24 ⟨17#5, 24#5, 23#5⟩) ∧
    decodeTableWord 48 0xD37F396DD325 = some (.stib ⟨.d16 54143#16, 7#3, 11#6, 27#6, 41#6⟩) ∧
    decodeTableWord 48 0x5E8760CEF125 = some (.stiw ⟨.d16 24199#16, 4#3, 6#6, 29#6, 56#6⟩) ∧
    decodeTableWord 48 0x52FB8442B725 = some (.stit ⟨.d16 21243#16, 0#3, 34#6, 5#6, 27#6⟩) ∧
    decodeTableWord 48 0x9070E3FA5725 = some (.stio ⟨.d16 36976#16, 4#3, 31#6, 52#6, 43#6⟩) ∧
    decodeTableWord 48 0x76A856988929 = some (.fsth ⟨.d16 30376#16, 2#3, 52#6, 49#6, 4#6⟩) ∧
    decodeTableWord 48 0x4F658F554D29 = some (.fsts ⟨.d16 20325#16, 1#3, 58#6, 42#6, 38#6⟩) ∧
    decodeTableWord 48 0x14EAEA6FDD29 = some (.fstd ⟨.d16 5354#16, 5#3, 19#6, 31#6, 46#6⟩) ∧
    decodeTableWord 48 0xC000012D = some .dfstd ∧
    decodeTableWord 48 0x40000131 = some .pstw ∧
    decodeTableWord 48 0x80000131 = some .pstt ∧
    decodeTableWord 48 0xC0000131 = some .psto := by
  decide

/-- Words of table rows 296 to 301 (spec/opcode_table.json). -/
theorem test_decode_load_store_4 :
    decodeTableWord 48 0xC39F2A897135 = some (.stcapd ⟨.d16 50079#16, 5#3, 20#6, 18#6, 56#6⟩) ∧
    decodeTableWord 48 0x40000135 = some .stcapq ∧
    decodeTableWord 48 0x139 = some .stptrt ∧
    decodeTableWord 48 0x24964AD55D39 = some (.stptr ⟨.d16 9366#16, 1#3, 22#6, 42#6, 46#6⟩) ∧
    decodeTableWord 24 0x52FB38 = some (.stptr24 ⟨10#5, 11#5, 29#5⟩) ∧
    decodeTableWord 48 0x1E0C15AE4B61 = some (.loada ⟨.d16 7692#16, 2#3, 45#6, 28#6, 37#6⟩) := by
  decide

/-- Words of table rows 302 to 313 (spec/opcode_table.json). -/
theorem test_decode_branch_low_1 :
    decodeTableWord 48 0xBAC9A1CF80A1 = some (.beq ⟨2#2, 1926352#21, 57#6, 60#6⟩) ∧
    decodeTableWord 48 0x8000748B80C1 = some (.beqReg ⟨2#2, 0#15, 58#6, 17#6, 28#6⟩) ∧
    decodeTableWord 48 0xB365289BA2A1 = some (.bne ⟨2#2, 1684116#21, 19#6, 29#6⟩) ∧
    decodeTableWord 48 0x40001CCFA2C1 = some (.bneReg ⟨1#2, 0#15, 14#6, 25#6, 61#6⟩) ∧
    decodeTableWord 48 0xEEB4D7CC24A1 = some (.bltu ⟨3#2, 1530475#21, 57#6, 33#6⟩) ∧
    decodeTableWord 48 0xABEA4C1 = some (.bltuReg ⟨0#2, 0#15, 5#6, 23#6, 53#6⟩) ∧
    decodeTableWord 48 0x418B22BD66A1 = some (.bleu ⟨1#2, 50577#21, 23#6, 43#6⟩) ∧
    decodeTableWord 48 0x40004AC646C1 = some (.bleuReg ⟨1#2, 0#15, 37#6, 24#6, 50#6⟩) ∧
    decodeTableWord 48 0x2F490722E8A1 = some (.bgeu ⟨0#2, 1549443#21, 36#6, 23#6⟩) ∧
    decodeTableWord 48 0xC000311128C1 = some (.bgeuReg ⟨3#2, 0#15, 24#6, 34#6, 9#6⟩) ∧
    decodeTableWord 48 0xE5D543216AA1 = some (.bgtu ⟨3#2, 1239713#21, 36#6, 11#6⟩) ∧
    decodeTableWord 48 0xB83AAC1 = some (.bgtuReg ⟨0#2, 0#15, 5#6, 48#6, 29#6⟩) := by
  decide

/-- Words of table rows 314 to 325 (spec/opcode_table.json). -/
theorem test_decode_branch_low_2 :
    decodeTableWord 48 0xF6B39C966CA1 = some (.bbc ⟨3#2, 1792462#21, 18#6, 51#6⟩) ∧
    decodeTableWord 48 0x1D086CC1 = some (.bbcReg ⟨0#2, 0#15, 14#6, 33#6, 3#6⟩) ∧
    decodeTableWord 48 0x8A27E1224EA1 = some (.bbs ⟨2#2, 332784#21, 36#6, 18#6⟩) ∧
    decodeTableWord 48 0xC000034EAEC1 = some (.bbsReg ⟨3#2, 0#15, 1#6, 41#6, 53#6⟩) ∧
    decodeTableWord 48 0xDB0E4024B0A1 = some (.bbcImm ⟨3#2, 886560#21, 4#6, 37#6⟩) ∧
    decodeTableWord 48 0x8000279450C1 = some (.bbcImmReg ⟨2#2, 0#15, 19#6, 50#6, 34#6⟩) ∧
    decodeTableWord 48 0x1568CA2A32A1 = some (.bbsImm ⟨0#2, 701541#21, 5#6, 17#6⟩) ∧
    decodeTableWord 48 0x80000DCA92C1 = some (.bbsImmReg ⟨2#2, 0#15, 6#6, 57#6, 20#6⟩) ∧
    decodeTableWord 48 0x1A9534534A1 = some (.bnandb ⟨0#2, 54441#21, 40#6, 41#6⟩) ∧
    decodeTableWord 48 0xD7E94C1 = some (.bnandbReg ⟨0#2, 0#15, 6#6, 47#6, 52#6⟩) ∧
    decodeTableWord 48 0x9B02E67DB6A1 = some (.bandb ⟨2#2, 885107#21, 15#6, 45#6⟩) ∧
    decodeTableWord 48 0x3F8756C1 = some (.bandbReg ⟨0#2, 0#15, 31#6, 48#6, 58#6⟩) := by
  decide

/-- Words of table rows 326 to 337 (spec/opcode_table.json). -/
theorem test_decode_branch_low_3 :
    decodeTableWord 48 0x95A48D83B8A1 = some (.bnorb ⟨2#2, 709190#21, 48#6, 29#6⟩) ∧
    decodeTableWord 48 0x40002CAE78C1 = some (.bnorbReg ⟨1#2, 0#15, 22#6, 21#6, 51#6⟩) ∧
    decodeTableWord 48 0xD54F53591AA1 = some (.borb ⟨3#2, 698281#21, 43#6, 8#6⟩) ∧
    decodeTableWord 48 0x40003F167AC1 = some (.borbReg ⟨1#2, 0#15, 31#6, 34#6, 51#6⟩) ∧
    decodeTableWord 48 0x1CA1 = some .reservedBcc40x14 ∧
    decodeTableWord 48 0x1CC1 = some .reservedBcc48x14 ∧
    decodeTableWord 48 0x1EA1 = some .irq40 ∧
    decodeTableWord 48 0x1EC1 = some .irq48 ∧
    decodeTableWord 48 0x84A3536CE0A5 = some (.benor ⟨2#2, 151977#21, 45#6, 39#6⟩) ∧
    decodeTableWord 48 0xC00004D600C5 = some (.benorReg ⟨3#2, 0#15, 2#6, 26#6, 48#6⟩) ∧
    decodeTableWord 48 0xFF15A952C2A5 = some (.beor ⟨3#2, 2067156#21, 42#6, 22#6⟩) ∧
    decodeTableWord 48 0xC00066C6A2C5 = some (.beorReg ⟨3#2, 0#15, 51#6, 24#6, 53#6⟩) := by
  decide

/-- Words of table rows 338 to 349 (spec/opcode_table.json). -/
theorem test_decode_branch_high_1 :
    decodeTableWord 48 0x38DF96EFA4A5 = some (.blt ⟨0#2, 1863627#21, 29#6, 61#6⟩) ∧
    decodeTableWord 48 0x8000500C24C5 = some (.bltReg ⟨2#2, 0#15, 40#6, 1#6, 33#6⟩) ∧
    decodeTableWord 48 0x6D720F98E6A5 = some (.ble ⟨1#2, 1489159#21, 51#6, 7#6⟩) ∧
    decodeTableWord 48 0x400076D746C5 = some (.bleReg ⟨1#2, 0#15, 59#6, 26#6, 58#6⟩) ∧
    decodeTableWord 48 0xFB9E17948A5 = some (.bge ⟨0#2, 515312#21, 47#6, 10#6⟩) ∧
    decodeTableWord 48 0xC00050C568C5 = some (.bgeReg ⟨3#2, 0#15, 40#6, 24#6, 43#6⟩) ∧
    decodeTableWord 48 0x14894A6B0AA5 = some (.bgt ⟨0#2, 672933#21, 13#6, 24#6⟩) ∧
    decodeTableWord 48 0x400042922AC5 = some (.bgtReg ⟨1#2, 0#15, 33#6, 18#6, 17#6⟩) ∧
    decodeTableWord 48 0xF8B5A61BD4A5 = some (.bnand ⟨3#2, 1858259#21, 3#6, 30#6⟩) ∧
    decodeTableWord 48 0x40005C3A74C5 = some (.bnandReg ⟨1#2, 0#15, 46#6, 7#6, 19#6⟩) ∧
    decodeTableWord 48 0x89F3F78F56A5 = some (.band ⟨2#2, 326139#21, 49#6, 58#6⟩) ∧
    decodeTableWord 48 0x741E16C5 = some (.bandReg ⟨0#2, 0#15, 58#6, 3#6, 48#6⟩) := by
  decide

/-- Words of table rows 350 to 361 (spec/opcode_table.json). -/
theorem test_decode_branch_high_2 :
    decodeTableWord 48 0x4119512BD8A5 = some (.bnor ⟨1#2, 36008#21, 37#6, 30#6⟩) ∧
    decodeTableWord 48 0xC000661298C5 = some (.bnorReg ⟨3#2, 0#15, 51#6, 2#6, 20#6⟩) ∧
    decodeTableWord 48 0xCA5E05ADAA5 = some (.bor ⟨0#2, 414448#21, 11#6, 22#6⟩) ∧
    decodeTableWord 48 0x4A7CDAC5 = some (.borReg ⟨0#2, 0#15, 37#6, 15#6, 38#6⟩) ∧
    decodeTableWord 48 0x1EA5 = some .irq41 ∧
    decodeTableWord 48 0x1EC5 = some .irq49 ∧
    decodeTableWord 48 0xCA5 = some .reservedBcc41x6 ∧
    decodeTableWord 48 0xCC5 = some .reservedBcc49x6 ∧
    decodeTableWord 48 0xEA5 = some .reservedBcc41x7 ∧
    decodeTableWord 48 0xEC5 = some .reservedBcc49x7 ∧
    decodeTableWord 48 0x10A5 = some .reservedBcc41x8 ∧
    decodeTableWord 48 0x10C5 = some .reservedBcc49x8 := by
  decide

/-- Words of table rows 362 to 373 (spec/opcode_table.json). -/
theorem test_decode_branch_high_3 :
    decodeTableWord 48 0x12A5 = some .reservedBcc41x9 ∧
    decodeTableWord 48 0x12C5 = some .reservedBcc49x9 ∧
    decodeTableWord 48 0x1CA5 = some .reservedBcc41x14 ∧
    decodeTableWord 48 0x1CC5 = some .reservedBcc49x14 ∧
    decodeTableWord 48 0x9E33D13406A9 = some (.fbcc ⟨2#2, 989672#21, 38#6, 32#6, 3#4⟩) ∧
    decodeTableWord 48 0x4BD6F28B24C9 = some (.fbccReg ⟨1#2, 6061#15, 57#6, 17#6, 25#6, 2#4⟩) ∧
    decodeTableWord 48 0xAD = some .dfbcc ∧
    decodeTableWord 48 0xCD = some .dfbccReg ∧
    decodeTableWord 48 0xB1 = some .pbcc ∧
    decodeTableWord 48 0xD1 = some .pbccReg ∧
    decodeTableWord 48 0xB5 = some .cbcc ∧
    decodeTableWord 48 0xD5 = some .cbccReg := by
  decide

/-- Words of table rows 374 to 377 (spec/opcode_table.json). -/
theorem test_decode_branch_high_4 :
    decodeTableWord 48 0xF07AF1DA62B9 = some (.ibne ⟨3#2, 1588600#21, 59#6, 19#6⟩) ∧
    decodeTableWord 48 0x800047E682D9 = some (.ibneReg ⟨2#2, 0#15, 35#6, 60#6, 52#6⟩) ∧
    decodeTableWord 48 0x9EAFFBB202BD = some (.dbne ⟨2#2, 1005565#21, 54#6, 16#6⟩) ∧
    decodeTableWord 48 0x400070CF42DD = some (.dbneReg ⟨1#2, 0#15, 56#6, 25#6, 58#6⟩) := by
  decide

/-- Words of table rows 378 to 389 (spec/opcode_table.json). -/
theorem test_decode_jump_1 :
    decodeTableWord 48 0x57A5443CA881 = some (.bra 47054358421#37) ∧
    decodeTableWord 48 0x8D483141FA81 = some (.bsr ⟨75850197055#37, 1#2⟩) ∧
    decodeTableWord 48 0xDBDC64756085 = some (.jmpDirect 118036926124#37) ∧
    decodeTableWord 48 0x61C49E653A85 = some (.jsrDirect ⟨52488817831#37, 1#2⟩) ∧
    decodeTableWord 48 0x37A8CE798091 = some (.jmpIndirect ⟨.d16 14248#16, 3#2, 1#3, 51#6, 51#6⟩) ∧
    decodeTableWord 48 0x628DE650E491 = some (.jsrIndirect ⟨.d16 25229#16, 3#2, 4#3, 50#6, 33#6, 50#6⟩) ∧
    decodeTableWord 48 0x464830750099 = some (.jmpScaled ⟨.d16 17992#16, 6#3, 3#6, 42#6⟩) ∧
    decodeTableWord 48 0xEC9C0F3BBE99 = some (.jsrScaled ⟨.d16 60572#16, 1#3, 57#6, 55#6, 31#6⟩) ∧
    decodeTableWord 48 0x88 = some .cjmp34 ∧
    decodeTableWord 48 0x94 = some .cjmp37 ∧
    decodeTableWord 48 0x9C = some .cjmp39 ∧
    decodeTableWord 24 0xE2CE8C = some (.ret (.short ⟨28#5, 11#5, 7#4⟩)) := by
  decide

/-- Words of table rows 390 to 393 (spec/opcode_table.json). -/
theorem test_decode_jump_2 :
    decodeTableWord 48 0xCBF9502D0C8D = some (.ret (.long ⟨.i23 6683816#23, false, 45#6, 6#4⟩)) ∧
    decodeTableWord 24 0x8328C = some (.rte 9#4) ∧
    decodeTableWord 24 0x103A8C = some (.rte2 13#4) ∧
    decodeTableWord 24 0x1FC = some .nop := by
  decide

/-- Words of table rows 394 to 405 (spec/opcode_table.json). -/
theorem test_decode_capability_1 :
    decodeTableWord 48 0x40000D311205 = some (.cAndPerm ⟨false, 26#6, false, 49#6, false, 9#6⟩) ∧
    decodeTableWord 48 0x6084D377C205 = some (.cAndPermi ⟨68006#18, true, 55#6, true, 33#6⟩) ∧
    decodeTableWord 48 0x420004285E05 = some (.cBuildCap ⟨8#6, 40#6, 47#6⟩) ∧
    decodeTableWord 48 0x800000272205 = some (.cClearTag ⟨39#6, 17#6⟩) ∧
    decodeTableWord 48 0x580010A20605 = some (.cCmp ⟨33#6, 34#6, 3#6⟩) ∧
    decodeTableWord 48 0x100000000005 = some .cRetd ∧
    decodeTableWord 48 0x180000000005 = some .cInvoke ∧
    decodeTableWord 48 0x440000000005 = some .cCopyType ∧
    decodeTableWord 48 0x460000000005 = some .cIncOffs ∧
    decodeTableWord 48 0x480000000005 = some .cSeal ∧
    decodeTableWord 48 0x4A0000000005 = some .cSetAddr ∧
    decodeTableWord 48 0x4C0000000005 = some .cSetBounds := by
  decide

/-- Words of table rows 406 to 417 (spec/opcode_table.json). -/
theorem test_decode_capability_2 :
    decodeTableWord 48 0x4E0000000005 = some .cSetFlags ∧
    decodeTableWord 48 0x500000000005 = some .cSetHigh ∧
    decodeTableWord 48 0x520000000005 = some .cSetOffs ∧
    decodeTableWord 48 0x540000000005 = some .cSpeicalRW ∧
    decodeTableWord 48 0x560000000005 = some .cUnseal ∧
    decodeTableWord 48 0x820000000005 = some .cGetFlags ∧
    decodeTableWord 48 0x840000000005 = some .cGetHigh ∧
    decodeTableWord 48 0x860000000005 = some .cGetLen ∧
    decodeTableWord 48 0x880000000005 = some .cGetOffs ∧
    decodeTableWord 48 0x8A0000000005 = some .cGetPerms ∧
    decodeTableWord 48 0x8C0000000005 = some .cGetTag ∧
    decodeTableWord 48 0x8E0000000005 = some .cGetTop := by
  decide

/-- Words of table rows 418 to 423 (spec/opcode_table.json). -/
theorem test_decode_capability_3 :
    decodeTableWord 48 0x900000000005 = some .cGetType ∧
    decodeTableWord 48 0x920000000005 = some .cLoadTags ∧
    decodeTableWord 48 0x940000000005 = some .cAlignMsk ∧
    decodeTableWord 48 0x960000000005 = some .cRoundLen ∧
    decodeTableWord 48 0x980000000005 = some .cSealEntry ∧
    decodeTableWord 48 0x9A0000000005 = some .cGetBase := by
  decide

/-- Words of table rows 424 to 435 (spec/opcode_table.json). -/
theorem test_decode_system_1 :
    decodeTableWord 24 0x2691E8 = some (.atom (.short 4936#15)) ∧
    decodeTableWord 48 0x64999B6DDE9 = some (.atom (.long 6751153591#33)) ∧
    decodeTableWord 48 0x1E0 = some .qext ∧
    decodeTableWord 48 0x1E4 = some .pred ∧
    decodeTableWord 48 0x1F0 = some .pfx ∧
    decodeTableWord 48 0x8 = some .r3x128 ∧
    decodeTableWord 48 0x168 = some .flt128 ∧
    decodeTableWord 48 0x44 = some .dflt ∧
    decodeTableWord 48 0x48 = some .pst ∧
    decodeTableWord 48 0x11C = some .chksc ∧
    decodeTableWord 48 0x13C = some .stctx ∧
    decodeTableWord 48 0x150 = some .enter := by
  decide

/-- Words of table rows 436 to 447 (spec/opcode_table.json). -/
theorem test_decode_system_2 :
    decodeTableWord 48 0x154 = some .leave ∧
    decodeTableWord 48 0x158 = some .push ∧
    decodeTableWord 48 0x15C = some .pop ∧
    decodeTableWord 48 0x164 = some .blend ∧
    decodeTableWord 48 0x1B0 = some .bfind ∧
    decodeTableWord 48 0x1B4 = some .bcmp ∧
    decodeTableWord 48 0x1BC = some .block ∧
    decodeTableWord 48 0x170 = some .amo ∧
    decodeTableWord 48 0x174 = some .cas ∧
    decodeTableWord 48 0x1C4 = some .stopOp ∧
    decodeTableWord 48 0x1C8 = some .fence ∧
    decodeTableWord 48 0x1CC = some .pfi := by
  decide

/-- Words of table rows 448 to 459 (spec/opcode_table.json). -/
theorem test_decode_system_3 :
    decodeTableWord 48 0x30 = some .reservedRoot12 ∧
    decodeTableWord 48 0x50 = some .reservedRoot20 ∧
    decodeTableWord 48 0xE0 = some .reservedRoot56 ∧
    decodeTableWord 48 0x16C = some .reservedRoot91 ∧
    decodeTableWord 48 0x1B8 = some .reservedRoot110 ∧
    decodeTableWord 48 0x1D0 = some .reservedRoot116 ∧
    decodeTableWord 48 0x1D4 = some .reservedRoot117 ∧
    decodeTableWord 48 0x1D8 = some .reservedRoot118 ∧
    decodeTableWord 48 0x1DC = some .reservedRoot119 ∧
    decodeTableWord 48 0x1EC = some .reservedRoot123 ∧
    decodeTableWord 48 0x1F4 = some .reservedRoot125 ∧
    decodeTableWord 48 0x1F8 = some .reservedRoot126 := by
  decide

/-- Words of table rows 460 to 462 (spec/opcode_table.json). -/
theorem test_decode_system_4 :
    decodeTableWord 48 0x41 = some .reservedRoot1648 ∧
    decodeTableWord 72 0x42 = some .reservedRoot1672 ∧
    decodeTableWord 96 0x43 = some .reservedRoot1696 := by
  decide

/-! ## Single steps -/

/-- A machine at 0x1000 whose TLB maps the first two pages to themselves, with registers and bytes of memory set. -/
def before (regs : List (BitVec 6 × Word)) (bytes : List (Nat × Byte)) : State :=
  let page (k : BitVec 51) : TlbEntry := { TlbEntry.preload with vpn := k, ppn := k.setWidth 57 }
  let s : State :=
    { State.reset with
      ip := 0x1000#64, tlb := [page 0#51, page 1#51], csr := { Csrs.reset with tvec := Csrs.reset.tvec.set 3 0x8000#64 } }
  let s := bytes.foldl (fun s e => { s with mem := s.mem.setByte e.1 e.2 }) s
  regs.foldl (fun s e => s.setPhys e.1 e.2 false) s

/-- The sixteen bytes at 0x2000 of the load vectors. -/
def exampleBytes : List (Nat × Byte) :=
  (List.range 16).map fun k =>
    (0x2000 + k, ([0x11, 0x22, 0x33, 0x44, 0x55, 0x66, 0x77, 0x88, 0x80, 0x99, 0xAA, 0xBB, 0xCC, 0xDD, 0xEE, 0xFF] : List Byte)[k]!)

/-- The word decodes to an instruction that completes from the state with what `p` tells. -/
def runs (nbits w : Nat) (s : State) (p : State → Bool) : Bool :=
  match decodeTableWord nbits w with
  | none => false
  | some i =>
    match exec i s with
    | .next t => p t
    | .fault _ => false
    | .refused _ => false

/-- T1: ADDI r1,r0,5. -/
theorem test_t1_addi_r1_r0 :
    runs 24 0x280210 (before [] [])
      (fun t => t.gprPhys 1#6 == 0x5#64 && t.ip == 0x1003#64) = true := by
  decide

/-- T4: ADDI.o r1,r2,-1. -/
theorem test_t4_addi_o_r1 :
    runs 48 0xFFFFFF820211 (before [(2#6, 0x100#64)] [])
      (fun t => t.gprPhys 1#6 == 0xFF#64 && t.ip == 0x1006#64) = true := by
  decide

/-- T5: ADDI.b r1,r2,1. -/
theorem test_t5_addi_b_r1 :
    runs 48 0x2020211 (before [(2#6, 0xFF7F80FF01FEFF#64)] [])
      (fun t => t.gprPhys 1#6 == 0x10080810002FF00#64 && t.ip == 0x1006#64) = true := by
  decide

/-- T8: ADDI r9,r0,0x123456789A. -/
theorem test_t8_addi_r9_r0 :
    runs 72 0x2468ACF135801212 (before [] [])
      (fun t => t.gprPhys 9#6 == 0x123456789A#64 && t.ip == 0x1009#64) = true := by
  decide

/-- T9: ADDI r9,r0,0xFEDCBA9876543210. -/
theorem test_t9_addi_r9_r0 :
    runs 96 0x1FDB97530ECA86421801213 (before [] [])
      (fun t => t.gprPhys 9#6 == 0xFEDCBA9876543210#64 && t.ip == 0x100C#64) = true := by
  decide

/-- T11: SUB r3,r1,r2. -/
theorem test_t11_sub_r3_r1 :
    runs 48 0x860210107AD (before [(1#6, 0x5#64), (2#6, 0x7#64)] [])
      (fun t => t.gprPhys 3#6 == 0xFFFFFFFFFFFFFFFE#64 && t.ip == 0x1006#64) = true := by
  decide

/-- T12: ADD.b r3,r1,r2. -/
theorem test_t12_add_b_r3 :
    runs 48 0x860010107A1 (before [(1#6, 0x1FF80FF7F0000FF#64), (2#6, 0x101800101FF0001#64)] [])
      (fun t => t.gprPhys 3#6 == 0x200000080FF0000#64 && t.ip == 0x1006#64) = true := by
  decide

/-- T13: ADD_AND r3,r1,r2,r4. -/
theorem test_t13_add_and_r3 :
    runs 48 0x801010107AD (before [(1#6, 0x1234#64), (2#6, 0x1111#64), (4#6, 0xFF#64)] [])
      (fun t => t.gprPhys 3#6 == 0x45#64 && t.ip == 0x1006#64) = true := by
  decide

/-- T18: ABS r3,r1. -/
theorem test_t18_abs_r3_r1 :
    runs 48 0x1A60000107AD (before [(1#6, 0xFFFFFFFFFFFFFFFB#64)] [])
      (fun t => t.gprPhys 3#6 == 0x5#64 && t.ip == 0x1006#64) = true := by
  decide

/-- T21: SUBFI r3,r1,10. -/
theorem test_t21_subfi_r3_r1 :
    runs 24 0x504614 (before [(1#6, 0x3#64)] [])
      (fun t => t.gprPhys 3#6 == 0x7#64 && t.ip == 0x1003#64) = true := by
  decide

/-- T22: ADD8UI r3,r1,4. -/
theorem test_t22_add8ui_r3_r1 :
    runs 24 0x2046F8 (before [(1#6, 0x5#64)] [])
      (fun t => t.gprPhys 3#6 == 0x2C#64 && t.ip == 0x1003#64) = true := by
  decide

/-- T24: AUIIP r1,0x1000. -/
theorem test_t24_auiip_r1_0x1000 :
    runs 72 0x20000002EA (before [] [])
      (fun t => t.gprPhys 1#6 == 0x2000#64 && t.ip == 0x1009#64) = true := by
  decide

/-- T26: LOADA r1,8[r2+r3*8]. -/
theorem test_t26_loada_r1_8 :
    runs 48 0x818610361 (before [(2#6, 0x1000#64), (3#6, 0x2#64)] [])
      (fun t => t.gprPhys 1#6 == 0x1018#64 && t.ip == 0x1006#64) = true := by
  decide

/-- T27: CNTLZ r3,r1. -/
theorem test_t27_cntlz_r3_r1 :
    runs 48 0x3400000107AD (before [(1#6, 0x100000000#64)] [])
      (fun t => t.gprPhys 3#6 == 0x1F#64 && t.ip == 0x1006#64) = true := by
  decide

/-- T29: CNTPOP r3,r1. -/
theorem test_t29_cntpop_r3_r1 :
    runs 48 0x3400800107AD (before [(1#6, 0xF0F0000000000001#64)] [])
      (fun t => t.gprPhys 3#6 == 0x9#64 && t.ip == 0x1006#64) = true := by
  decide

/-- T30: CNTTZ r3,r1. -/
theorem test_t30_cnttz_r3_r1 :
    runs 48 0x3401800107AD (before [(1#6, 0x80#64)] [])
      (fun t => t.gprPhys 3#6 == 0x7#64 && t.ip == 0x1006#64) = true := by
  decide

/-- T31: CNTLO r3,r1. -/
theorem test_t31_cntlo_r3_r1 :
    runs 48 0x3400400107AD (before [(1#6, 0xFFF0000000000000#64)] [])
      (fun t => t.gprPhys 3#6 == 0xC#64 && t.ip == 0x1006#64) = true := by
  decide

/-- T32: SQRT r3,r1. -/
theorem test_t32_sqrt_r3_r1 :
    runs 48 0x3401000107AD (before [(1#6, 0x63#64)] [])
      (fun t => t.gprPhys 3#6 == 0x9#64 && t.ip == 0x1006#64) = true := by
  decide +kernel

/-- T34: MAJ r4,r1,r2,r3. -/
theorem test_t34_maj_r4_r1 :
    runs 48 0x1C00C10109AD (before [(1#6, 0xC#64), (2#6, 0xA#64), (3#6, 0x6#64)] [])
      (fun t => t.gprPhys 4#6 == 0xE#64 && t.ip == 0x1006#64) = true := by
  decide

/-- T35: PTRDIF r4,r1,r2,#3. -/
theorem test_t35_ptrdif_r4_r1 :
    runs 48 0x4100C10109AD (before [(1#6, 0x1000#64), (2#6, 0x1040#64)] [])
      (fun t => t.gprPhys 4#6 == 0x8#64 && t.ip == 0x1006#64) = true := by
  decide

/-- T36: AVG r4,r1,r2,#1. -/
theorem test_t36_avg_r4_r1 :
    runs 48 0x4120410109AD (before [(1#6, 0x7#64), (2#6, 0x4#64)] [])
      (fun t => t.gprPhys 4#6 == 0x5#64 && t.ip == 0x1006#64) = true := by
  decide

/-- T37: AVG round up. -/
theorem test_t37_avg_round_up :
    runs 48 0x4140410109AD (before [(1#6, 0x7#64), (2#6, 0x4#64)] [])
      (fun t => t.gprPhys 4#6 == 0x6#64 && t.ip == 0x1006#64) = true := by
  decide

/-- T40: MUL r3,r1,r2. -/
theorem test_t40_mul_r3_r1 :
    runs 48 0x2060010107AD (before [(1#6, 0xFFFFFFFFFFFFFFFD#64), (2#6, 0x7#64)] [])
      (fun t => t.gprPhys 3#6 == 0xFFFFFFFFFFFFFFEB#64 && t.ip == 0x1006#64) = true := by
  decide

/-- T42: MULU r3,r1,r2. -/
theorem test_t42_mulu_r3_r1 :
    runs 48 0x2660010107AD (before [(1#6, 0xFFFFFFFFFFFFFFFF#64), (2#6, 0x2#64)] [])
      (fun t => t.gprPhys 3#6 == 0xFFFFFFFFFFFFFFFE#64 && t.ip == 0x1006#64) = true := by
  decide

/-- T44: DIV r3,r1,r2. -/
theorem test_t44_div_r3_r1 :
    runs 48 0x2260010107AD (before [(1#6, 0xFFFFFFFFFFFFFFF9#64), (2#6, 0x2#64)] [])
      (fun t => t.gprPhys 3#6 == 0xFFFFFFFFFFFFFFFD#64 && t.ip == 0x1006#64) = true := by
  decide

/-- T45: REM r3,r1,r2. -/
theorem test_t45_rem_r3_r1 :
    runs 48 0x3260010107AD (before [(1#6, 0xFFFFFFFFFFFFFFF9#64), (2#6, 0x2#64)] [])
      (fun t => t.gprPhys 3#6 == 0xFFFFFFFFFFFFFFFF#64 && t.ip == 0x1006#64) = true := by
  decide

/-- T48: DIVU r3,r1,r2. -/
theorem test_t48_divu_r3_r1 :
    runs 48 0x2860010107AD (before [(1#6, 0xFFFFFFFFFFFFFFFE#64), (2#6, 0x2#64)] [])
      (fun t => t.gprPhys 3#6 == 0x7FFFFFFFFFFFFFFF#64 && t.ip == 0x1006#64) = true := by
  decide

/-- T52: REMU r3,r1,r2. -/
theorem test_t52_remu_r3_r1 :
    runs 48 0x3860010107AD (before [(1#6, 0x64#64), (2#6, 0x7#64)] [])
      (fun t => t.gprPhys 3#6 == 0x2#64 && t.ip == 0x1006#64) = true := by
  decide

/-- T60: MOVE r3,r1. -/
theorem test_t60_move_r3_r1 :
    runs 24 0x1063C (before [(1#6, 0x77#64)] [])
      (fun t => t.gprPhys 3#6 == 0x77#64 && t.ip == 0x1003#64) = true := by
  decide

/-- T65: MIN3 r4,r1,r2,r3. -/
theorem test_t65_min3_r4_r1 :
    runs 48 0x2400C10109AD (before [(1#6, 0x2#64), (2#6, 0xFFFFFFFFFFFFFFFD#64), (3#6, 0x1#64)] [])
      (fun t => t.gprPhys 4#6 == 0xFFFFFFFFFFFFFFFD#64 && t.ip == 0x1006#64) = true := by
  decide

/-- T67: MAXU3 r4,r1,r2,r3. -/
theorem test_t67_maxu3_r4_r1 :
    runs 48 0x2E40C10109AD (before [(1#6, 0x2#64), (2#6, 0xFFFFFFFFFFFFFFFD#64), (3#6, 0x1#64)] [])
      (fun t => t.gprPhys 4#6 == 0xFFFFFFFFFFFFFFFD#64 && t.ip == 0x1006#64) = true := by
  decide

/-- T68: CMOV r4,r1,r2,r3. -/
theorem test_t68_cmov_r4_r1 :
    runs 48 0x1800C10109AD (before [(1#6, 0x1#64), (2#6, 0xB#64), (3#6, 0xC#64)] [])
      (fun t => t.gprPhys 4#6 == 0xB#64 && t.ip == 0x1006#64) = true := by
  decide

/-- T70: REVB r3,r1. -/
theorem test_t70_revb_r3_r1 :
    runs 48 0x3461400107AD (before [(1#6, 0x102030405060708#64)] [])
      (fun t => t.gprPhys 3#6 == 0x807060504030201#64 && t.ip == 0x1006#64) = true := by
  decide

/-- T71: REVBIT r3,r1. -/
theorem test_t71_revbit_r3_r1 :
    runs 48 0x3401400107AD (before [(1#6, 0x1#64)] [])
      (fun t => t.gprPhys 3#6 == 0x8000000000000000#64 && t.ip == 0x1006#64) = true := by
  decide

/-- T73: MUX r4,r1,r2,r3. -/
theorem test_t73_mux_r4_r1 :
    runs 48 0x4220C10109AD (before [(1#6, 0xF0#64), (2#6, 0xAA#64), (3#6, 0x55#64)] [])
      (fun t => t.gprPhys 4#6 == 0xA5#64 && t.ip == 0x1006#64) = true := by
  decide

/-- T75: BMAP r4,r1,r3. -/
theorem test_t75_bmap_r4_r1 :
    runs 48 0x4600C00109AD (before [(1#6, 0x807060504030201#64), (3#6, 0x1234567#64)] [])
      (fun t => t.gprPhys 4#6 == 0x102030405060708#64 && t.ip == 0x1006#64) = true := by
  decide

/-- T77: BMM r3,r1,r2. -/
theorem test_t77_bmm_r3_r1 :
    runs 48 0x4400010107AD (before [(1#6, 0x8040201008040201#64), (2#6, 0x123456789ABCDEF#64)] [])
      (fun t => t.gprPhys 3#6 == 0x123456789ABCDEF#64 && t.ip == 0x1006#64) = true := by
  decide +kernel

/-- T80: AND r3,r1,r2. -/
theorem test_t80_and_r3_r1 :
    runs 48 0x20010107AD (before [(1#6, 0xFF00FF#64), (2#6, 0xFF0F0#64)] [])
      (fun t => t.gprPhys 3#6 == 0xF00F0#64 && t.ip == 0x1006#64) = true := by
  decide

/-- T85: AND_AND r4,r1,r2,r3. -/
theorem test_t85_and_and_r4 :
    runs 48 0xC10109AD (before [(1#6, 0xFF#64), (2#6, 0x3C#64), (3#6, 0x18#64)] [])
      (fun t => t.gprPhys 4#6 == 0x18#64 && t.ip == 0x1006#64) = true := by
  decide

/-- T86: ANDI r1,r1,0x0F. -/
theorem test_t86_andi_r1_r1 :
    runs 24 0x784220 (before [(1#6, 0x123456789ABCDEF5#64), (2#6, 0xFF0F0#64)] [])
      (fun t => t.gprPhys 1#6 == 0x123456789ABCDEE5#64 && t.ip == 0x1003#64) = true := by
  decide

/-- T88: ORI.o r1,r0,0x7FFFFF. -/
theorem test_t88_ori_o_r1 :
    runs 48 0xFFFFFF800225 (before [(1#6, 0xFF00FF#64), (2#6, 0xFF0F0#64)] [])
      (fun t => t.gprPhys 1#6 == 0x7FFFFF#64 && t.ip == 0x1006#64) = true := by
  decide

/-- T90: EORI.o r1,r1,1. -/
theorem test_t90_eori_o_r1 :
    runs 48 0x3810229 (before [(1#6, 0x3#64), (2#6, 0xFF0F0#64)] [])
      (fun t => t.gprPhys 1#6 == 0x2#64 && t.ip == 0x1006#64) = true := by
  decide

/-- T100: CMP r3,r1,r2. -/
theorem test_t100_cmp_r3_r1 :
    runs 48 0x620010107AD (before [(1#6, 0xFFFFFFFFFFFFFFFF#64), (2#6, 0x1#64)] [])
      (fun t => t.gprPhys 3#6 == 0x8E#64 && t.ip == 0x1006#64) = true := by
  decide

/-- T101: CMPU r3,r1,r2. -/
theorem test_t101_cmpu_r3_r1 :
    runs 48 0xC20010107AD (before [(1#6, 0xFFFFFFFFFFFFFFFF#64), (2#6, 0x1#64)] [])
      (fun t => t.gprPhys 3#6 == 0xB2#64 && t.ip == 0x1006#64) = true := by
  decide

/-- T107: CMP.b r3,r1,r2. -/
theorem test_t107_cmp_b_r3 :
    runs 48 0x620010107A1 (before [(1#6, 0x8005#64), (2#6, 0x105#64)] [])
      (fun t => t.gprPhys 3#6 == 0x5959595959594E59#64 && t.ip == 0x1006#64) = true := by
  decide

/-- T109: CMOVEQ r4,r1,r2,r3,N4 = 8. -/
theorem test_t109_cmoveq_r4_r1 :
    runs 48 0xC100C10109AD (before [(1#6, 0x5#64), (2#6, 0x5#64), (3#6, 0x77#64), (4#6, 0x99#64)] [])
      (fun t => t.gprPhys 4#6 == 0x77#64 && t.ip == 0x1006#64) = true := by
  decide

/-- T112: CMOVLT. -/
theorem test_t112_cmovlt :
    runs 48 0xC400C10109AD (before [(1#6, 0xFFFFFFFFFFFFFFFF#64), (2#6, 0x1#64), (3#6, 0x1#64)] [])
      (fun t => t.gprPhys 4#6 == 0x1#64 && t.ip == 0x1006#64) = true := by
  decide

/-- T116: SEQI.o r3,r1,7. -/
theorem test_t116_seqi_o_r3 :
    runs 48 0xF810659 (before [(1#6, 0x7#64), (3#6, 0x55#64)] [])
      (fun t => t.gprPhys 3#6 == 0x1#64 && t.ip == 0x1006#64) = true := by
  decide

/-- T118: ZSEQI.o r3,r1,7. -/
theorem test_t118_zseqi_o_r3 :
    runs 48 0xF810779 (before [(1#6, 0x8#64), (3#6, 0x55#64)] [])
      (fun t => t.gprPhys 3#6 == 0x0#64 && t.ip == 0x1006#64) = true := by
  decide

/-- T120: LSR r9,r2,#8. -/
theorem test_t120_lsr_r9_r2 :
    runs 48 0x98E20002134D (before [(2#6, 0x8000000000001234#64)] [])
      (fun t => t.gprPhys 9#6 == 0x80000000000012#64 && t.ip == 0x1006#64) = true := by
  decide

/-- T121: SLL r9,r2,#4. -/
theorem test_t121_sll_r9_r2 :
    runs 48 0x80010002134D (before [(2#6, 0x8000000000001234#64)] [])
      (fun t => t.gprPhys 9#6 == 0x12340#64 && t.ip == 0x1006#64) = true := by
  decide

/-- T123: ASR r9,r2,#4. -/
theorem test_t123_asr_r9_r2 :
    runs 48 0xA7E10002134D (before [(2#6, 0x8000000000001234#64)] [])
      (fun t => t.gprPhys 9#6 == 0xF800000000000123#64 && t.ip == 0x1006#64) = true := by
  decide

/-- T127: SRLPI r9,r3,r2,67..60. -/
theorem test_t127_srlpi_r9_r3 :
    runs 48 0x986F0182134D (before [(2#6, 0xA000000000000000#64), (3#6, 0x5#64)] [])
      (fun t => t.gprPhys 9#6 == 0x5A#64 && t.ip == 0x1006#64) = true := by
  decide

/-- T132: SRAPRZI r9,r2, MB = 1, ME = 63. -/
theorem test_t132_sraprzi_r9_r2 :
    runs 48 0xB7E04002134D (before [(2#6, 0xFFFFFFFFFFFFFFFD#64)] [])
      (fun t => t.gprPhys 9#6 == 0xFFFFFFFFFFFFFFFF#64 && t.ip == 0x1006#64) = true := by
  decide

/-- T133: SRAPRUI r9,r2, MB = 1, ME = 63. -/
theorem test_t133_sraprui_r9_r2 :
    runs 48 0xC7E04002134D (before [(2#6, 0x5#64)] [])
      (fun t => t.gprPhys 9#6 == 0x3#64 && t.ip == 0x1006#64) = true := by
  decide

/-- T135: DEPI r10,r9[67:60] <- r3. -/
theorem test_t135_depi_r10_r9 :
    runs 48 0xD86F018A134D (before [(2#6, 0x8000000000001234#64), (3#6, 0xAB#64), (9#6, 0x0#64), (10#6, 0x0#64)] [])
      (fun t => t.gprPhys 9#6 == 0xB000000000000000#64 && t.gprPhys 10#6 == 0xA#64 && t.ip == 0x1006#64) = true := by
  decide

/-- T138: COM r10,r9[7:0]. -/
theorem test_t138_com_r10_r9 :
    runs 48 0xE0E0200A134D (before [(2#6, 0x8000000000001234#64), (9#6, 0x1234#64), (10#6, 0x55#64)] [])
      (fun t => t.gprPhys 9#6 == 0x12CB#64 && t.gprPhys 10#6 == 0x55#64 && t.ip == 0x1006#64) = true := by
  decide

/-- T140f: FABS.d r3,r1. -/
theorem test_t140f_fabs_d_r3 :
    runs 48 0x4000000106ED (before [(1#6, 0xBFF8000000000000#64)] [])
      (fun t => t.gprPhys 3#6 == 0x3FF8000000000000#64 && t.ip == 0x1006#64) = true := by
  decide

/-- T143f: FTRUNC.d r3,r1. -/
theorem test_t143f_ftrunc_d_r3 :
    runs 48 0x6A00000106ED (before [(1#6, 0xC006000000000000#64)] [])
      (fun t => t.gprPhys 3#6 == 0xC000000000000000#64 && t.ip == 0x1006#64) = true := by
  decide

/-- T145f: FCMP.d r3,r1,r2. -/
theorem test_t145f_fcmp_d_r3 :
    runs 48 0x1A00010106ED (before [(1#6, 0x3FF0000000000000#64), (2#6, 0x4000000000000000#64)] [])
      (fun t => t.gprPhys 3#6 == 0x1FC2#64 && t.ip == 0x1006#64) = true := by
  decide

/-- T148f: FSLT.d r3,r1,r2. -/
theorem test_t148f_fslt_d_r3 :
    runs 48 0x1400010106ED (before [(1#6, 0x3FF0000000000000#64), (2#6, 0x4000000000000000#64)] [])
      (fun t => t.gprPhys 3#6 == 0x1#64 && t.ip == 0x1006#64) = true := by
  decide

/-- T160: LDO r1,8[r2]. -/
theorem test_t160_ldo_r1_8 :
    runs 24 0x88300 (before [(2#6, 0x2000#64)] exampleBytes)
      (fun t => t.gprPhys 1#6 == 0xFFEEDDCCBBAA9980#64 && t.ip == 0x1003#64) = true := by
  decide +kernel

/-- T162: LDB r1,-1[r2]. -/
theorem test_t162_ldb_r1_1 :
    runs 48 0xFFFF00010301 (before [(2#6, 0x2009#64)] exampleBytes)
      (fun t => t.gprPhys 1#6 == 0xFFFFFFFFFFFFFF80#64 && t.ip == 0x1006#64) = true := by
  decide +kernel

/-- T165: LDWU r1,6[r2]. -/
theorem test_t165_ldwu_r1_6 :
    runs 48 0x640010305 (before [(2#6, 0x2000#64)] exampleBytes)
      (fun t => t.gprPhys 1#6 == 0x8877#64 && t.ip == 0x1006#64) = true := by
  decide +kernel

/-- T166: LDT r1,4[r2+r3*4]. -/
theorem test_t166_ldt_r1_4 :
    runs 48 0x490610301 (before [(2#6, 0x2000#64), (3#6, 0x2#64)] exampleBytes)
      (fun t => t.gprPhys 1#6 == 0xFFFFFFFFFFEEDDCC#64 && t.ip == 0x1006#64) = true := by
  decide +kernel

/-- T171: STB r1,1[r2]. -/
theorem test_t171_stb_r1_1 :
    runs 48 0x100010321 (before [(1#6, 0x1234#64), (2#6, 0x2000#64)] exampleBytes)
      (fun t => t.ip == 0x1006#64 && t.mem.byte 0x2001 == 0x34#8) = true := by
  decide +kernel

/-- T174: STO r1,-8[r2]. -/
theorem test_t174_sto_r1_8 :
    runs 24 0xF88320 (before [(1#6, 0x102030405060708#64), (2#6, 0x2008#64)] exampleBytes)
      (fun t => t.ip == 0x1003#64 && t.mem.byte 0x2000 == 0x08#8 && t.mem.byte 0x2007 == 0x01#8) = true := by
  decide +kernel

/-- T179: STPTR r1,[r2]. -/
theorem test_t179_stptr_r1_r2 :
    runs 24 0x8338 (before [(1#6, 0x4000#64), (2#6, 0x2008#64)] exampleBytes)
      (fun t => t.ip == 0x1003#64 && t.mem.byte 0x2009 == 0x40#8 && t.cards.hct == [(1, 1#1)] && t.cards.mct == 1#64) = true := by
  decide +kernel

/-- T180: BEQ r1,r2,+12. -/
theorem test_t180_beq_r1_r2 :
    runs 48 0xC000081020A1 (before [(1#6, 0x7#64), (2#6, 0x7#64)] [])
      (fun t => t.ip == 0x100C#64) = true := by
  decide

/-- T182: BNE r1,r0,-6. -/
theorem test_t182_bne_r1_r0 :
    runs 48 0xFFFFFC0022A1 (before [(1#6, 0x1#64)] [])
      (fun t => t.ip == 0xFFA#64) = true := by
  decide

/-- T188: BEQ r1,r2,[r5]. -/
theorem test_t188_beq_r1_r2 :
    runs 48 0xC0000A1020C1 (before [(5#6, 0x4321#64)] [])
      (fun t => t.ip == 0x4321#64) = true := by
  decide

/-- T191: BEQ, sr.ab = 1, Tgt21 = 0x100. -/
theorem test_t191_beq_sr_ab :
    runs 48 0xC002001020A1 { before [] [] with sr := 0x267E0#32 }
      (fun t => t.ip == 0x300#64) = true := by
  decide

/-- T194: DBNE r1,r0,-6. -/
theorem test_t194_dbne_r1_r0 :
    runs 48 0xFFFFFC0022BD (before [(1#6, 0x1#64)] [])
      (fun t => t.gprPhys 1#6 == 0x0#64 && t.ip == 0xFFA#64) = true := by
  decide

/-- T199: BSR LR1,+18. -/
theorem test_t199_bsr_lr1_18 :
    runs 48 0x9281 (before [] [])
      (fun t => t.gprPhys 41#6 == 0x1006#64 && t.ip == 0x1012#64) = true := by
  decide

/-- T202: JSR LR2,0x12345. -/
theorem test_t202_jsr_lr2_0x12345 :
    runs 48 0x91A2C85 (before [] [])
      (fun t => t.gprPhys 42#6 == 0x1006#64 && t.ip == 0x12345#64) = true := by
  decide

/-- T204: JSR r41,[r5]. -/
theorem test_t204_jsr_r41_r5 :
    runs 48 0x2D299 (before [(5#6, 0x3000#64)] [])
      (fun t => t.gprPhys 41#6 == 0x1006#64 && t.ip == 0x3000#64) = true := by
  decide

/-- T205: RET r41,16. -/
theorem test_t205_ret_r41_16 :
    runs 48 0x2029008D (before [(35#6, 0x7000#64), (41#6, 0x2222#64)] [])
      (fun t => t.gprPhys 35#6 == 0x7010#64 && t.ip == 0x2222#64) = true := by
  decide

/-- T207: RET r31,8. -/
theorem test_t207_ret_r31_8 :
    runs 24 0x47C08C (before [(35#6, 0x7000#64)] [])
      (fun t => t.ip == 0x7000#64) = true := by
  decide

/-- T209: RTE, Offs4 = 1, machine mode. -/
theorem test_t209_rte_offs4_1 :
    runs 24 0x8228C { before [] [] with exc := { (before [] []).exc with sr := (before [] []).exc.sr.set 0 0x0008#32, eip := (before [] []).exc.eip.set 0 0x3000#64 } }
      (fun t => t.ip == 0x3003#64 && t.sr == 0x8#32) = true := by
  decide

/-- T220: BRK. -/
theorem test_t220_brk :
    runs 24 0x0 (before [] [])
      (fun t => t.ip == 0x8000#64 && t.sr == 0x467E0#32 && t.exc.eip[0] == 0x1000#64 && t.exc.sr[0] == 0x67E0#32) = true := by
  decide

/-- T224: CSRRW r1,0x3033,r2. -/
theorem test_t224_csrrw_r1_0x3033 :
    runs 48 0x20181982021D (before [(2#6, 0x4000#64)] [])
      (fun t => t.gprPhys 1#6 == 0x8000#64 && t.ip == 0x1006#64 && t.csr.tvec[3] == 0x4000#64) = true := by
  decide

/-- T228: CClearTag r3,r1. -/
theorem test_t228_ccleartag_r3_r1 :
    runs 48 0x800000010605 (before [(1#6, 0x1234#64)] [])
      (fun t => t.gprPhys 3#6 == 0x1234#64 && t.ip == 0x1006#64) = true := by
  decide

/-! ## Witnesses: for every statement with hypotheses, states and operands that meet them together -/

/-- The machine of `before` in user mode, every mask and enable bit zero. -/
def userState : State := { before [] [] with sr := 0#32 }

/-- The TLB entry that maps page 1 to itself. -/
def pageOne : TlbEntry := { TlbEntry.preload with vpn := 1#51, ppn := 1#57 }

/-- The machine of `before` with a move on the agenda. -/
def pending (e : Event) : State := { before [] [] with agenda := [e] }

theorem before_inv : (before [] []).Inv := by constructor <;> decide

/-- A step answers a next state. -/
def goesOn (s : State) : Bool :=
  match step s with
  | .next _ => true
  | .fault _ => false
  | .refused _ => false

theorem goesOn_next {s : State} (h : goesOn s = true) : ∃ t, step s = .next t := by
  unfold goesOn at h
  split at h
  · exact ⟨_, ‹_›⟩
  · cases h
  · cases h

/-- An instruction answers a next state. -/
def completes (i : Instr) (s : State) : Bool :=
  match exec i s with
  | .next _ => true
  | .fault _ => false
  | .refused _ => false

theorem completes_next {i : Instr} {s : State} (h : completes i s = true) : ∃ t, exec i s = .next t := by
  unfold completes at h
  split at h
  · exact ⟨_, ‹_›⟩
  · cases h
  · cases h

/-- A fetch gives a word that decodes as `d`. -/
def fetches (s : State) (d : Decoded) : Bool :=
  match fetch s with
  | .ok w _ => s.par.decode w == d
  | .trap _ _ => false
  | .stop _ => false

theorem fetches_ok {s : State} {d : Decoded} (h : fetches s d = true) :
    ∃ w t, fetch s = .ok w t ∧ s.par.decode w = d := by
  unfold fetches at h
  split at h
  · exact ⟨_, _, ‹_›, by simpa using h⟩
  · cases h
  · cases h

/-- A fetch gives a word that decodes to `i`, which is refused for `r`. -/
def fetchRefuses (s : State) (i : Instr) (r : Refusal) : Bool :=
  match fetch s with
  | .ok w t => s.par.decode w == .instr i && (match exec i t with
      | .refused q => q == r
      | .next _ => false
      | .fault _ => false)
  | .trap _ _ => false
  | .stop _ => false

theorem fetchRefuses_ok {s : State} {i : Instr} {r : Refusal} (h : fetchRefuses s i r = true) :
    ∃ w t, fetch s = .ok w t ∧ s.par.decode w = .instr i ∧ exec i t = .refused r := by
  unfold fetchRefuses at h
  split at h
  · rename_i w t hf
    rw [Bool.and_eq_true] at h
    obtain ⟨h1, h2⟩ := h
    refine ⟨w, t, hf, by simpa using h1, ?_⟩
    split at h2
    · rename_i he
      rw [he, beq_iff_eq.1 h2]
    · cases h2
    · cases h2
  · cases h
  · cases h

/-- A fetch raises. -/
def fetchRaises (s : State) : Bool :=
  match fetch s with
  | .ok _ _ => false
  | .trap _ _ => true
  | .stop _ => false

theorem fetchRaises_trap {s : State} (h : fetchRaises s = true) : ∃ e t, fetch s = .trap e t := by
  unfold fetchRaises at h
  split at h
  · cases h
  · exact ⟨_, _, ‹_›⟩
  · cases h

/-- The translation of an access raises. -/
def translationRaises (acc : Access) (n : Nat) (start va : Word) (s : State) : Bool :=
  match translate acc n start va s with
  | .ok _ _ => false
  | .trap _ _ => true
  | .stop _ => false

theorem translationRaises_trap {acc : Access} {n : Nat} {start va : Word} {s : State}
    (h : translationRaises acc n start va s = true) : ∃ e u, translate acc n start va s = .trap e u := by
  unfold translationRaises at h
  split at h
  · cases h
  · exact ⟨_, _, ‹_›⟩
  · cases h

theorem witness_EncodedInstructionsDecodeBack :
    (Instr.ldcapd ⟨.d16 0xFFFF#16, 7#3, 63#6, 63#6, 63#6⟩).wf = true ∧
    (Instr.ret (.long ⟨.i71 (BitVec.allOnes 71), true, 63#6, 15#4⟩)).wf = true ∧ Instr.brk.wf = true := by decide

theorem witness_LengthCodeGivesBytes :
    (fld 0#96 0 2 = 0#2 ∧ fld 1#96 0 2 = 1#2 ∧ fld 2#96 0 2 = 2#2 ∧ fld (BitVec.allOnes 96) 0 2 = 3#2) ∧
    (before [] []).pfx = none ∧
    let p : Pfx := ⟨2#2, 5#59, 6⟩
    ({ before [] [] with pfx := some p }).pfx = some p ∧ p.abc = Slot.c.code ∧ p.abc ≠ Slot.a.code := by decide

/-- ADDI r1,r0,5 at the instruction pointer completes. -/
theorem witness_StepRunsDecodedInstruction :
    let s := (before [] []).withFetchWord 24 0x280210
    s.turn = some s ∧ s.canRun = true ∧ goesOn s = true ∧
      ∃ w t, fetch s = .ok w t ∧ s.par.decode w = .instr (.addi (.short ⟨5#5, 0#5, 1#5⟩)) :=
  ⟨by decide +kernel, by decide +kernel, by decide +kernel, fetches_ok (by decide +kernel)⟩

/-- The 24-bit word of root opcode 16 is refused by default. -/
theorem witness_StepRunsDecodedInstruction_refused :
    let s := (before [] []).withFetchWord 24 0x000040
    s.turn = some s ∧ s.canRun = true ∧ ∃ w t, fetch s = .ok w t ∧ s.par.decode w = .instr .add24 ∧
      exec .add24 t = .refused .contestedOpcode :=
  ⟨by decide +kernel, by decide +kernel, fetchRefuses_ok (by decide +kernel)⟩

/-- A turn of the core on the agenda, tracing that is refused, a page table of another kind, and the default decoder. -/
theorem witness_StepRunsDecodedInstruction_turns :
    let s := before [] []
    (let u : State := { s with sr := s.sr ||| 0x00001000#32, par := { Params.reset with debugTraps := .refuse } }
     u.turn = some u ∧ u.tracing = true) ∧
    (let u : State := { s with ptw := { s.ptw with attr := 0x1FFF080#64 } }
     u.turn = some u ∧ u.tracing = false ∧ u.ptw.hierarchical = false) ∧
    s.agenda = [] ∧ (pending .run).agenda = .run :: [] ∧
    Params.reset.bsrLayout = bsrDefault ∧ Params.reset.sraprCodes = .description ∧ Params.reset.fpOpcodes = .map := by decide

/-- CPUID has one precision: with another its word encodes nothing; address 0x8000000000000000 is in no page that has a
translation. -/
theorem witness_StepTakesFetchAndDecodeExceptions :
    (let s := (before [] []).withFetchWord 48 0x0E00000001A1
     s.turn = some s ∧ s.canRun = true ∧ ∃ w t, fetch s = .ok w t ∧ s.par.decode w = .unimplemented .function) ∧
    let s := (before [] []).goto 0x8000000000000000#64
    s.turn = some s ∧ s.canRun = true ∧ ∃ e t, fetch s = .trap e t :=
  ⟨⟨by decide +kernel, by decide +kernel, fetches_ok (by decide +kernel)⟩, by decide +kernel, by decide +kernel, fetchRaises_trap (by decide +kernel)⟩

theorem witness_EveryStepKeepsInvariant :
    (before [] []).Inv ∧ ∃ t, step ((before [] []).withFetchWord 24 0x280210) = .next t :=
  ⟨before_inv, goesOn_next (by decide +kernel)⟩

theorem witness_EveryStepKeepsInvariant_reset : State.reset.Inv ∧ ∃ t, step State.reset = .next t :=
  ⟨by constructor <;> decide +kernel, goesOn_next (by decide +kernel)⟩

theorem witness_NoStepChangesParameters : ∃ t, step (pending .nmi) = .next t := goesOn_next (by decide)

theorem witness_LowerModesKeepPrivilegedStatus :
    userState.mode ≠ 3#2 ∧ (∃ t, exec .nop userState = .next t) ∧ ∃ t, exec .brk userState = .next t :=
  ⟨by decide, completes_next (by decide), completes_next (by decide)⟩

theorem witness_RegisterFileByMode :
    (30#6 ≠ 31#6 ∧ 63#6 ≠ 0#6 ∧ 62#6 ≠ userState.physical 63#6) ∧
    (0#6).toNat ≤ 32 ∧ (32#6).toNat ≤ 32 ∧ 41 ≤ (41#6).toNat ∧ 41 ≤ (63#6).toNat ∧ 36 ≤ (36#6).toNat ∧
    (40#6).toNat ≤ 40 ∧ userState.mayUse 32#6 = true ∧ userState.mayUse 33#6 = false ∧ userState.mayUse 36#6 = false ∧
    userState.mayUse 40#6 = false ∧ userState.mayUse 41#6 = true := by decide

theorem witness_ForbiddenRegistersRaise :
    (let f : R3 := ⟨.octa, 3#4, false, 0#6, false, 2#6, false, 35#6, false, 1#6⟩
     fuseDefined f.op4 = true ∧ userState.pfx = none ∧
       (userState.mayUse f.ra && userState.mayUse f.rb && userState.mayUse f.rc && userState.mayUse f.rt) = false) ∧
    (let f : RIForm := .long ⟨.i23 1#23, .octa, false, 1#6, false, 33#6⟩
     (userState.mayUse (viewOf f).ra && userState.mayUse (viewOf f).rt) = false) ∧
    (let f : LS := ⟨.d16 0#16, 0#3, 40#6, 1#6, 2#6⟩
     (userState.mayUse f.ra && userState.mayUse f.rb && userState.mayUse f.rt) = false) ∧
    let f : Br := ⟨3#2, 0#21, 34#6, 1#6⟩
    userState.precisionOk f.prc = true ∧ (userState.mayUse f.ra && userState.mayUse f.rb) = false := by decide

/-- CSR 0x3006 from user mode, and CSR 0x2006 from supervisor mode. -/
theorem witness_ForbiddenControlRegistersRaise :
    (let f : Csr := ⟨0x3006#14, false, 1#6, false, 2#6⟩
     userState.mode.toNat < (f.regno.extractLsb' 12 2).toNat) ∧
    let f : CsrImm := ⟨0x2006#14, 1#7, false, 2#6⟩
    ({ userState with sr := 0x2000#32 }).mode.toNat < (f.regno.extractLsb' 12 2).toNat := by decide

theorem witness_ExceptionEntryPushesAndVectors :
    (before [] []).par.vectorRule = .alternate ∧
    ({ before [] [] with par := { Params.reset with vectorRule := .direct } }).par.vectorRule = .direct ∧
    (15#8).toNat ≤ 15 ∧ 15 < (16#8).toNat ∧ (Trap.plain 15#8).cause = 15#8 ∧ (Trap.plain 16#8).cause = 16#8 ∧
    (Trap.agent 10#8 1#6).cause = 10#8 := by decide

theorem witness_ReturnUndoesException : (before [] []).sr &&& srDefined = (before [] []).sr := by decide

theorem witness_ReturnsPopTheStacks :
    (before [] []).mode = 3#2 ∧ userState.mode ≠ 3#2 ∧ ({ userState with sr := 0x4000#32 }).mode ≠ 3#2 := by decide

theorem witness_BreakAndAtom : 0 < 5 ∧ 4 < 5 ∧ 10 < 11 ∧ 19 ≠ 18 ∧ 14 < 19 ∧ 4 < 5 := by decide

theorem witness_NopDoesNothing :
    fld 0xFFFFFC#96 2 7 = 127#7 ∧ fld 0xFFFFFC#96 0 2 = 0#2 ∧ fld 0xFFFFFF#96 2 7 = 127#7 ∧ fld 0xFFFFFF#96 0 2 ≠ 0#2 := by decide

theorem witness_ReservedEncodingsRaise :
    Instr.csrOp4 ∈ reservedInstrs ∧ Instr.reservedRoot1696 ∈ reservedInstrs := by decide

/-- A message of priority `p` for vector 5 of machine mode. -/
def message (p : BitVec 6) : Msg := ⟨5#11, 3#2, 62#6, p, 0#3, 0#13, 7#8⟩

/-- A machine whose controller holds the message and lets it through, with a status register. -/
def interrupted (sr : BitVec 32) (p : BitVec 6) : State :=
  { pending (.present 0) with
    sr := sr
    qic := { Qic.reset with
      ge := 1#64
      held := [message p]
      enable := [(96, 0x20#64)]
      afn := [(0, 2#64)]
      vt := [((3 * 2048 + 5) * 16 + 12, 2#8)] } }

/-- Kept out by the mask level, the enable bit, the software stack and the ATOM window. -/
theorem witness_InterruptsAreRecognisedByRule_masked :
    (let s := interrupted 0x60A8#32 5#6
     s.agenda = [.present 0] ∧ s.qic.held[0]? = some (message 5#6) ∧ s.par.irqDispatch = .tvec ∧
       (message 5#6).priority.toNat ≤ (srIpl s.sr).toNat) ∧
    (interrupted 0x6080#32 5#6).sr.getLsbD (interrupted 0x6080#32 5#6).mode.toNat = false ∧
    (let s := interrupted 0x106088#32 5#6
     srSwstk s.sr ≠ s.qic.vectorSwstk (message 5#6).mode (message 5#6).vector) ∧
    ({ interrupted 0x6088#32 5#6 with atom := [7#3] }).atom.head? = some 7#3 := by decide

theorem witness_InterruptsAreRecognisedByRule_taken :
    let s := interrupted 0x6088#32 5#6
    s.agenda = [.present 0] ∧ s.qic.held[0]? = some (message 5#6) ∧ s.par.irqDispatch = .tvec ∧
      s.qic.deliverable (message 5#6) = true ∧ s.qic.reaches s.par.coreno (message 5#6) = true ∧
      s.recognises (message 5#6).priority (s.qic.vectorSwstk (message 5#6).mode (message 5#6).vector) = true := by decide

theorem witness_InterruptsAreRecognisedByRule_inputs :
    (pending .nmi).agenda = [.nmi] ∧ (pending .abort).agenda = [.abort] := by decide

/-- The last registers of each table, a word that clears and one that triggers. -/
theorem witness_InterruptsAreRecognisedByRule_registers :
    Sparse.wf Qic.reset.afn = true ∧ Sparse.wf Qic.reset.enable = true ∧ Sparse.wf Qic.reset.pending = true ∧ 255 < 256 ∧
    0 < 256 ∧ 127 < 128 ∧ 63 < 64 ∧ (5#64).getLsbD 63 = false ∧ (0x8000000000000005#64).getLsbD 63 = true ∧ 4 ≠ 8 := by decide

/-- A component whose timer 7, the last, counts from `cc` under control bits `ctrl`. -/
def counting (cc : Word) (ctrl : BitVec 5) : Qit :=
  { Qit.zero with timers := Qit.zero.timers.set 7 { Timer.zero with cc := cc, mc := 9#64, ctrl := ctrl }, gate := 0x80#64 }

theorem witness_TimersCountDown :
    Params.reset.hasTimer 7 = true ∧
    (∀ q ∈ [counting 1#64 2#5, counting 0#64 2#5, counting 0#64 6#5],
      q.timers[7].ctrl.getLsbD 1 = true ∧ q.gate.getLsbD 7 = true ∧ q.timers[7].ctrl.getLsbD 4 = false) ∧
    (counting 1#64 2#5).timers[7].cc ≠ 0#64 ∧ (counting 0#64 2#5).timers[7].cc = 0#64 ∧
    (counting 0#64 6#5).timers[7].ctrl.getLsbD 2 = true ∧ (counting 0#64 2#5).timers[7].ctrl.getLsbD 2 = false ∧
    (counting 0#64 0x12#5).timers[7].ctrl.getLsbD 4 = true ∧ (6 : Fin 32) ≠ 7 ∧ Params.reset.hasTimer 8 = false ∧
    Params.reset.hasTimer 0 = true ∧ Params.reset.hasTimer 3 = true ∧ (0x80#64).getLsbD 7 = true ∧ (0x80#64).getLsbD 6 = false ∧
    4 ≠ 8 := by decide

/-- A machine whose page 1 user mode may read only. -/
def readOnly : State := { userState with tlb := [{ pageOne with urwx := 4#3 }] }

theorem witness_TranslationChecksRights :
    let e : TlbEntry := { pageOne with urwx := 4#3 }
    readOnly.tlbFind (vpnOf 0x3FFF#64) = some e ∧ e.pmtValid = true ∧ readOnly.permits .read e = true ∧
      readOnly.granular .read e 0x3FFF#64 1 = true ∧ readOnly.permits .write e = false ∧
      readOnly.permits .execute e = false ∧ readOnly.accessMode .read = 0#2 := by decide

theorem witness_WalkPastTheRootFaults :
    let s := before [] []
    s.tlbFind (vpnOf 0x8000000000000000#64) = none ∧ s.ptw.hierarchical = true ∧
      s.ptw.limit < (0x8000000000000000#64).toNat / 2 ^ (13 + 10 * (s.ptw.rootLevel - 1)) := by decide

/-- A machine whose root table, with `attr` as PT_ATTR, has the entry `e` for page 2, and whose octa at 0x6010 is `e2`. -/
def rooted (attr e e2 : Word) : State :=
  let s := before [] (((List.range 8).map fun k => (0x10010 + k, e.extractLsb' (8 * k) 8)) ++
    (List.range 8).map fun k => (0x6010 + k, e2.extractLsb' (8 * k) 8))
  { s with ptw := { s.ptw with base := 0x10000#64, attr := attr } }

/-- Root entries of level 0, of level 1, shortcuts of level 2 on both sides of the limit and of level 5. -/
theorem witness_WalkPastTheRootFaults_entries :
    let found (s : State) (e : Word) :=
      s.tlbFind (vpnOf 0x4000#64) = none ∧ s.ptw.hierarchical = true ∧
        (0x4000#64).toNat / 2 ^ (13 + 10 * (s.ptw.rootLevel - 1)) ≤ s.ptw.limit ∧
        s.holdsOcta (s.ptw.base.toNat / 8 * 8 + 8 * ((0x4000#64).toNat / 2 ^ (13 + 10 * (s.ptw.rootLevel - 1)))) e = true
    (found (rooted 0x1FFF081#64 7#64 0#64) 7#64 ∧
      found (rooted 0x1FFF081#64 0x2000000000000007#64 0#64) 0x2000000000000007#64 ∧
      found (rooted 0x1FFF081#64 0x5000000000000005#64 0#64) 0x5000000000000005#64 ∧
      found (rooted 0x1FFF081#64 0x5000000000000001#64 0#64) 0x5000000000000001#64 ∧
      found (rooted 0x1FFF081#64 0xB000000000000005#64 0#64) 0xB000000000000005#64) ∧
    ((7#64).extractLsb' 61 3).toNat = 0 ∧ ((0x2000000000000007#64).extractLsb' 61 3).toNat = 1 ∧
    ((0x5000000000000005#64).extractLsb' 61 3).toNat = 2 ∧ (0x5000000000000005#64).getLsbD 60 = true ∧
    (0x5000000000000001#64).toNat % 2 ^ 10 < (vpnOf 0x4000#64).toNat % 2 ^ 10 ∧
    (vpnOf 0x4000#64).toNat % 2 ^ 10 ≤ (0x5000000000000005#64).toNat % 2 ^ 10 ∧
    4 < ((0xB000000000000005#64).extractLsb' 61 3).toNat ∧ (0xB000000000000005#64).getLsbD 60 = true :=
  ⟨⟨by decide +kernel, by decide +kernel, by decide +kernel, by decide +kernel, by decide +kernel⟩, by decide +kernel⟩

/-- Two levels: the root's entry names the table in page 3, whose entry for page 2 has level 1; and rights yet to be read. -/
theorem witness_WalkPastTheRootFaults_deeper :
    (let e := 0x4000000000000003#64
     let s : State := { rooted 0x1FFF281#64 0#64 0x2000000000000009#64 with
       mem := (rooted 0x1FFF281#64 0#64 0x2000000000000009#64).mem.setByte 0x10000 3#8 |>.setByte 0x10007 0x40#8 }
     s.tlbFind (vpnOf 0x4000#64) = none ∧ s.ptw.hierarchical = true ∧
       (0x4000#64).toNat / 2 ^ (13 + 10 * (s.ptw.rootLevel - 1)) ≤ s.ptw.limit ∧
       s.holdsOcta (s.ptw.base.toNat / 8 * 8 + 8 * ((0x4000#64).toNat / 2 ^ (13 + 10 * (s.ptw.rootLevel - 1)))) e = true ∧
       2 ≤ (e.extractLsb' 61 3).toNat ∧ e.getLsbD 60 = false ∧ s.ptw.rootLevel = 2 ∧
       s.holdsOcta (e.toNat % 2 ^ 57 * 2 ^ 13 + 8 * ((0x4000#64).toNat / 2 ^ 13 % 1024)) 0x2000000000000009#64 = true ∧
       (0x2000000000000009#64).extractLsb' 61 3 = 1#3) ∧
    let s := before [] []
    let e : TlbEntry := { pageOne with pmtValid := false }
    let pa := (s.rgn[e.rgn.toNat]'e.rgn.isLt).pmt.toNat + 16 * e.ppn.toNat
    e.pmtValid = false ∧ s.holdsOcta pa 0#64 = true ∧ s.holdsOcta (pa + 8) 0#64 = true := by decide +kernel

/-- The last access of each width in page 1. -/
theorem witness_LoadsSeeStores :
    (before [] []).Inv ∧
    ∀ p ∈ [(1, 0x3FFF#64), (2, 0x3FFE#64), (4, 0x3FFC#64), (8, 0x3FF8#64)],
      (before [] []).canAccess .write p.2 p.1 pageOne = true ∧ (before [] []).canAccess .read p.2 p.1 pageOne = true :=
  ⟨before_inv, by decide +kernel⟩

/-- The TLB entry that maps page 0 to itself. -/
def pageZero : TlbEntry := { TlbEntry.preload with vpn := 0#51, ppn := 0#57 }

/-- Misaligned accesses within page 1, and from page 0 into page 1, split after the fourth and after the seventh byte. -/
theorem witness_LoadsSeeStores_misaligned :
    let s := before [] []
    let within (va : Word) := (va.toNat % 2 ^ 13 + 8 ≤ 2 ^ 13 ∧ s.canPass .write va va 8 pageOne = true) ∧
      s.canPass .read va va 8 pageOne = true ∧ s.allMemory va (pageOne.physAddr va) 8 = true
    let across (va : Word) (c : Nat) := (va.toNat % 2 ^ 13 + c = 2 ^ 13 ∧ 0 < c ∧ c < 8) ∧
      s.canPass .read va va 8 pageZero = true ∧ s.canPass .read va (va + BitVec.ofNat 64 c) 8 pageOne = true ∧
      s.allMemory va (pageZero.physAddr va) c = true ∧
      s.allMemory (va + BitVec.ofNat 64 c) (pageOne.physAddr (va + BitVec.ofNat 64 c)) (8 - c) = true
    (s.Inv ∧ s.par.misaligned = .bytewise) ∧ within 0x2001#64 ∧ within 0x3FF8#64 ∧ across 0x1FFC#64 4 ∧ across 0x1FF9#64 7 ∧
    isAligned 0x2001#64 2 = false ∧
    ({ s with par := { Params.reset with misaligned := .fault } }).par.misaligned = .fault ∧
    ({ s with par := { Params.reset with misaligned := .refuse } }).par.misaligned = .refuse :=
  ⟨⟨before_inv, by decide +kernel⟩, by decide +kernel, by decide +kernel, by decide +kernel, by decide +kernel, by decide +kernel, by decide +kernel, by decide +kernel⟩

/-- The last octa of page 1, of which responses for the last byte carry `Err`. -/
def erring : State := { before [] [] with errs := [(0x3FFF, 1#1)] }

theorem witness_LoadsSeeStores_busError :
    erring.Inv ∧ isAligned 0x3FF8#64 8 = true ∧ 7 < 8 ∧
    (∀ j, j < 7 → erring.port (0x3FF8#64 + BitVec.ofNat 64 j) (pageOne.physAddr 0x3FF8#64 + j) = .memory) ∧
    erring.port (0x3FF8#64 + BitVec.ofNat 64 7) (pageOne.physAddr 0x3FF8#64 + 7) = .nothing ∧
    erring.canPass .read 0x3FF8#64 0x3FF8#64 8 pageOne = true ∧ erring.canPass .write 0x3FF8#64 0x3FF8#64 8 pageOne = true ∧
    Sparse.get erring.errs 0x3FFF = 1#1 :=
  ⟨by constructor <;> decide +kernel, by decide +kernel, by decide +kernel, by decide +kernel, by decide +kernel, by decide +kernel, by decide +kernel, by decide +kernel⟩

/-- A device write answers. -/
def deviceTakes (p : Place) (n : Nat) (v : Word) (s : State) : Bool :=
  match deviceWrite p n v s with
  | .ok _ _ => true
  | .trap _ _ => false
  | .stop _ => false

theorem deviceTakes_ok {p : Place} {n : Nat} {v : Word} {s : State} (h : deviceTakes p n v s = true) :
    ∃ t, deviceWrite p n v s = .ok () t := by
  unfold deviceTakes at h
  split at h
  · exact ⟨_, ‹_›⟩
  · cases h
  · cases h

/-- The TLB entry that maps the page of a device's default address to itself, and the machine that has it. -/
def devicePage (base : Nat) : TlbEntry :=
  { TlbEntry.preload with vpn := BitVec.ofNat 51 (base / 2 ^ 13), ppn := BitVec.ofNat 57 (base / 2 ^ 13) }

theorem witness_LoadsSeeStores_devices :
    let s : State := { before [] [] with tlb := [devicePage 0xFFFFFFFFFEE20000] }
    (s.canReach .read 0xFFFFFFFFFEE20390#64 8 (devicePage 0xFFFFFFFFFEE20000) (.qic 0x390) = true ∧
      s.canReach .write 0xFFFFFFFFFEE20390#64 8 (devicePage 0xFFFFFFFFFEE20000) (.qic 0x390) = true) ∧
    (∃ t, deviceWrite (.qic 0x390) 8 5#64 s = .ok () t) ∧
    ((∀ off second, Place.vectors 3 ≠ .qic off ∧ Place.vectors 3 ≠ .timers second off) ∧ ∀ off, Place.vectors 3 ≠ .walker off) :=
  ⟨by decide, deviceTakes_ok (by decide), fun _ _ => ⟨by simp, by simp⟩, by simp⟩

theorem witness_LanesAreIndependent : 1 < 2 ∧ 3 < 4 ∧ 7 < 8 := by decide

/-- The ends of the lanes; a NaN, two numbers, and two numbers that are not infinite. -/
theorem witness_CompareResultBits :
    (8 ≤ 64 ∧ 8 ≤ 8 ∧ (7#8).toNat < 8 ∧ (63#64).toNat < 64 ∧ 3 < 4) ∧
    (fcmpVector .half 0x7E00#64 0#64 0#64).getLsbD 13 = true ∧ (fcmpVector .half 0xFC00#64 0x7C00#64 0#64).getLsbD 13 = false ∧
    (fIsInf .half 0xFBFF#64 || fIsInf .half 0x7BFF#64) = false := by decide

theorem witness_SquareRootIsFloor : 8 = 8 ∨ 8 = 16 ∨ 8 = 32 ∨ 8 = 64 := by decide

/-- The whole pair's upper end, and a field that crosses the middle. -/
theorem witness_RightShiftsTakeTheField :
    (rangeImm ⟨.octa, 127#7, 64#7, false, 2#6, false, 1#6, false, 3#6⟩).valid 64 = true ∧
    (rangeImm ⟨.octa, 71#7, 8#7, false, 2#6, false, 1#6, false, 3#6⟩).valid 64 = true ∧
    (rangeImm ⟨.octa, 0#7, 0#7, false, 2#6, false, 1#6, false, 3#6⟩).valid 64 = true ∧ 63 < 64 := by decide

theorem witness_ControlRegistersReadBack :
    (CsrName.badAddr ≠ CsrName.sr 3#2 ∧ (∀ m, CsrName.badAddr ≠ CsrName.sr m) ∧ CsrName.sr 3#2 ≠ CsrName.absent ∧
      CsrName.sr 3#2 ≠ CsrName.seed ∧ CsrName.sr 3#2 ≠ CsrName.tick) ∧
    (0#2).toNat < 3 ∧ (2#2).toNat < 3 ∧
    ((0x1FFF081#64).extractLsb' 6 2 = 2#2 ∧ (0x1FFF081#64).getLsbD 3 = false) ∧ (0x41#64).extractLsb' 6 2 ≠ 2#2 ∧
    (0x1FFF089#64).getLsbD 3 = true ∧ ((7 : Fin 8), (2 : Fin 3), true) ≠ (7, 2, false) := by decide

/-- Registers of every bank that machine mode may name, for the forms of three operands. -/
def r3 (op4 : BitVec 4) : R3 := ⟨.octa, op4, true, 63#6, false, 2#6, true, 31#6, true, 35#6⟩

theorem witness_LogicalInstructions :
    (before [] []).ready3 (r3 0#4) = true ∧ (before [] []).ready3 (r3 15#4) = true ∧ userState.ready3 ⟨.byte, 0#4, false, 0#6, false,
      0#6, false, 0#6, false, 0#6⟩ = true ∧
    fuseDefined (r3 0#4).op4 = true ∧ fuseDefined (r3 3#4).op4 = true ∧ (r3 15#4).op4 = 15#4 ∧ 4 ≤ (r3 4#4).op4.toNat ∧
    (r3 4#4).op4 ≠ 15#4 ∧ 4 ≤ (r3 14#4).op4.toNat := by decide

theorem witness_RegisterFormsThatRaise :
    4 ≤ (r3 4#4).op4.toNat ∧ (r3 4#4).op4 ≠ 11#4 ∧ (r3 4#4).op4 ≠ 15#4 ∧ 4 ≤ (r3 11#4).op4.toNat ∧ 4 ≤ (r3 9#4).op4.toNat ∧
    (before [] []).ready3 (r3 3#4) = true ∧ fuseDefined (r3 3#4).op4 = true ∧
    anyLane (r3 3#4).prec (fun _ v => v == 0) ((before [] []).value .b (r3 3#4).rb) = true := by decide

theorem witness_CompareInstructions :
    (before [] []).ready3 (r3 3#4) = true ∧ fuseDefined (r3 3#4).op4 = true ∧ ((r3 15#4).op4 == 15#4) = true := by decide

theorem witness_SumsProductsAndQuotients :
    let s := before [(2#6, 3#64)] []
    s.ready3 (r3 1#4) = true ∧ ((r3 3#4).op4 == 3#4) = true ∧ ((r3 15#4).op4 == 15#4) = true ∧
    (fuseDefined (r3 1#4).op4 && !anyLane (r3 1#4).prec (fun _ v => v == 0) (s.value .b (r3 1#4).rb)) = true ∧
    let f : Bmm := ⟨0#3, false, 2#6, true, 31#6, true, 63#6⟩
    s.readable .a f.ra = true ∧ s.readable .b f.rb = true ∧ s.writable f.rt = true ∧ f.op3 = 0#3 := by decide

theorem witness_SumsProductsAndQuotients_short :
    let s : State := { before [] [] with ir := 0xF83E40#96 }
    let f : R24 := ⟨fld s.ir 19 5, fld s.ir 14 5, fld s.ir 9 5⟩
    s.readable .a (f.ra.setWidth 6) = true ∧ s.readable .b (f.rb.setWidth 6) = true ∧ s.writable (f.rt.setWidth 6) = true ∧
      ({ s with par := { Params.reset with op16 := .add } }).par.op16 = .add ∧
      ({ s with par := { Params.reset with op16 := .and } }).par.op16 = .and := by decide

theorem witness_SelectionInstructions :
    let s := before [] []
    let p : State := { s with par := { Params.reset with mid3 := .printed } }
    s.ready3 (r3 0#4) = true ∧ (s.par.mid3 == .median) = true ∧ p.ready3 (r3 1#4) = true ∧ (p.par.mid3 == .printed) = true ∧
      ((r3 0#4).op4 == 0#4) = true ∧ ((r3 1#4).op4 == 1#4 && (r3 1#4).prec == .octa) = true := by decide

theorem witness_ConditionalMovesAndSets :
    let s := before [] []
    let f : R3 := ⟨.octa, 8#4, false, 3#6, false, 2#6, false, 1#6, false, 4#6⟩
    let g : R3 := ⟨.byte, 8#4, false, 3#6, false, 2#6, false, 1#6, true, 4#6⟩
    s.ready3 f = true ∧ f.nt = false ∧ s.ready3 (r3 15#4) = true ∧ (r3 15#4).op4 ≠ 8#4 ∧
      s.ready3 g = true ∧ allLanes .eq g (s.value .a g.ra) (s.value .b g.rb) = true ∧
      (s.par.setByAnalogy == .pattern) = true := by decide

theorem witness_SetOnImmediate :
    let s := before [] []
    let f : RI := ⟨.i71 (BitVec.allOnes 71), .octa, true, 63#6, true, 31#6⟩
    s.readable .a f.ra = true ∧ s.writable f.rt = true ∧ s.par.setByAnalogy = .pattern := by decide

theorem witness_ImmediateInstructions :
    let s := before [] []
    let f : RIForm := .long ⟨.i71 (BitVec.allOnes 71), .octa, true, 63#6, true, 31#6⟩
    let g : RIForm := .short ⟨31#5, 31#5, 0#5⟩
    s.readable .a (viewOf f).ra = true ∧ s.writable (viewOf f).rt = true ∧
      s.readable .a (viewOf g).ra = true ∧ s.writable (viewOf g).rt = true := by decide

theorem witness_OneOperandInstructions :
    let s := before [] []
    let f : R1 := ⟨.byte, 0#4, true, 63#6, true, 31#6⟩
    s.readable .a f.ra = true ∧ s.writable f.rt = true ∧ (f.op4 == 0#4) = true := by decide

theorem witness_ScaledIndexAndMap :
    let s := before [] []
    (let f : R3 := r3 8#4
     s.readable .a f.ra = true ∧ s.readable .b f.rb = true ∧ s.writable f.rt = true ∧ f.op4.getLsbD 3 = true) ∧
    (let f : R3 := r3 0#4
     f.op4.getLsbD 3 = false ∧ s.readable .c f.rc = true) ∧
    (let f : Ndx := ⟨.byte, false, 3#2, 0xFF#8, true, 63#6, true, 31#6, true, 35#6⟩
     s.readable .a f.ra = true ∧ s.readable .b f.rb = true ∧ s.writable f.rt = true ∧ f.bi = false) ∧
    let f : R3 := r3 0#4
    s.readable .a f.ra = true ∧ s.readable .c f.rc = true ∧ s.writable f.rt = true ∧ f.op4 = 0#4 ∧ f.prec = .octa := by decide

theorem witness_ExtendAndMove :
    let s := before [] []
    (let f : ExtImm := ⟨63#6, false, 63#6⟩
     s.writable f.rt = true ∧ f.nt = false) ∧
    (let f : ExtReg := ⟨false, 63#6, false, 31#6⟩
     s.readable .a f.ra = true ∧ s.writable f.rt = true ∧ f.na = false ∧ f.nt = false) ∧
    (let f : MoveF := ⟨false, false, 31#6, false, 63#6⟩
     f.a = false ∧ s.readable .a f.ra = true ∧ s.writable f.rt = true ∧ f.na = false ∧ f.nt = false) ∧
    (let f : MoveF := ⟨true, false, 31#6, false, 1#6⟩
     userState.pfx = none ∧ userState.mode = 0#2 ∧ f.a = true ∧ f.ra = 31#6) ∧
    (let f : MoveF := ⟨true, false, 31#6, false, 1#6⟩
     s.pfx = none ∧ s.mode ≠ 0#2 ∧ f.na = false ∧ f.nt = false ∧ f.a = true ∧ f.ra = 31#6 ∧ f.rt ≠ 31#6 ∧ s.mayUse f.rt = true) ∧
    let f : MoveF := ⟨true, false, 1#6, false, 31#6⟩
    f.na = false ∧ f.nt = false ∧ f.a = true ∧ f.rt = 31#6 ∧ f.ra ≠ 31#6 ∧ s.mayUse f.ra = true := by decide

theorem witness_ControlRegisterInstructions :
    let s := before [] []
    (let f : Csr := ⟨0x3004#14, false, 31#6, false, 63#6⟩
     (f.regno.extractLsb' 12 2).toNat ≤ s.mode.toNat ∧ s.readable .a f.ra = true ∧ s.writable f.rt = true ∧ f.na = false ∧
       f.nt = false) ∧
    let f : CsrImm := ⟨0x0004#14, 127#7, false, 63#6⟩
    (f.regno.extractLsb' 12 2).toNat ≤ userState.mode.toNat ∧ userState.writable f.rt = true ∧ f.nt = false := by decide

/-- Op4 = 0 and 10, the ends of the range, one passing and one failing. -/
theorem witness_ChecksPassOrRaise :
    let s := before [(1#6, 5#64), (2#6, 3#64), (3#6, 9#64)] []
    let f : Chk := ⟨0#4, false, 3#6, false, 2#6, false, 1#6, 63#6⟩
    let pass (f : Chk) := chkPasses true f.op4 (neg f.na (s.value .a f.ra)) (neg f.nb (s.value .b f.rb))
      (neg f.nc (s.value .c f.rc)) ((srCpl s.sr).setWidth 64) (s.gprPhys 53#6)
    s.readable .a f.ra = true ∧ s.readable .b f.rb = true ∧ s.readable .c f.rc = true ∧ f.op4.toNat < 11 ∧
      (10#4).toNat < 11 ∧ pass f = some true ∧ pass { f with ra := 2#6, rb := 1#6 } = some false := by decide

theorem witness_AddressAndIdentity :
    let s := before [] []
    let signed : State := { s with par := { Params.reset with auiipExt := .sign } }
    let refusing : State := { s with par := { Params.reset with auiipExt := .refuse } }
    (let f : Cpuid := ⟨63#6, true, 63#6, true, 31#6, false, 63#6⟩
     s.readable .a f.ra = true ∧ s.readable .b f.rb = true ∧ s.writable f.rt = true ∧ f.nt = false) ∧
    (let f : LS := ⟨.d64 (BitVec.allOnes 64), 7#3, 63#6, 31#6, 63#6⟩
     s.readyAddr f = true ∧ s.writable f.rt = true) ∧
    s.writable 31#6 = true ∧ s.par.auiipExt = .zero ∧ signed.par.auiipExt = .sign ∧ refusing.par.auiipExt = .refuse ∧
    immTop (.i47 (BitVec.allOnes 47)) = true ∧ immTop (.i47 0#47) = false ∧ signed.writable ((31#5).setWidth 6) = true ∧
    (31#5).msb = true ∧ (15#5).msb = false := by decide

/-- The machine under a value of `OP58_48` and of `AUIIP_EXT`. -/
def at58 (rule : Op58) (ext : AuiipExt) : State :=
  { before [] [] with par := { Params.reset with op58 := rule, auiipExt := ext } }

/-- Words of root opcode 58 under each value. -/
theorem witness_AddressAndIdentity_opcode58 :
    ((at58 .refuse .zero).par.op58 = .refuse ∧ (at58 .auiip .zero).par.op58 = .auiip ∧ (at58 .flt32 .zero).par.op58 = .flt32) ∧
    ((at58 .auiip .zero).writable (fld (opcode58Word 0x1#39) 9 6) = true ∧
      (at58 .auiip .sign).writable (fld (opcode58Word 0x1#39) 9 6) = true ∧
      (at58 .auiip .refuse).writable (fld (opcode58Word 0x4000000001#39) 9 6) = true) ∧
    ((at58 .auiip .zero).par.auiipExt = .zero ∧ (at58 .auiip .sign).par.auiipExt = .sign ∧
      (at58 .auiip .refuse).par.auiipExt = .refuse) ∧
    (opcode58Word 0x1#39).getLsbD 47 = false ∧ (opcode58Word 0x4000000001#39).getLsbD 47 = true ∧
    fld (0xE9#96) 2 7 = 58#7 := by decide +kernel

/-- Each instruction of the single-precision group. -/
theorem witness_AddressAndIdentity_single :
    (∀ i ∈ [Instr.fma ⟨.single, 0#3, 3#6, false, 2#6, false, 1#6, false, 4#6⟩,
        .fms ⟨.single, 0#3, 3#6, false, 2#6, false, 1#6, false, 4#6⟩, .fadd ⟨.single, 0#3, 2#6, false, 1#6, false, 3#6⟩,
        .fsub ⟨.single, 0#3, 2#6, false, 1#6, false, 3#6⟩, .fsne ⟨.single, false, 2#6, false, 1#6, false, 3#6⟩,
        .fslt ⟨.single, false, 2#6, false, 1#6, false, 3#6⟩, .fcmp ⟨.single, false, 2#6, false, 1#6, false, 3#6⟩,
        .fabs ⟨.single, false, 1#6, 3#6⟩, .fnabs ⟨.single, false, 1#6, 3#6⟩, .fsqrt ⟨.single, 0#3, false, 1#6, false, 3#6⟩,
        .ftrunc ⟨.single, 0#3, false, 1#6, false, 3#6⟩, .fcos ⟨.single, 0#3, 1#3, false, 1#6, false, 3#6⟩],
      decodeFlt (opcode58Word (fld (encode i) 9 39)) = .instr i) ∧
    decodeFlt (opcode58Word 0x7F00000000#39) = .unimplemented .function := by decide +kernel

theorem witness_ShiftInstructions :
    let s := before [] []
    (let f : Shift := ⟨.octa, false, 63#6, true, 2#6, true, 31#6, true, 35#6⟩
     s.readable .a f.ra = true ∧ s.readable .b f.rb = true ∧ s.readable .c f.rc = true ∧ s.writable f.rt = true ∧
       f.nc = false) ∧
    (let f : ShiftI := ⟨.octa, 127#7, 127#7, true, 2#6, true, 31#6, true, 35#6⟩
     s.readable .a f.ra = true ∧ s.readable .b f.rb = true ∧ s.writable f.rt = true) ∧
    (let f : ShiftH := ⟨.byte, true, false, 63#6, true, 2#6, true, 31#6, true, 35#6⟩
     s.readable .a f.ra = true ∧ s.readable .b f.rb = true ∧ s.readable .c f.rc = true ∧ s.writable f.rt = true ∧
       f.nc = false) ∧
    (let f : ShiftHI := ⟨.byte, true, 127#7, true, 2#6, true, 31#6, true, 35#6⟩
     s.readable .a f.ra = true ∧ s.readable .b f.rb = true ∧ s.writable f.rt = true) ∧
    127 < 64 + 64 ∧ 15 < 8 + 8 ∧ 63 < 64 ∧ 0 < 8 := by decide

theorem witness_DepositInstructions :
    let s := before [] []
    (let f : Shift := ⟨.octa, false, 63#6, true, 2#6, false, 31#6, false, 32#6⟩
     s.pfx = none ∧ f.na = false ∧ f.nt = false ∧ f.nc = false ∧ s.mayUse f.ra = true ∧ s.mayUse f.rb = true ∧
       s.mayUse f.rc = true ∧ s.mayUse f.rt = true ∧ f.ra ≠ 0#6 ∧ f.rt ≠ 0#6 ∧ s.physical f.ra ≠ s.physical f.rt) ∧
    (let f : ShiftI := ⟨.byte, 127#7, 0#7, false, 0#6, false, 1#6, false, 63#6⟩
     f.na = false ∧ f.nt = false ∧ s.mayUse f.ra = true ∧ s.mayUse f.rb = true ∧ s.mayUse f.rt = true ∧ f.ra ≠ 0#6 ∧
       f.rt ≠ 0#6 ∧ s.physical f.ra ≠ s.physical f.rt) ∧
    (rangeImm ⟨.octa, 127#7, 64#7, false, 2#6, false, 1#6, false, 3#6⟩).valid 64 = true ∧ 127 < 64 + 64 ∧ 127 - 64 < 64 := by decide

theorem witness_FloatArithmeticAndComparisons :
    let s := before [] []
    roundingMode s.par.fcrRm 7#3 = some 0#3 ∧ roundingMode s.par.fcrRm 4#3 = some 4#3 ∧
    (let f : Flt3 := ⟨.double, 7#3, 63#6, true, 2#6, true, 31#6, true, 35#6⟩
     s.readable .a f.ra = true ∧ s.readable .b f.rb = true ∧ s.readable .c f.rc = true ∧ s.writable f.rt = true) ∧
    (let f : FltCos := ⟨.half, 4#3, fcosCode .half, true, 31#6, true, 35#6⟩
     f.prc3 = fcosCode f.fmt ∧ s.readable .a f.ra = true ∧ s.writable f.rt = true) ∧
    (let f : FltAdd := ⟨.half, 5#3, 63#6, true, 31#6, true, 35#6⟩
     f.rm = 5#3 ∧ s.readable .a f.ra = true ∧ s.readable .b f.rb = true ∧ s.writable f.rt = true) ∧
    fInfMagnitude .half ≤ fMagnitude .half 0xFC00#64 ∧ fMagnitude .half 0xFBFF#64 < fInfMagnitude .half := by decide

theorem witness_FloatArithmeticAndComparisons_compare :
    let s := before [] []
    let f : FltCmp := ⟨.half, true, 63#6, true, 31#6, true, 35#6⟩
    s.readable .a f.ra = true ∧ s.readable .b f.rb = true ∧ s.writable f.rt = true := by decide

theorem witness_FloatAbsoluteValues :
    let s := before [] []
    let f : FltAbs := ⟨.half, true, 31#6, 35#6⟩
    s.readable .a f.ra = true ∧ s.writable f.rt = true := by decide

/-- An operand triple whose address is that of the last octa of page 1. -/
def lastOcta : LS := ⟨.d16 0xFFF8#16, 3#3, 2#6, 1#6, 63#6⟩

/-- The machine in which `lastOcta` has that address. -/
def atLastOcta : State := before [(1#6, 0x2000#64), (2#6, 0x400#64)] []

theorem atLastOcta_inv : atLastOcta.Inv := by constructor <;> decide

theorem witness_LoadInstructions :
    atLastOcta.readyAddr lastOcta = true ∧ atLastOcta.writable lastOcta.rt = true ∧ atLastOcta.address lastOcta = 0x3FF8#64 ∧
    (∀ n ∈ [1, 2, 4, 8], atLastOcta.canAccess .read (atLastOcta.address lastOcta) n pageOne = true) ∧
    let f : LS24 := ⟨31#5, 1#5, 31#5⟩
    let s := before [(1#6, 0x4000#64)] []
    s.readable .a (f.ra.setWidth 6) = true ∧ s.writable (f.rt.setWidth 6) = true ∧
      s.canAccess .read (shortAddr (s.value .a (f.ra.setWidth 6)) f.disp) 8 pageOne = true := by decide +kernel

theorem witness_StoreInstructions :
    atLastOcta.Inv ∧ atLastOcta.readyAddr lastOcta = true ∧ atLastOcta.readable .t lastOcta.rt = true ∧
    (∀ n ∈ [1, 2, 4, 8], atLastOcta.canAccess .write (atLastOcta.address lastOcta) n pageOne = true) :=
  ⟨atLastOcta_inv, by decide +kernel, by decide +kernel, by decide +kernel⟩

theorem witness_StoreInstructions_short :
    let f : LS24 := ⟨15#5, 1#5, 31#5⟩
    let s := before [(1#6, 0x2000#64)] []
    s.Inv ∧ s.readable .a (f.ra.setWidth 6) = true ∧ s.readable .t (f.rt.setWidth 6) = true ∧
      s.canAccess .write (shortAddr (s.value .a (f.ra.setWidth 6)) f.disp) 8 pageOne = true :=
  ⟨by constructor <;> decide +kernel, by decide +kernel, by decide +kernel, by decide +kernel⟩

theorem witness_PointerStoresMarkCards :
    atLastOcta.Inv ∧ atLastOcta.readyAddr lastOcta = true ∧ atLastOcta.readable .t lastOcta.rt = true ∧
      atLastOcta.canAccess .write (atLastOcta.address lastOcta) 8 pageOne = true ∧ 63 < 64 :=
  ⟨atLastOcta_inv, by decide +kernel, by decide +kernel, by decide +kernel, by decide +kernel⟩

theorem witness_PointerStoresMarkCards_short :
    let f : LS24 := ⟨15#5, 1#5, 31#5⟩
    let s := before [(1#6, 0x2000#64)] []
    s.Inv ∧ s.readable .a (f.ra.setWidth 6) = true ∧ s.readable .t (f.rt.setWidth 6) = true ∧
      s.canAccess .write (shortAddr (s.value .a (f.ra.setWidth 6)) f.disp) 8 pageOne = true :=
  ⟨by constructor <;> decide +kernel, by decide +kernel, by decide +kernel, by decide +kernel⟩

theorem witness_CacheCommands :
    ∀ c ∈ [0#6, 1#6, 2#6, 3#6, 4#6, 63#6], atLastOcta.readyAddr { lastOcta with rt := c } = true ∧
      atLastOcta.canName (atLastOcta.address { lastOcta with rt := c }) pageOne = true ∧
      (c.extractLsb' 0 3 = 0#3 ∨ c.extractLsb' 0 3 = 1#3 ∨ c.extractLsb' 0 3 = 2#3 ∨ c.extractLsb' 0 3 = 3#3 ∨
        4 ≤ (c.extractLsb' 0 3).toNat) := by decide +kernel

/-- An address that has no translation, and one that no memory answers. -/
theorem witness_CacheCommands_raised :
    (let s := before [(1#6, 0x8000000000000000#64)] []
     let f : LS := ⟨.d16 0#16, 0#3, 2#6, 1#6, 1#6⟩
     s.readyAddr f = true ∧ ∃ e u, translate .read 0 (s.address f) (s.address f) s = .trap e u) ∧
    let s : State := { atLastOcta with par := { Params.reset with ramMap := [(0, 0x3000)] } }
    s.readyAddr lastOcta = true ∧ s.canPass .read (s.address lastOcta) (s.address lastOcta) 0 pageOne = true ∧
      s.port (s.address lastOcta) (pageOne.physAddr (s.address lastOcta)) = .nothing :=
  ⟨⟨by decide +kernel, translationRaises_trap (by decide +kernel)⟩, by decide +kernel, by decide +kernel, by decide +kernel⟩

theorem witness_IntegerBranches :
    let s := before [] []
    (∀ prc ∈ [0#2, 3#2], s.precisionOk prc = true) ∧ s.readable .a 63#6 = true ∧ s.readable .b 31#6 = true ∧
    (let f : BrReg := ⟨3#2, 0#15, 35#6, 31#6, 63#6⟩
     s.readable .a f.ra = true ∧ s.readable .b f.rb = true ∧ s.readable .c f.rc = true ∧ f.tgt = 0#15) ∧
    ({ s with par := { Params.reset with brPrc := .refuse } }).precisionOk 3#2 = true := by decide

theorem witness_BitFloatAndCountingBranches :
    let s := before [] []
    (let f : Br := ⟨3#2, 0#21, 63#6, 31#6⟩
     f.prc = 3#2 ∧ s.readable .a f.ra = true ∧ s.constant .a f.ra = none ∧ s.mayUse f.ra = true ∧ s.readable .b f.rb = true) ∧
    (let f : BrReg := ⟨3#2, 0#15, 35#6, 63#6, 31#6⟩
     f.prc = 3#2 ∧ s.readable .a f.ra = true ∧ s.readable .b f.rb = true ∧ s.readable .c f.rc = true ∧ f.tgt = 0#15 ∧
       s.constant .a f.ra = none ∧ s.mayUse f.ra = true) ∧
    (let f : FBr := ⟨3#2, 0#21, 63#6, 31#6, 13#4⟩
     f.prc = 3#2 ∧ f.fn.toNat < 14 ∧ s.readable .a f.ra = true ∧ s.readable .b f.rb = true) ∧
    (let f : FBrReg := ⟨3#2, 0#15, 35#6, 63#6, 31#6, 0#4⟩
     f.prc = 3#2 ∧ f.fn.toNat < 14 ∧ s.readable .a f.ra = true ∧ s.readable .b f.rb = true ∧ s.readable .c f.rc = true ∧
       f.tgt = 0#15) ∧
    14 ≤ (14#4).toNat ∧ s.par.fbccOpcode = .root42 ∧
    ({ s with par := { Params.reset with fbccOpcode := .refuse } }).par.fbccOpcode = .refuse := by decide

theorem witness_JumpsCallsAndReturns :
    let s := before [] []
    (let f : Bsr := ⟨BitVec.allOnes 37, 3#2⟩
     f.lk ≠ 0#2) ∧
    (let f : JmpS := ⟨.d64 1#64, 7#3, 63#6, 31#6⟩
     s.readable .a f.ra = true ∧ s.readable .b f.rb = true) ∧
    (let f : LS := ⟨.d64 1#64, 7#3, 63#6, 31#6, 35#6⟩
     s.readyAddr f = true ∧ s.writable f.rt = true) ∧
    (let f : RetF := ⟨.i71 1#71, false, 63#6, 15#4⟩
     f.ra ≠ 0#6 ∧ f.na = false ∧ s.readable .a f.ra = true) ∧
    (let f : Ret24 := ⟨31#5, 31#5, 15#4⟩
     f.ra ≠ 0#5 ∧ s.readable .a (f.ra.setWidth 6) = true) ∧
    let f : RetF := ⟨.i23 0#23, false, 0#6, 0#4⟩
    f.ra = 0#6 := by decide

/-- A table of octas that ends at the end of page 1. -/
theorem witness_TableJumps :
    let s := before [(1#6, 0x2000#64), (2#6, 0x3FF#64)] []
    (∀ ar ∈ [0#2, 1#2],
      let f : JmpI := ⟨.d16 0x400#16, ar, 3#3, 2#6, 1#6⟩
      let va := s.value .a f.ra + tableIndex (dispZext f.limit) (s.value .b f.rb) <<< f.sc.toNat
      s.readable .a f.ra = true ∧ s.readable .b f.rb = true ∧ f.ar.toNat < 2 ∧ f.sc.toNat < 4 ∧
        s.canAccess .read va (2 ^ f.sc.toNat) pageOne = true) ∧
    (let f : JsrI := ⟨.d16 0x400#16, 1#2, 0#3, 2#6, 1#6, 41#6⟩
     let va := s.value .a f.ra + tableIndex (dispZext f.limit) (s.value .b f.rb) <<< f.sc.toNat
     s.readable .a f.ra = true ∧ s.readable .b f.rb = true ∧ s.writable f.rt = true ∧ f.ar.toNat < 2 ∧ f.sc.toNat < 4 ∧
       s.canAccess .read va (2 ^ f.sc.toNat) pageOne = true) ∧
    ((BitVec.allOnes 64).toInt < 0 ∧ (5#64).toNat ≤ (5#64).toNat ∧ 0 ≤ (4#64).toInt ∧ (4#64).toNat < (5#64).toNat) ∧
    (let f : JmpI := ⟨.d16 5#16, 0#2, 4#3, 2#6, 1#6⟩
     f.ar = 0#2 ∧ f.sc = 4#3) ∧
    2 ≤ (2#2).toNat ∧ 4 < (5#3).toNat := by decide +kernel

theorem witness_CapabilityRegisters :
    let s := before [] []
    (let f : Cap2 := ⟨63#6, 31#6⟩
     s.readable .a f.ca = true ∧ s.writable f.ct = true) ∧
    (let f : CapR := ⟨false, 63#6, false, 31#6, false, 35#6⟩
     s.par.capModel = .external ∧ s.pfx = none ∧ f.na = false ∧ f.nb = false ∧ f.nt = false ∧ s.mayUse f.ca = true ∧
       s.mayUse f.rb = true ∧ s.mayUse f.ct = true) ∧
    (let f : CapI := ⟨BitVec.allOnes 18, false, 31#6, false, 35#6⟩
     f.na = false ∧ f.nt = false ∧ s.mayUse f.ca = true ∧ s.mayUse f.ct = true) ∧
    (let f : Cap3 := ⟨63#6, 31#6, 35#6⟩
     s.mayUse f.ca = true ∧ s.mayUse f.cb = true ∧ s.mayUse f.ct = true) ∧
    ({ s with par := { Params.reset with capModel := .refuse } }).par.capModel = .refuse := by decide

/-- A capability whose address is 0x3FF8, the last octa of page 1, and an untagged register beside it. -/
theorem witness_CapabilityMemory :
    let s := before [(1#6, 0x3FF8#64)] []
    let f : LS := ⟨.d16 0#16, 0#3, 2#6, 1#6, 63#6⟩
    let ea := BitVec.ofNat 64 (capAddr (s.gpr f.ra)) + s.gpr f.rb <<< f.sc.toNat + dispSext f.disp
    s.Inv ∧ s.par.capModel = .external ∧ s.pfx = none ∧ s.mayUse f.ra = true ∧ s.mayUse f.rb = true ∧ s.mayUse f.rt = true ∧
      s.canAccess .read ea 8 pageOne = true ∧ s.canAccess .write ea 8 pageOne = true ∧ s.gprTag f.ra = false :=
  ⟨by constructor <;> decide +kernel, by decide +kernel, by decide +kernel, by decide +kernel, by decide +kernel, by decide +kernel, by decide +kernel, by decide +kernel, by decide +kernel⟩

theorem witness_MapOnlyInstructionsAreRefused :
    Instr.absR1 ∈ mapOnlyInstrs ∧ Instr.pfi ∈ mapOnlyInstrs := by decide

theorem witness_RefusedForms :
    let s := before [] []
    let refusing : State := { s with par := { Params.reset with brPrc := .refuse } }
    (let f : R3 := ⟨.octa, 8#4, false, 3#6, false, 2#6, false, 1#6, true, 4#6⟩
     let s := before [(1#6, 1#64)] []
     s.ready3 f = true ∧ f.op4 = 8#4 ∧ f.nt = true ∧ allLanes .eq f (s.value .a f.ra) (s.value .b f.rb) = false) ∧
    (let f : Csr := ⟨0x3004#14, true, 31#6, false, 63#6⟩
     (f.regno.extractLsb' 12 2).toNat ≤ s.mode.toNat ∧ f.na = true) ∧
    (let f : R3 := ⟨.byte, 5#4, false, 3#6, false, 2#6, false, 1#6, false, 4#6⟩
     f.op4.toNat < 6 ∧ f.op4 ≠ 0#4) ∧
    (let f : Shift := ⟨.octa, false, 3#6, false, 2#6, false, 1#6, false, 1#6⟩
     s.pfx = none ∧ f.nc = false ∧ f.na = false ∧ f.nt = false ∧ f.ra = f.rt) ∧
    (let f : FltCos := ⟨.half, 0#3, fcosCode .double, false, 1#6, false, 2#6⟩
     f.prc3 ≠ fcosCode f.fmt) ∧
    refusing.precisionOk 2#2 = false ∧
    (let f : BrReg := ⟨3#2, 1#15, 3#6, 2#6, 1#6⟩
     s.pfx = none ∧ s.precisionOk f.prc = true ∧ s.mayUse f.ra = true ∧ s.mayUse f.rb = true ∧ f.tgt ≠ 0#15) ∧
    (4#4 ≠ 0#4 ∧ 7#3 ≠ 0#3) := by decide

theorem witness_OtherRefusedInstructions :
    (before [] []).par.op16 = .refuse ∧ fld ({ before [] [] with ir := 0x13D#96 }).ir 0 2 ≠ 0#2 ∧
    fld ({ before [] [] with ir := 0x13C#96 }).ir 0 2 = 0#2 := by decide

end Sys2Proof.Tests
end

section
/-! PROOFS. Lanes (spec/00_scope.md R14, spec/30_encoding.md R231). `mapLanes` puts the lane results next to each other, so a lane of
the result is read back by dropping the lanes below it and then cutting off those above it. -/

namespace Sys2Proof

/-- A field below the seam of two words is a field of the low word. -/
theorem fld_append_low {m n : Nat} (hi : BitVec m) (lo : BitVec n) {i k : Nat} (h : i + k ≤ n) :
    fld (hi ++ lo) i k = fld lo i k :=
  BitVec.extractLsb'_append_eq_of_add_le h

/-- A field above the seam of two words is a field of the high word. -/
theorem fld_append_high {m n : Nat} (hi : BitVec m) (lo : BitVec n) {i k : Nat} (h : n ≤ i) :
    fld (hi ++ lo) i k = fld hi (i - n) k :=
  BitVec.extractLsb'_append_eq_of_le h

end Sys2Proof

namespace Sys2Proof.Machine

/-- One statement for every precision: lane `k` of the result is the function of the lanes `k` of the operands. -/
theorem fld_mapLanes (p : Prec) (f : (w : Nat) → BitVec w → BitVec w → BitVec w → BitVec w → BitVec w) (a b c u : Word)
    {k : Nat} (hk : k < 64 / precWidth p) :
    fld (mapLanes p f a b c u) (precWidth p * k) (precWidth p) =
      f (precWidth p) (fld a (precWidth p * k) (precWidth p)) (fld b (precWidth p * k) (precWidth p))
        (fld c (precWidth p * k) (precWidth p)) (fld u (precWidth p * k) (precWidth p)) := by
  cases p with
  | octa =>
    obtain rfl : k = 0 := Nat.lt_one_iff.mp hk
    simp only [mapLanes, precWidth, Nat.mul_zero, fld_full]
  | tetra | wyde | byte =>
    simp only [precWidth, Nat.reduceDiv] at hk ⊢
    interval_cases k <;>
      simp (disch := omega) only [mapLanes, Nat.reduceMul, Nat.reduceSub, fld_append_high, fld_append_low, fld_full]

end Sys2Proof.Machine

/-- Settles O24: its four clauses are the lane law at the four precisions. -/
theorem lanesAreIndependent : Obligations.LanesAreIndependent := by
  intro f a b c u
  refine ⟨rfl, fun k hk => ?_, fun k hk => ?_, fun k hk => ?_⟩
  · exact Sys2Proof.Machine.fld_mapLanes .tetra f a b c u hk
  · exact Sys2Proof.Machine.fld_mapLanes .wyde f a b c u hk
  · exact Sys2Proof.Machine.fld_mapLanes .byte f a b c u hk

end

section
/-! PROOFS. Registers and control registers by mode (spec/10_state.md R21 to R28, R34; spec/92_eei_decisions.md D13, D15). Each
operand form looks at its registers one after another and has changed nothing when it meets one that the mode may not name. -/

namespace Sys2Proof.Machine

/-- A register field may be used where it names the stack pointer or the mode reaches its row of the table (R24). -/
theorem State.mayUse_iff (s : State) (r : BitVec 6) :
    s.mayUse r = true ↔ r = 31#6 ∨ (lowestMode r).toNat ≤ s.mode.toNat := by
  simp [State.mayUse, BitVec.ule]

/-- The rows of the table that every mode may name; 31 names the stack pointer of the mode (R23, R24). -/
theorem lowestMode_user (r : BitVec 6) (h : r.toNat ≤ 32 ∨ 41 ≤ r.toNat) : r = 31#6 ∨ lowestMode r = 0#2 := by
  revert r; decide

/-- The row of the interrupt registers (R24). -/
theorem lowestMode_hypervisor (r : BitVec 6) (h₁ : 36 ≤ r.toNat) (h₂ : r.toNat ≤ 40) : r ≠ 31#6 ∧ lowestMode r = 2#2 := by
  revert r; decide

theorem State.physical_of_ne (s : State) {r : BitVec 6} (h : r ≠ 31#6) : s.physical r = r := by simp [State.physical, h]

/-- The stack pointers of the modes are the registers from 32 on (R23). -/
theorem State.physical_sp (s : State) : (s.physical 31#6).toNat = 32 + s.mode.toNat := by
  simp only [State.physical, beq_self_eq_true, if_true]
  generalize s.mode = m
  revert m
  decide

@[simp] theorem State.setGpr_physical (s : State) (r : BitVec 6) (v : Word) (r' : BitVec 6) :
    (s.setGpr r v).physical r' = s.physical r' := State.setPhys_physical _ _ _ _ _

/-- A register field other than 0 reads what was written to it, with a clear tag (R28). -/
theorem State.gpr_setGpr_self (s : State) {r : BitVec 6} (v : Word) (h : r ≠ 0#6) :
    (s.setGpr r v).gpr r = v ∧ (s.setGpr r v).gprTag r = false := by
  have hp : s.physical r ≠ 0#6 := mt (s.physical_eq_zero r).1 h
  constructor
  · rw [State.gpr, State.setGpr_physical]
    exact s.gprPhys_setPhys_self _ v false hp
  · rw [State.gprTag, State.setGpr_physical]
    exact s.tagPhys_setPhys_self _ v false hp

/-! ## A forbidden register in each operand form -/

variable {s : State}

theorem raises_of_privilege {i : Instr} {x : Res Unit} (he : exec i s = x.finish) (hx : x = raisePrivilege s) :
    raises i s 5#8 := by
  rw [raises, he, hx]
  exact ⟨_, rfl, tookException_trapEntry (Trap.plain 5#8) s⟩

/-- Reading an operand raises, or goes on in the same state with a register that the mode may name. -/
theorem operand_bind_forbidden {β : Type} (hp : s.pfx = none) (slot : Slot) (r : BitVec 6) {f : Word → State → Res β}
    (h : s.mayUse r = true → f (s.gpr r) s = raisePrivilege s) : (operand slot r s).bind f = raisePrivilege s := by
  by_cases hr : s.mayUse r = true
  · simpa [operand, State.constant, hp, hr] using h hr
  · simp [operand, State.constant, hp, hr, raisePrivilege]

/-- The check of a target, in the same way. -/
theorem target_bind_forbidden {β : Type} (hp : s.pfx = none) (r : BitVec 6) {f : Unit → State → Res β}
    (h : s.mayUse r = true → f () s = raisePrivilege s) : (target r s).bind f = raisePrivilege s := by
  by_cases hr : s.mayUse r = true
  · simpa [target, State.constant, hp, hr] using h hr
  · simp [target, State.constant, hp, hr, raisePrivilege]

/-- The register form (spec/30_encoding.md R223). -/
theorem lanes3_forbidden {f : R3} (g : LaneFn) (hp : s.pfx = none)
    (h : (s.mayUse f.ra && s.mayUse f.rb && s.mayUse f.rc && s.mayUse f.rt) = false) : lanes3 f g s = raisePrivilege s :=
  operand_bind_forbidden hp _ _ fun ha => operand_bind_forbidden hp _ _ fun hb => operand_bind_forbidden hp _ _ fun hc =>
    target_bind_forbidden hp _ fun ht => by simp [ha, hb, hc, ht] at h

theorem fused_forbidden {f : R3} (g : (w : Nat) → BitVec w → BitVec w → BitVec w → BitVec w)
    (r : (w : Nat) → BitVec w → BitVec w) (hd : fuseDefined f.op4 = true) (hp : s.pfx = none)
    (h : (s.mayUse f.ra && s.mayUse f.rb && s.mayUse f.rc && s.mayUse f.rt) = false) : fused f g r s = raisePrivilege s := by
  simp only [fused, hd, requireDefined_true, Res.bind_ok]
  exact lanes3_forbidden _ hp h

/-- The register-immediate form (R225). -/
theorem lanesImm_forbidden {v : ImmView} (imm : Word) (g : (w : Nat) → BitVec w → BitVec w → BitVec w → BitVec w)
    (hp : s.pfx = none) (h : (s.mayUse v.ra && s.mayUse v.rt) = false) : lanesImm v imm g s = raisePrivilege s :=
  operand_bind_forbidden hp _ _ fun ha => target_bind_forbidden hp _ fun ht => by simp [ha, ht] at h

/-- The address of the scaled indexed form (spec/47_load_store.md R631). -/
theorem indexed_bind_forbidden {β : Type} {f : LS} {k : Word → State → Res β} (hp : s.pfx = none)
    (h : s.mayUse f.ra = true → s.mayUse f.rb = true → ∀ a, k a s = raisePrivilege s) :
    (indexed f s).bind k = raisePrivilege s := by
  simp only [indexed, Res.bind_assoc]
  exact operand_bind_forbidden hp _ _ fun ha => operand_bind_forbidden hp _ _ fun hb => h ha hb _

/-- What has a scaled indexed address and then a target: loads, LOADA and JSR. -/
theorem indexed_target_forbidden {β : Type} {f : LS} {k : Word → Unit → State → Res β} (hp : s.pfx = none)
    (h : (s.mayUse f.ra && s.mayUse f.rb && s.mayUse f.rt) = false) :
    ((indexed f s).bind fun a s => (target f.rt s).bind (k a)) = raisePrivilege s :=
  indexed_bind_forbidden hp fun ha hb _ => target_bind_forbidden hp _ fun ht => by simp [ha, hb, ht] at h

/-- A store, whose data register stands in the place of the target (R650). -/
theorem storeLS_forbidden {f : LS} (n : Nat) (hp : s.pfx = none)
    (h : (s.mayUse f.ra && s.mayUse f.rb && s.mayUse f.rt) = false) : storeLS f n s = raisePrivilege s := by
  simp only [storeLS, storeVal, Res.bind_assoc]
  exact operand_bind_forbidden hp _ _ fun ht => indexed_bind_forbidden hp fun ha hb _ => by simp [ha, hb, ht] at h

/-- A conditional branch (spec/48_branch_flow.md R707). -/
theorem branchDisp_forbidden {f : Br} (c : Cond) (hp : s.pfx = none) (hprc : s.precisionOk f.prc = true)
    (h : (s.mayUse f.ra && s.mayUse f.rb) = false) : branchDisp c f s = raisePrivilege s := by
  have hq : branchPrecision f.prc s = .ok () s := by rw [branchPrecision, ← State.precisionOk, hprc, require_true]
  rw [branchDisp, branch, hq, Res.bind_ok]
  exact operand_bind_forbidden hp _ _ fun ha => operand_bind_forbidden hp _ _ fun hb => by simp [ha, hb] at h

/-- CMP, in either of its two forms (spec/44_comparison.md R441). -/
theorem compare_forbidden (signed : Bool) {f : R3} (hd : fuseDefined f.op4 = true) (hp : s.pfx = none)
    (h : (s.mayUse f.ra && s.mayUse f.rb && s.mayUse f.rc && s.mayUse f.rt) = false) :
    compare signed f s = raisePrivilege s := by
  unfold compare
  split
  · exact lanes3_forbidden _ hp h
  · exact fused_forbidden _ _ hd hp h

/-! ## A forbidden control register -/

theorem csrCheck_forbidden {n : BitVec 14} (h : s.mode.toNat < (n.extractLsb' 12 2).toNat) : csrCheck n s = raisePrivilege s := by
  have hl : ¬(csrLevel n).ule s.mode = true := fun hu => by
    have := of_decide_eq_true hu
    rw [csrLevel] at this
    omega
  rw [csrCheck, if_neg hl]

theorem csrReg_forbidden {f : Csr} (new : Word → Word → Option Word) (h : s.mode.toNat < (f.regno.extractLsb' 12 2).toNat) :
    csrReg f new s = raisePrivilege s := by rw [csrReg, csrCheck_forbidden h]; rfl

theorem csrImm_forbidden {f : CsrImm} (new : Word → Word → Option Word)
    (h : s.mode.toNat < (f.regno.extractLsb' 12 2).toNat) : csrImm f new s = raisePrivilege s := by
  rw [csrImm, csrCheck_forbidden h]; rfl

end Sys2Proof.Machine

open Sys2Proof.Machine

/-- Settles O10: the stack pointer's bank, reading after writing, and the rows of the table of R24. -/
theorem registerFileByMode : Obligations.RegisterFileByMode := by
  intro s v
  refine ⟨rfl, rfl, s.physical_sp, fun r => s.physical_of_ne, fun r hr => ?_, fun r hr => ?_, ?_, ?_, ?_, fun r h₁ h₂ => ?_⟩
  · obtain ⟨hv, ht⟩ := s.gpr_setGpr_self v hr
    exact ⟨hv, ht, fun i hi => s.gprPhys_setPhys_other _ i v false hi⟩
  · refine (s.mayUse_iff r).2 ((lowestMode_user r hr).imp id fun h => ?_)
    rw [h]
    exact Nat.zero_le _
  · rw [s.mayUse_iff, show lowestMode 33#6 = 1#2 by decide]; simp
  · rw [s.mayUse_iff, show lowestMode 34#6 = 2#2 by decide]; simp
  · rw [s.mayUse_iff, show lowestMode 35#6 = 3#2 by decide]
    have := s.mode.isLt
    simp
    omega
  · obtain ⟨hn, hl⟩ := lowestMode_hypervisor r h₁ h₂
    rw [s.mayUse_iff, hl]
    simp [hn]

/-- Settles O11: one lemma for each operand form, at the forms' instructions. -/
theorem forbiddenRegistersRaise : Obligations.ForbiddenRegistersRaise := by
  refine ⟨fun f s hd hp h => ?_, fun f s hp h => ?_, fun f s hp h => ?_, fun f s hp hprc h => ?_⟩
  · have hadd : (f.op4 != 11#4) = true := by
      refine bne_iff_ne.2 fun e => ?_
      rw [e] at hd
      exact absurd hd (by decide)
    refine ⟨raises_of_privilege rfl (fused_forbidden _ _ hd hp h), raises_of_privilege rfl ?_,
      raises_of_privilege rfl (fused_forbidden _ _ hd hp h), raises_of_privilege rfl (fused_forbidden _ _ hd hp h),
      raises_of_privilege rfl (compare_forbidden true hd hp h)⟩
    rw [hadd, require_true, Res.bind_ok]
    exact fused_forbidden _ _ hd hp h
  · exact ⟨raises_of_privilege rfl (lanesImm_forbidden _ _ hp h), raises_of_privilege rfl (lanesImm_forbidden _ _ hp h),
      raises_of_privilege rfl (lanesImm_forbidden _ _ hp h)⟩
  · exact ⟨raises_of_privilege rfl (indexed_target_forbidden hp h), raises_of_privilege rfl (storeLS_forbidden 8 hp h),
      raises_of_privilege rfl (indexed_target_forbidden hp h), raises_of_privilege rfl (indexed_target_forbidden hp h)⟩
  · exact ⟨raises_of_privilege rfl (branchDisp_forbidden _ hp hprc h),
      raises_of_privilege rfl (branchDisp_forbidden _ hp hprc h)⟩

/-- Settles O12: the check of the number comes before everything else in both forms. -/
theorem forbiddenControlRegistersRaise : Obligations.ForbiddenControlRegistersRaise :=
  ⟨fun _ _ h => ⟨raises_of_privilege rfl (csrReg_forbidden _ h), raises_of_privilege rfl (csrReg_forbidden _ h),
      raises_of_privilege rfl (csrReg_forbidden _ h), raises_of_privilege rfl (csrReg_forbidden _ h)⟩,
    fun _ _ h => ⟨raises_of_privilege rfl (csrImm_forbidden _ h), raises_of_privilege rfl (csrImm_forbidden _ h),
      raises_of_privilege rfl (csrImm_forbidden _ h)⟩⟩

end

section
/-! PROOFS. Control, walker and region registers read what was written (spec/10_state.md R36 to R62; spec/21_memory_management.md
R151, R195 to R197). -/

namespace Sys2Proof.Machine

/-! ## Control registers -/

/-- The bits of a narrow register in a word. -/
theorem setWidth_setWidth_word (v : Word) (n : Nat) :
    (v.setWidth n).setWidth 64 = v &&& (BitVec.allOnes n).setWidth 64 := by
  apply BitVec.eq_of_getLsbD_eq
  intro i hi
  simp only [BitVec.getLsbD_setWidth, BitVec.getLsbD_and, BitVec.getLsbD_allOnes, hi, decide_true, Bool.true_and]
  rw [Bool.and_comm]

/-- The low half of a pair of words. -/
theorem setWidth_append_word (a b : Word) : (a ++ b).setWidth 64 = b := by
  rw [BitVec.setWidth_append, dif_pos (Nat.le_refl 64), BitVec.setWidth_eq]

/-- The bits of the status register that a register of its width keeps. -/
theorem setWidth_and_srDefined (v : Word) : (v.setWidth 32 &&& srDefined).setWidth 64 = v &&& 0xFF7FFFFF#64 := by
  rw [BitVec.setWidth_and, setWidth_setWidth_word v 32, BitVec.and_assoc]
  rfl

/-- The machine view writes and reads every defined bit, whatever stood there (R37). -/
theorem csrValue_csrSet_machineStatus (s : State) (v : Word) :
    (s.csrSet (.sr 3#2) v).csrValue (.sr 3#2) = v &&& 0xFF7FFFFF#64 := by
  rw [← setWidth_and_srDefined]
  show (((s.sr &&& ~~~srDefined ||| v.setWidth 32 &&& srDefined) &&& srDefined).setWidth 64) = _
  rw [BitVec.and_or_distrib_right, BitVec.and_assoc, BitVec.and_assoc, BitVec.and_self,
    show ~~~srDefined &&& srDefined = 0#32 by decide, BitVec.and_zero, BitVec.zero_or]

/-- A view below the machine view shows the enable bits of its own and lower modes (R38). -/
theorem srView_getLsbD (view : BitVec 2) (h : view.toNat < 3) (i : Nat) :
    (srView view).getLsbD i = decide (i ≤ view.toNat) := by
  by_cases hi : i < 32
  · have key : ∀ view : BitVec 2, view.toNat < 3 → ∀ i : Fin 32,
        (srView view).getLsbD i = decide (i.val ≤ view.toNat) := by
      decide
    exact key view h ⟨i, hi⟩
  · rw [BitVec.getLsbD_of_ge _ _ (by omega), eq_comm, decide_eq_false_iff_not]
    omega

/-- A bit of the status register after a view is written. -/
theorem csrSet_sr_getLsbD (s : State) (v : Word) (view : BitVec 2) (h : view.toNat < 3) (i : Nat) :
    (s.csrSet (.sr view) v).sr.getLsbD i = if i ≤ view.toNat then v.getLsbD i else s.sr.getLsbD i := by
  show (s.sr &&& ~~~srView view ||| v.setWidth 32 &&& srView view).getLsbD i = _
  simp only [BitVec.getLsbD_or, BitVec.getLsbD_and, BitVec.getLsbD_not, BitVec.getLsbD_setWidth, srView_getLsbD view h]
  by_cases hi : i ≤ view.toNat
  · simp [hi, show i < 32 by omega]
  · by_cases h32 : i < 32
    · simp [hi, h32]
    · simp [hi, h32, BitVec.getLsbD_of_ge s.sr i (by omega)]

theorem csrValue_sr_getLsbD (s : State) (view : BitVec 2) (h : view.toNat < 3) (i : Nat) :
    (s.csrValue (.sr view)).getLsbD i = (decide (i ≤ view.toNat) && s.sr.getLsbD i) := by
  show ((s.sr &&& srView view).setWidth 64).getLsbD i = _
  rw [BitVec.getLsbD_setWidth, BitVec.getLsbD_and, srView_getLsbD view h, Bool.and_comm (s.sr.getLsbD i), ← Bool.and_assoc]
  congr 1
  by_cases hi : i ≤ view.toNat
  · simp [hi, show i < 64 by omega]
  · simp [hi]

theorem ne_toNat_of_ne {w : Nat} {C : Sort _} {f : BitVec w → C} {m k : BitVec w} (h : f m ≠ f k) : m.toNat ≠ k.toNat :=
  fun e => h (congrArg f (BitVec.eq_of_toNat_eq e))

/-- Writing a control register that is not a view of the status register changes no other register. -/
theorem csrValue_csrSet_other (s : State) (v : Word) {c d : CsrName} (hne : c ≠ d) (hsr : ∀ m, c ≠ .sr m) :
    (s.csrSet c v).csrValue d = s.csrValue d := by
  cases c with
  | sr m => exact absurd rfl (hsr m)
  | cause m => cases d with
    | cause k => exact congrArg (BitVec.setWidth 64) (Vector.getElem_set_ne m.isLt k.isLt (ne_toNat_of_ne hne))
    | _ => rfl
  | scratch m => cases d with
    | scratch k => exact Vector.getElem_set_ne m.isLt k.isLt (ne_toNat_of_ne hne)
    | _ => rfl
  | key m => cases d with
    | key k => exact congrArg (BitVec.setWidth 64) (Vector.getElem_set_ne m.isLt k.isLt (ne_toNat_of_ne hne))
    | _ => rfl
  | tvec m => cases d with
    | tvec k => exact Vector.getElem_set_ne m.isLt k.isLt fun e => hne (congrArg CsrName.tvec (Fin.ext e))
    | _ => rfl
  | srStack m => cases d with
    | srStack k => exact congrArg (BitVec.setWidth 64) (Vector.getElem_set_ne m.isLt k.isLt (ne_toNat_of_ne hne))
    | _ => rfl
  | mcStack m => cases d with
    | mcStack k => exact Vector.getElem_set_ne m.isLt k.isLt (ne_toNat_of_ne hne)
    | _ => rfl
  | eip m => cases d with
    | eip k => exact Vector.getElem_set_ne m.isLt k.isLt (ne_toNat_of_ne hne)
    | _ => rfl
  | repbuf | asid | badAddr | badInstr | sema | ios | cfgs =>
    cases d with
    | tick => rfl
    | _ => simp_all [State.csrSet, State.csrValue, State.free]
  | coreno | tick | seed | absent => rfl

/-! ## Octas of a device -/

@[simp] theorem octaPart_octa (v : Word) {off : Nat} (h : off % 8 = 0) : octaPart v off 8 = v := by
  simp [octaPart, zextLow, h]

@[simp] theorem octaMerge_octa (old v : Word) {off : Nat} (h : off % 8 = 0) : octaMerge old off 8 v = v := by
  have hmask : (BitVec.allOnes (8 * 8)).setWidth 64 <<< (8 * 0) = BitVec.allOnes 64 := by decide
  simp only [octaMerge, h, hmask, BitVec.not_allOnes, BitVec.and_zero, BitVec.zero_or, BitVec.and_allOnes, Nat.mul_zero,
    BitVec.shiftLeft_zero]

/-- An octa of a 128-bit register after one was replaced. -/
theorem octaOf_setOctaOf (v : BitVec 128) (h h' : Bool) (x : Word) :
    octaOf (setOctaOf v h x) h' = if h' = h then x else octaOf v h' := by
  have hhigh : ∀ a b : Word, (a ++ b).extractLsb' 64 64 = a := fun a b => by
    rw [BitVec.extractLsb'_append_eq_of_le (Nat.le_refl 64)]; simp
  cases h <;> cases h' <;> simp [octaOf, setOctaOf, setWidth_append_word, hhigh]

/-! ## The region table (spec/21_memory_management.md R151) -/

/-- The 128-bit registers of a set of the region table, in the order of their offsets. -/
def Region.field (g : Region) : Fin 3 → BitVec 128
  | 0 => g.pmt
  | 1 => g.cta
  | 2 => g.attr

/-- One of them replaced. -/
def Region.setField (g : Region) (j : Fin 3) (x : BitVec 128) : Region :=
  match j with
  | 0 => { g with pmt := x }
  | 1 => { g with cta := x }
  | 2 => { g with attr := x }

theorem Region.field_setField (g : Region) (j j' : Fin 3) (x : BitVec 128) :
    (g.setField j x).field j' = if j' = j then x else g.field j' := by
  revert j j'
  simp [Fin.forall_fin_succ, Region.field, Region.setField]

/-- The offset of an octa of the region table: of set `k`, register `j`, the high or the low half. -/
def regionOff (k : Fin 8) (j : Fin 3) (h : Bool) : Nat := 0x40 * k.val + 16 * j.val + if h then 8 else 0

theorem regionOff_parts (k : Fin 8) (j : Fin 3) (h : Bool) :
    regionOff k j h % 8 = 0 ∧ regionOff k j h / 0x40 = k.val ∧ regionOff k j h / 16 % 4 = j.val ∧
      (regionOff k j h / 8 % 2 == 1) = h := by
  revert k j h; decide

theorem regionRead_regionOff (r : Vector Region 8) (k : Fin 8) (j : Fin 3) (h : Bool) (f : Word) :
    regionRead r (regionOff k j h) f = octaOf (r[k].field j) h := by
  obtain ⟨_, hk, hj, hh⟩ := regionOff_parts k j h
  simp only [regionRead, hk, hj, hh, k.isLt, dite_true]
  revert j
  simp [Fin.forall_fin_succ, Region.field]

theorem regionWrite_regionOff (r : Vector Region 8) (k : Fin 8) (j : Fin 3) (h : Bool) (v : Word) :
    regionWrite r (regionOff k j h) v = r.set k (r[k].setField j (setOctaOf (r[k].field j) h v)) := by
  obtain ⟨_, hk, hj, hh⟩ := regionOff_parts k j h
  simp only [regionWrite, hk, hj, hh, k.isLt, dite_true]
  revert j
  simp [Fin.forall_fin_succ, Region.field, Region.setField]

/-- An octa of the region table after one was written. -/
theorem octaOf_regionWrite (r : Vector Region 8) (k k' : Fin 8) (j j' : Fin 3) (h h' : Bool) (v : Word) :
    octaOf ((regionWrite r (regionOff k j h) v)[k'].field j') h' =
      if (k', j', h') = (k, j, h) then v else octaOf (r[k'].field j') h' := by
  rw [regionWrite_regionOff]
  by_cases hk : k' = k
  · subst hk
    simp only [Fin.getElem_fin, Vector.getElem_set_self, Region.field_setField, Prod.mk.injEq, true_and]
    by_cases hj : j' = j
    · subst hj
      simp [octaOf_setOctaOf]
    · simp [hj]
  · have hn : k.val ≠ k'.val := fun e => hk (Fin.ext e.symm)
    simp [hk, Vector.getElem_set_ne _ _ hn]

theorem deviceRead_region (s : State) (k : Fin 8) (j : Fin 3) (h : Bool) :
    deviceRead (.regions (regionOff k j h)) 8 s = .ok (octaOf (s.rgn[k].field j) h) s := by
  have h8 := (regionOff_parts k j h).1
  simp only [deviceRead, octaPart_octa _ h8, regionRead_regionOff]

theorem deviceWrite_region (s : State) (k : Fin 8) (j : Fin 3) (h : Bool) (v : Word) :
    deviceWrite (.regions (regionOff k j h)) 8 v s = .ok () { s with rgn := regionWrite s.rgn (regionOff k j h) v } := by
  have h8 := (regionOff_parts k j h).1
  simp only [deviceWrite, octaMerge_octa _ _ h8]

/-! ## The page table walker (spec/21_memory_management.md R195 to R197) -/

/-- A write of an octa of the walker, unless it gives PT_ATTR a value that is not supported. -/
theorem deviceWrite_walker (s : State) {off : Nat} (v : Word) (h8 : off % 8 = 0)
    (h : off / 8 ≠ 0xFF30 / 8 ∨ ptAttrSupported v = true) :
    deviceWrite (.walker off) 8 v s = .ok () { s with ptw := s.ptw.write off v } := by
  have hn : ¬(off / 8 = 0xFF30 / 8 ∧ (!ptAttrSupported v) = true) := by
    rintro ⟨ho, hv⟩
    rcases h with h | h
    · exact h ho
    · simp [h] at hv
  simp only [deviceWrite, octaMerge_octa _ _ h8, if_neg hn]

/-- A value of PT_ATTR that is not supported is refused (R197). -/
theorem deviceWrite_walker_refused (s : State) {v : Word} (h : ptAttrSupported v = false) :
    deviceWrite (.walker 0xFF30) 8 v s = .stop .ptAttr := by
  simp only [deviceWrite, octaMerge_octa _ _ (show 0xFF30 % 8 = 0 from rfl), h]
  rfl

theorem deviceRead_walker (s : State) {off : Nat} (h8 : off % 8 = 0) :
    deviceRead (.walker off) 8 s = .ok (s.ptw.read off (s.free (Place.walker off).slot)) s := by
  simp only [deviceRead, octaPart_octa _ h8]

end Sys2Proof.Machine

open Sys2Proof.Machine

/-- Settles O28: control registers by name, views by bit, the walker's registers and the region table by octa. -/
theorem controlRegistersReadBack : Obligations.ControlRegistersReadBack := by
  refine ⟨fun s v => ?storage, fun s v view i hview => ?views, fun s v => ?walker, fun s v k k' j j' h h' => ?regions⟩
  case storage =>
    exact ⟨fun m => Vector.getElem_set_self m.isLt,
      fun m => (congrArg _ (Vector.getElem_set_self m.isLt)).trans (setWidth_setWidth_word v 16),
      setWidth_setWidth_word v 16,
      fun k => (congrArg _ (Vector.getElem_set_self k.isLt)).trans (setWidth_setWidth_word v 24),
      fun k => Vector.getElem_set_self k.isLt, fun k => Vector.getElem_set_self k.isLt,
      fun k => Vector.getElem_set_self k.isLt,
      fun k => (congrArg _ (Vector.getElem_set_self k.isLt)).trans (setWidth_and_srDefined v),
      rfl, rfl, rfl, rfl, rfl, setWidth_append_word _ v, csrValue_csrSet_machineStatus s v,
      fun _ _ hne hsr _ _ _ => csrValue_csrSet_other s v hne hsr, rfl, rfl, rfl, rfl⟩
  case views =>
    refine ⟨?_, csrSet_sr_getLsbD s v view hview i⟩
    rw [csrValue_sr_getLsbD _ view hview, csrSet_sr_getLsbD s v view hview]
    by_cases hi : i ≤ view.toNat <;> simp [hi]
  case walker =>
    have hattr : ptAttrSupported v = true ↔ v.extractLsb' 6 2 = 2#2 ∧ v.getLsbD 3 = false := by simp [ptAttrSupported]
    refine ⟨⟨_, deviceWrite_walker s v rfl (.inl (by decide)), rfl⟩,
      ⟨_, deviceWrite_walker s v rfl (.inl (by decide)), rfl⟩,
      ⟨_, deviceWrite_walker s v rfl (.inl (by decide)), rfl⟩,
      fun hv => ⟨_, deviceWrite_walker s v rfl (.inr (hattr.2 hv)), rfl⟩, fun hv => ?_,
      deviceRead_walker s rfl, deviceRead_walker s rfl, deviceRead_walker s rfl, deviceRead_walker s rfl⟩
    refine deviceWrite_walker_refused s (Bool.eq_false_iff.2 fun hs => ?_)
    obtain ⟨hal, hsp⟩ := hattr.1 hs
    rcases hv with hv | hv
    · exact hv hal
    · exact absurd (hsp.symm.trans hv) Bool.false_ne_true
  case regions =>
    have hread := fun k' j' h' => octaOf_regionWrite s.rgn k k' j j' h h' v
    refine ⟨_, deviceWrite_region s k j h v, rfl, ?_, fun hne => ⟨_, deviceRead_region s k' j' h', ?_⟩, ?_, ?_⟩
    · exact (deviceRead_region _ k j h).trans (by rw [hread, if_pos rfl])
    · exact (deviceRead_region _ k' j' h').trans (by rw [hread, if_neg hne])
    · refine (hread k 0 false).trans ?_
      simp [octaOf, Region.field, eq_comm]
    · refine (hread k 2 true).trans ?_
      simp [octaOf, Region.field, eq_comm]

end

section
/-! PROOFS. The invariant of every step (spec/10_state.md R21, R36; spec/49_capability_system_modifiers.md R844;
spec/21_memory_management.md R197). A step is a fetch and an instruction, or a move of another agent; each part keeps the
invariant, and so does the exception that it may end in. -/

namespace Sys2Proof.Machine

/-- A step that goes on differs from what it runs in the number of the next draw only. -/
theorem advanceDraws_next {o : Host.Outcome State Fault Refusal} {t : State} (e : advanceDraws o = .next t) :
    ∃ u, o = .next u ∧ t = { u with draws := u.draws + 1 } := by
  cases o with
  | next u => cases e; exact ⟨u, rfl, rfl⟩
  | fault r => cases e
  | refused r => cases e

theorem State.Inv.keep_agenda {s : State} (h : s.Inv) (a : List Event) : ({ s with agenda := a } : State).Inv := { h with }

/-- The numbering of the draws is no part of the invariant. -/
theorem State.Inv.of_advanceDraws {o : Host.Outcome State Fault Refusal} {t : State} (e : advanceDraws o = .next t)
    (h : ∀ u, o = .next u → u.Inv) : t.Inv := by
  obtain ⟨u, hu, rfl⟩ := advanceDraws_next e
  exact { h u hu with }

/-- An instruction, or the exception that it takes, keeps the invariant. -/
theorem State.Inv.of_exec {i : Instr} {s t : State} (h : s.Inv) (e : exec i s = .next t) : t.Inv :=
  (exec_stable State.Inv.stable i h e).elim id State.Inv.of_trapped

theorem State.Inv.of_finish {x : Res Unit} {t : State} (h : x.Keeps State.Inv) (e : x.finish = .next t) : t.Inv :=
  h.finish (fun tr _ hs => hs.keep_trapEntry tr) e

/-- A fetch keeps the invariant: the ATOM window only gets shorter. -/
theorem State.Inv.keep_fetch {s : State} (h : s.Inv) : (fetch s).Keeps State.Inv := by
  refine fetch_keeps State.Inv.closed (fun s w p h => ?_) h
  have hw := h.window
  exact { h with window := by simp only [List.length_tail]; omega }

/-- The core's own turn. -/
theorem State.Inv.of_instruction {s t : State} (h : s.Inv) (e : instruction s = .next t) : t.Inv := by
  have hf := h.keep_fetch
  unfold instruction at e
  split at e
  · cases e
  split at e
  · cases e
  cases hr : fetch s with
  | stop r => rw [hr] at e; cases e
  | trap tr u =>
    rw [hr] at e hf
    exact .of_advanceDraws e fun v hv => by cases hv; exact hf.keep_trapEntry tr
  | ok w u =>
    rw [hr] at e hf
    have hu : u.Inv := hf
    dsimp only at e
    split at e
    · exact .of_advanceDraws e fun v hv => hu.of_exec hv
    · exact .of_advanceDraws e fun v hv => .of_finish (x := raiseUnimplemented u) hu hv
    · cases e
    · cases e

/-! ## The moves of the other agents -/

/-- An interrupt that is taken is an exception, whichever way its vector is found. -/
theorem State.Inv.of_takeInterrupt {k : Nat} {m : Msg} {s t : State} (h : s.Inv) (e : takeInterrupt k m s = .next t) :
    t.Inv := by
  have ht := fun tr => (h.keep_qic _ (Qic.tablesOk_deliver h.tables k m)).keep_trapEntry tr
  unfold takeInterrupt at e
  dsimp only at e
  split at e
  · cases e; exact ht _
  · split at e
    · cases e
    · cases e; exact (ht _).keep_goto _

/-- A message that is presented is taken, or stays held. -/
theorem State.Inv.of_present {k : Nat} {s t : State} (h : s.Inv) (e : present k s = .next t) : t.Inv := by
  unfold present at e
  split at e
  · cases e; exact h
  · split at e
    · exact h.of_takeInterrupt e
    · cases e; exact h

theorem State.Inv.keep_timerPost {s : State} (h : s.Inv) (second : Bool) : (timerPost second s).Inv := by
  unfold timerPost
  split
  · exact h.keep_qic _ (Qic.tablesOk_receive h.tables _)
  · exact h

/-- A store of another bus master goes to memory or to a device. -/
theorem State.Inv.of_otherStore {pa n : Nat} {v : Word} {s t : State} (h : s.Inv) (e : otherStore pa n v s = .next t) :
    t.Inv := by
  unfold otherStore at e
  split at e
  · cases e; exact h.keep_busStore _ _ _
  · split at e
    · exact .of_finish (h.keep_deviceWrite _ _ _) e
    · cases e

/-- A move of another agent. -/
theorem State.Inv.of_runEvent {ev : Event} {s t : State} (h : s.Inv) (e : runEvent ev s = .next t) : t.Inv := by
  cases ev with
  | run => cases e; exact h
  | message m => cases e; exact h.keep_qic _ (Qic.tablesOk_receive h.tables m)
  | present k => exact h.of_present e
  | takenElsewhere k => cases e; exact h.keep_takenElsewhere k
  | queueFull => cases e; exact { h with }
  | queueStuck => cases e; exact { h with }
  | nmi => cases e; exact h.keep_trapEntry _
  | abort => cases e; exact h.keep_trapEntry _
  | tick unit n ext => cases e; exact h.keep_setQit _ _
  | timerPost unit => cases e; exact h.keep_timerPost unit
  | evict k => cases e; exact { h with }
  | pageUsed k => cases e; exact h.keep_pageUsed k
  | pageWritten k => cases e; exact h.keep_pageWritten k
  | busStore pa n v => exact h.of_otherStore e
  | configStore b off n v => exact .of_finish (h.keep_deviceWrite (.config b off) n v) e
  | busErr pa err => cases e; exact { h with errs := Sparse.wf_set _ _ _ h.errs }
  | sema v => cases e; exact { h with }

end Sys2Proof.Machine

/-- Settles O7: by whose turn the agenda gives the step to. -/
theorem everyStepKeepsInvariant : Obligations.EveryStepKeepsInvariant := by
  intro s t h e
  unfold Sys2Proof.Machine.step at e
  split at e
  · exact h.of_instruction e
  · exact (h.keep_agenda _).of_instruction e
  · exact .of_advanceDraws e fun u hu => (h.keep_agenda _).of_runEvent hu

/-- Settles O6: the state after reset is a literal, and each part of the invariant is read off it. -/
theorem invariantHoldsAtReset : Obligations.InvariantHoldsAtReset where
  mem := rfl
  tags := rfl
  stale := rfl
  errs := rfl
  hct := rfl
  afn := rfl
  enable := rfl
  pending := rfl
  vectors := rfl
  zero := rfl
  reserved := by decide
  saved := by decide
  window := Nat.zero_le _
  walker := by decide
  root := by decide

end

section
/-! PROOFS. The privileged bits of the status register below machine mode (spec/10_state.md R36 to R38; spec/60_exceptions.md
R910; spec/48_branch_flow.md R764). That these bits are those of a given state is a property that every way in which an instruction
changes the state keeps: a lower view of the status register writes none of them, and a return needs machine mode. -/

namespace Sys2Proof.Machine

/-- The bits of the status register above the user, supervisor and hypervisor interrupt enables. -/
def srPrivileged : BitVec 32 := 0xFFFFFFF8#32

/-- The operating mode is a part of the privileged bits. -/
theorem srMode_congr {a b : BitVec 32} (h : a &&& srPrivileged = b &&& srPrivileged) : srMode a = srMode b := by
  have key : ∀ c : BitVec 32, srMode (c &&& srPrivileged) = srMode c := by
    intro c
    rw [srMode, BitVec.extractLsb'_and, show srPrivileged.extractLsb' 13 2 = BitVec.allOnes 2 by decide, BitVec.and_allOnes,
      srMode]
  rw [← key a, ← key b, h]

/-- A view below the machine view shows none of the privileged bits (R38). -/
theorem srView_privileged {view : BitVec 2} (h : view ≠ 3#2) : srView view &&& srPrivileged = 0#32 := by
  revert view; decide

/-- What a register write below the machine view of the status register leaves. -/
theorem State.csrSet_privileged (s : State) {c : CsrName} (v : Word) (h : c ≠ .sr 3#2) :
    (s.csrSet c v).sr &&& srPrivileged = s.sr &&& srPrivileged := by
  cases c with
  | sr view =>
    have hv := srView_privileged (view := view) fun e => h (e ▸ rfl)
    have hn : ~~~srView view &&& srPrivileged = srPrivileged := by
      revert hv; clear h; revert view; decide
    simp only [State.csrSet, BitVec.and_or_distrib_right, BitVec.and_assoc, hv, hn, BitVec.and_zero, BitVec.or_zero]
  | _ => rfl

/-- Whether a state has the privileged bits of another. -/
def State.SamePrivileged (s₀ s : State) : Prop := s.sr &&& srPrivileged = s₀.sr &&& srPrivileged

theorem State.SamePrivileged.of_sr_eq {s₀ s t : State} (h : s₀.SamePrivileged s) (e : t.sr = s.sr) : s₀.SamePrivileged t := by
  unfold State.SamePrivileged; rw [e]; exact h

theorem State.SamePrivileged.mode_eq {s₀ s : State} (h : s₀.SamePrivileged s) : s.mode = s₀.mode := srMode_congr h

/-- No device holds the status register. -/
theorem deviceWrite_sr (p : Place) (n : Nat) (v : Word) (s : State) : (deviceWrite p n v s).Keeps fun t => t.sr = s.sr := by
  cases p with
  | qic off => exact ite_keeps rfl trivial
  | timers second off => cases second <;> exact ite_keeps rfl trivial
  | vectors off => rfl
  | regions off => rfl
  | walker off => exact ite_keeps trivial rfl
  | config b off => rfl
  | io pa => exact busStore_sr _ _ _ _
  | memory => rfl
  | undescribed off => rfl
  | nothing => rfl

/-- Below machine mode the privileged bits stay. -/
theorem State.SamePrivileged.stable {s₀ : State} (hm : s₀.mode ≠ 3#2) : Stable s₀.SamePrivileged where
  tlb _ _ h := h
  fault _ _ _ h := h
  note _ _ h := h
  reg _ _ _ _ h := h.of_sr_eq (State.setPhys_sr _ _ _ _)
  ip _ _ h := h
  byte _ _ _ h := h
  tag _ _ _ h := h
  device _ _ _ _ h := (deviceWrite_sr _ _ _ _).mono fun _ => h.of_sr_eq
  cards _ _ h := h
  stale _ _ h := h
  clear _ h := h
  atom _ _ _ h := h
  tick _ _ h := h
  csr s n v hl h := by
    refine (s.csrSet_privileged v fun e => hm ?_).trans h
    rw [← csrName_sr e, h.mode_eq] at hl
    revert hl
    generalize s₀.mode = m
    revert m
    decide
  pop _ h3 h := absurd (h.mode_eq.symm.trans h3) hm
  ret _ _ h3 h := absurd (h.mode_eq.symm.trans h3) hm

/-- An exception enters machine mode, saves the status it found on top of the stack and empties the ATOM window; `sr.dbg`, which BRK
sets too, is none of the mode's bits. -/
theorem Trapped.saves {P : State → Prop} {t : State} (h : Trapped P t) :
    t.mode = 3#2 ∧ t.atom = [] ∧ ∃ s, P s ∧ t.exc.sr[0] = s.sr := by
  obtain ⟨tr, s, hs, rfl | rfl⟩ := h
  · exact ⟨trapEntry_mode tr s, rfl, s, hs, rfl⟩
  · refine ⟨?_, rfl, s, hs, rfl⟩
    have hd : srMode ((trapEntry tr s).sr ||| srDbg) = srMode (trapEntry tr s).sr := by
      rw [srMode, BitVec.extractLsb'_or, show srDbg.extractLsb' 13 2 = 0#2 by decide, BitVec.or_zero, srMode]
    exact hd.trans (trapEntry_mode tr s)

end Sys2Proof.Machine

open Sys2Proof.Machine in
/-- Settles O9: what no instruction can break, taken of the privileged bits. -/
theorem lowerModesKeepPrivilegedStatus : Obligations.LowerModesKeepPrivilegedStatus := by
  intro i s t hm e
  have hs : s.SamePrivileged s := rfl
  refine (exec_stable (State.SamePrivileged.stable hm) i hs e).imp id fun ht => ?_
  obtain ⟨hmode, hatom, u, hu, hsr⟩ := ht.saves
  exact ⟨hmode, hsr ▸ hu, hatom⟩

end

section
/-! PROOFS. What is stored is what is then loaded (spec/20_memory.md R102 to R112, R137). An access is its alignment check, the
span of physical addresses that its pages give it, and its bytes; each part is settled once, for every length and both kinds of access,
and the clauses of O23 are put together from them. -/

namespace Sys2Proof.Machine

/-! ## What the descriptions of an access say -/

theorem canPass_iff {s : State} {acc : Access} {start va : Word} {n : Nat} {e : TlbEntry} :
    s.canPass acc start va n e = true ↔ s.tlbFind (vpnOf va) = some e ∧ e.pmtValid = true ∧ s.permits acc e = true ∧
      s.granular acc e start n = true := by
  simp only [State.canPass, Bool.and_eq_true, beq_iff_eq, and_assoc]

theorem allMemory_iff {s : State} {va : Word} {pa n : Nat} :
    s.allMemory va pa n = true ↔ ∀ k, k < n → s.port (va + BitVec.ofNat 64 k) (pa + k) = .memory := by
  simp only [State.allMemory, List.all_eq_true, List.mem_range, beq_iff_eq]

theorem canAccess_iff_canPass {s : State} {acc : Access} {va : Word} {n : Nat} {e : TlbEntry} :
    s.canAccess acc va n e = true ↔
      s.canPass acc va va n e = true ∧ isAligned va n = true ∧ s.allMemory va (e.physAddr va) n = true := by
  simp only [canAccess_iff, canPass_iff, allMemory_iff, and_assoc]

theorem canReach_iff {s : State} {acc : Access} {va : Word} {n : Nat} {e : TlbEntry} {p : Place} :
    s.canReach acc va n e p = true ↔
      s.canPass acc va va n e = true ∧ isAligned va n = true ∧ s.port va (e.physAddr va) = p ∧ p ≠ .memory ∧
        ∀ k, k < n → s.port (va + BitVec.ofNat 64 k) (e.physAddr va + k) ≠ .nothing := by
  simp only [State.canReach, canPass_iff, Bool.and_eq_true, beq_iff_eq, bne_iff_ne, List.all_eq_true, List.mem_range, and_assoc]

/-! ## Alignment (R109) -/

theorem alignCheck_ok {s : State} {va : Word} {n : Nat} (acc : Access)
    (h : isAligned va n = true ∨ s.par.misaligned = .bytewise) : alignCheck acc va n s = .ok () s := by
  unfold alignCheck
  split
  · rfl
  · rw [h.resolve_left ‹_›]

theorem alignCheck_fault {s : State} {va : Word} {n : Nat} (acc : Access) (h : isAligned va n = false)
    (hm : s.par.misaligned = .fault) : alignCheck acc va n s = .trap (Trap.access acc 3#8 va) s := by
  simp [alignCheck, h, hm]

theorem alignCheck_refuse {s : State} {va : Word} {n : Nat} (acc : Access) (h : isAligned va n = false)
    (hm : s.par.misaligned = .refuse) : alignCheck acc va n s = .stop .misalignedData := by
  simp [alignCheck, h, hm]

/-! ## Bus Error (R137) -/

theorem busCheck_of_answered {s : State} {acc : Access} {va : Word} {base first count : Nat}
    (h : ∀ k, k < count → s.port (va + BitVec.ofNat 64 (first + k)) (base + k) ≠ .nothing) :
    busCheck acc va base first count s = .ok () s := by
  unfold busCheck
  rw [List.find?_eq_none.2]
  intro k hk
  simp [h k (List.mem_range.1 hk)]

/-- The lowest byte that nothing answers is the one that is reported. -/
theorem busCheck_of_nothing {s : State} {acc : Access} {va : Word} {base first count k : Nat} (hk : k < count)
    (hlow : ∀ j, j < k → s.port (va + BitVec.ofNat 64 (first + j)) (base + j) ≠ .nothing)
    (hno : s.port (va + BitVec.ofNat 64 (first + k)) (base + k) = .nothing)
    (hacc : acc ≠ .write ∨ (s.free slotStore).getLsbD 0 = true) :
    busCheck acc va base first count s = busError acc (va + BitVec.ofNat 64 (first + k)) s := by
  unfold busCheck
  rw [List.find?_range_eq_some.2]
  refine ⟨?_, List.mem_range.2 hk, fun j hj => ?_⟩
  · rcases hacc with h | h <;> simp [hno, h]
  · simp [hlow j hj]

/-- A store whose loss goes unnoticed. -/
theorem busCheck_of_lost {s : State} {va : Word} {base first count : Nat} (h : (s.free slotStore).getLsbD 0 = false) :
    busCheck .write va base first count s = .ok () s := by
  unfold busCheck
  rw [List.find?_eq_none.2]
  intro k _
  simp only [h, bne_self_eq_false, Bool.or_false, Bool.and_false, Bool.false_eq_true, not_false_eq_true]

/-! ## The span of an access -/

theorem translate_of_canPass {s : State} {acc : Access} {start va : Word} {n : Nat} {e : TlbEntry}
    (h : s.canPass acc start va n e = true) : translate acc n start va s = .ok (e.physAddr va) s := by
  obtain ⟨hfind, hvalid, hpermits, hgranular⟩ := canPass_iff.1 h
  simp [translate, lookup, hfind, loadRights, hvalid, hpermits, hgranular, TlbEntry.physAddr]

/-- In one page the bytes lie where its entry says, and Bus Error is all that can still happen. -/
theorem spanOf_onePage {s : State} {acc : Access} {va : Word} {n : Nat} {e : TlbEntry} (hc : pageCut va n = n)
    (hp : s.canPass acc va va n e = true) :
    spanOf acc n va n s = (busCheck acc va (e.physAddr va) 0 n s).bind fun _ s => .ok ⟨e.physAddr va, n, 0⟩ s := by
  simp only [spanOf, hc, translate_of_canPass hp, Res.bind_ok, if_true]

theorem spanOf_onePage_answered {s : State} {acc : Access} {va : Word} {n : Nat} {e : TlbEntry} (hc : pageCut va n = n)
    (hp : s.canPass acc va va n e = true)
    (h : ∀ k, k < n → s.port (va + BitVec.ofNat 64 k) (e.physAddr va + k) ≠ .nothing) :
    spanOf acc n va n s = .ok ⟨e.physAddr va, n, 0⟩ s := by
  rw [spanOf_onePage hc hp, busCheck_of_answered (by simpa using h), Res.bind_ok]

/-- Across a page boundary the bytes past it lie where the second page's entry says. -/
theorem spanOf_twoPages {s : State} {acc : Access} {va : Word} {n c : Nat} {e e' : TlbEntry} (hc : pageCut va n = c)
    (hcn : c < n) (hp : s.canPass acc va va n e = true) (hp' : s.canPass acc va (va + BitVec.ofNat 64 c) n e' = true)
    (hm : s.allMemory va (e.physAddr va) c = true)
    (hm' : s.allMemory (va + BitVec.ofNat 64 c) (e'.physAddr (va + BitVec.ofNat 64 c)) (n - c) = true) :
    spanOf acc n va n s = .ok ⟨e.physAddr va, c, e'.physAddr (va + BitVec.ofNat 64 c)⟩ s := by
  have hlo : busCheck acc va (e.physAddr va) 0 c s = .ok () s :=
    busCheck_of_memory (by simpa using allMemory_iff.1 hm)
  have hhi : busCheck acc va (e'.physAddr (va + BitVec.ofNat 64 c)) c (n - c) s = .ok () s := by
    refine busCheck_of_memory fun k hk => ?_
    rw [BitVec.ofNat_add, ← BitVec.add_assoc]
    exact allMemory_iff.1 hm' k hk
  simp only [spanOf, hc, translate_of_canPass hp, Res.bind_ok, hlo, hcn.ne, if_false, translate_of_canPass hp', hhi]

/-- What answers the bytes of an access of one page. -/
theorem portOf_onePage (s : State) (va : Word) {pa n k : Nat} (hk : k < n) :
    s.portOf va ⟨pa, n, 0⟩ k = s.port (va + BitVec.ofNat 64 k) (pa + k) := by
  simp [State.portOf, Span.addr, hk]

theorem portOf_twoPages {s : State} {va : Word} {lo c hi n : Nat} (hm : s.allMemory va lo c = true)
    (hm' : s.allMemory (va + BitVec.ofNat 64 c) hi (n - c) = true) {k : Nat} (hk : k < n) :
    s.portOf va ⟨lo, c, hi⟩ k = .memory := by
  by_cases hkc : k < c
  · simpa [State.portOf, Span.addr, hkc] using allMemory_iff.1 hm k hkc
  · have h := allMemory_iff.1 hm' (k - c) (by omega)
    rw [BitVec.add_assoc, ← BitVec.ofNat_add, show c + (k - c) = k by omega] at h
    simpa [State.portOf, Span.addr, hkc] using h

/-! ## Memory or a device -/

theorem touchesDevice_eq_false {s : State} {va : Word} {sp : Span} {n : Nat}
    (h : ∀ k, k < n → s.portOf va sp k = .memory ∨ s.portOf va sp k = .nothing) : s.touchesDevice va sp n = false := by
  simp only [State.touchesDevice, List.any_eq_false, List.mem_range]
  intro k hk
  rcases h k hk with h | h <;> simp [h]

theorem touchesDevice_eq_true {s : State} {va : Word} {sp : Span} {n : Nat} (hn : 0 < n)
    (hm : s.portOf va sp 0 ≠ .memory) (ho : s.portOf va sp 0 ≠ .nothing) : s.touchesDevice va sp n = true := by
  simp only [State.touchesDevice, List.any_eq_true, List.mem_range]
  exact ⟨0, hn, by simp [hm, ho]⟩

/-- A load whose bytes memory answers. -/
theorem load_memory {s : State} {va : Word} {n : Nat} {sp : Span}
    (ha : isAligned va n = true ∨ s.par.misaligned = .bytewise) (hsp : spanOf .read n va n s = .ok sp s)
    (hm : ∀ k, k < n → s.portOf va sp k = .memory) :
    load va n s = .ok (BitVec.ofNat 64 (s.mem.value sp.addr n)) s := by
  have hdev := touchesDevice_eq_false fun k hk => .inl (hm k hk)
  simp only [load, alignCheck_ok .read ha, Res.bind_ok, hsp, hdev, Bool.false_eq_true, if_false]

/-- A store whose bytes memory or nothing answers. -/
theorem storeAt_memory {s : State} {va : Word} {n : Nat} {sp : Span} (v : Word)
    (ha : isAligned va n = true ∨ s.par.misaligned = .bytewise) (hsp : spanOf .write n va n s = .ok sp s)
    (hm : ∀ k, k < n → s.portOf va sp k = .memory ∨ s.portOf va sp k = .nothing) :
    storeAt va n v s = .ok sp ((storeBytes s va sp v n).noteStore va n) := by
  simp only [storeAt, alignCheck_ok .write ha, Res.bind_ok, hsp, touchesDevice_eq_false hm, Bool.false_eq_true, if_false]

theorem load_trap {s : State} {va : Word} {n : Nat} {x : Trap} (ha : isAligned va n = true)
    (hsp : spanOf .read n va n s = .trap x s) : load va n s = .trap x s := by
  simp only [load, alignCheck_ok .read (.inl ha), Res.bind_ok, hsp, Res.bind_trap]

theorem storeAt_trap {s : State} {va : Word} {n : Nat} {x : Trap} (v : Word) (ha : isAligned va n = true)
    (hsp : spanOf .write n va n s = .trap x s) : storeAt va n v s = .trap x s := by
  simp only [storeAt, alignCheck_ok .write (.inl ha), Res.bind_ok, hsp, Res.bind_trap]

/-! ## What a store leaves as it was -/

theorem State.notePage_frame (s : State) (va : Word) : ∃ d, s.notePage va = { s with dirty := d } := by
  unfold State.notePage
  dsimp only
  split
  · exact ⟨s.dirty, rfl⟩
  · exact ⟨_, rfl⟩

theorem noteStore_storeBytes_frame (s : State) (va : Word) (sp : Span) (v : Word) (n : Nat) :
    ∃ m tg st d, (storeBytes s va sp v n).noteStore va n = { s with mem := m, tags := tg, stale := st, dirty := d } := by
  obtain ⟨m, tg, st, hb⟩ := storeBytes_frame s va sp v n
  obtain ⟨d, hd⟩ := (storeBytes s va sp v n).notePage_frame va
  obtain ⟨d', hd'⟩ := ((storeBytes s va sp v n).notePage va).notePage_frame (va + BitVec.ofNat 64 (n - 1))
  exact ⟨m, tg, st, d', by rw [State.noteStore, hd', hd, hb]⟩

/-- A store to memory changes no translation. -/
theorem canPass_noteStore_storeBytes (s : State) (va : Word) (sp : Span) (v : Word) (n : Nat) (acc : Access) (start a : Word)
    (k : Nat) (e : TlbEntry) :
    ((storeBytes s va sp v n).noteStore va n).canPass acc start a k e = s.canPass acc start a k e := by
  obtain ⟨m, tg, st, d, h⟩ := noteStore_storeBytes_frame s va sp v n
  rw [h]; rfl

/-- A store to memory leaves what answers an address. -/
theorem port_noteStore_storeBytes (s : State) (va : Word) (sp : Span) (v : Word) (n : Nat) (a : Word) (pa : Nat) :
    ((storeBytes s va sp v n).noteStore va n).port a pa = s.port a pa := by
  obtain ⟨m, tg, st, d, h⟩ := noteStore_storeBytes_frame s va sp v n
  rw [h]; rfl

/-! ## The bytes stored (R102, R105) -/

/-- The bytes of a word, read together, are the word's low bytes. -/
theorem value_of_bytes {m : Memory} {f : Nat → Nat} {v : Word} {n : Nat}
    (h : ∀ k, k < n → m.byte (f k) = v.extractLsb' (8 * k) 8) : m.value f n = v.toNat % 2 ^ (8 * n) := by
  induction n with
  | zero => simp [Memory.value, Nat.mod_one]
  | succ n ih =>
    rw [Memory.value, ih fun k hk => h k (by omega), h n (Nat.lt_succ_self n), BitVec.extractLsb'_toNat,
      Nat.shiftRight_eq_div_pow, Nat.mul_succ, Nat.pow_add, Nat.mod_mul, Nat.mul_comm (2 ^ (8 * n))]

theorem ofNat_mod_eq_zextLow (v : Word) (n : Nat) : BitVec.ofNat 64 (v.toNat % 2 ^ (8 * n)) = zextLow n v := by
  apply BitVec.eq_of_toNat_eq
  simp [zextLow]

/-- Storing bytes reaches those that memory answers; the others keep what they hold. -/
theorem byte_storeBytes {s : State} (va : Word) (pa n : Nat) (v : Word) (hw : Memory.wf s.mem = true) {m : Nat} (hm : m ≤ n) :
    Memory.wf (storeBytes s va ⟨pa, n, 0⟩ v m).mem = true ∧
    ∀ a, (storeBytes s va ⟨pa, n, 0⟩ v m).mem.byte a =
      if (pa ≤ a ∧ a < pa + m) ∧ s.port (va + BitVec.ofNat 64 (a - pa)) a = .memory then v.extractLsb' (8 * (a - pa)) 8
      else s.mem.byte a := by
  induction m with
  | zero => exact ⟨hw, fun a => by rw [if_neg (by omega)]; rfl⟩
  | succ m ih =>
    obtain ⟨hwf, hbyte⟩ := ih (by omega)
    have hport := portOf_onePage s va (pa := pa) (show m < n by omega)
    have haddr : Span.addr ⟨pa, n, 0⟩ m = pa + m := by simp [Span.addr, show m < n by omega]
    have hrange : ∀ a, a ≠ pa + m → ((pa ≤ a ∧ a < pa + (m + 1)) ↔ (pa ≤ a ∧ a < pa + m)) := by omega
    simp only [storeBytes, hport, haddr, beq_iff_eq]
    split
    · rename_i hmem
      refine ⟨Memory.wf_setByte _ _ _ hwf, fun a => ?_⟩
      simp only [State.storeByte, Memory.byte_setByte _ _ _ _ hwf, hbyte]
      by_cases ha : a = pa + m
      · subst ha; simp [hmem]
      · simp only [ha, if_false, hrange a ha]
    · rename_i hmem
      refine ⟨hwf, fun a => ?_⟩
      rw [hbyte]
      by_cases ha : a = pa + m
      · subst ha; simp [hmem]
      · simp only [hrange a ha]

/-- What is stored in one page is what is then loaded from it, and every other byte of memory is as it was. -/
theorem load_after_storeAt {s : State} {va v : Word} {n : Nat} {e : TlbEntry} (hi : s.Inv)
    (ha : isAligned va n = true ∨ s.par.misaligned = .bytewise) (hc : pageCut va n = n)
    (hw : s.canPass .write va va n e = true) (hr : s.canPass .read va va n e = true)
    (hm : s.allMemory va (e.physAddr va) n = true) :
    ∃ sp t, storeAt va n v s = .ok sp t ∧ load va n t = .ok (zextLow n v) t ∧
      (∀ k, k < n → t.mem.byte (e.physAddr va + k) = v.extractLsb' (8 * k) 8) ∧
      ∀ a, (a < e.physAddr va ∨ e.physAddr va + n ≤ a) → t.mem.byte a = s.mem.byte a := by
  rw [allMemory_iff] at hm
  have hno : ∀ k, k < n → s.port (va + BitVec.ofNat 64 k) (e.physAddr va + k) ≠ .nothing := fun k hk => by simp [hm k hk]
  have hport : ∀ k, k < n → s.portOf va ⟨e.physAddr va, n, 0⟩ k = .memory := fun k hk => by
    rw [portOf_onePage s va hk, hm k hk]
  refine ⟨_, _, storeAt_memory v ha (spanOf_onePage_answered hc hw hno) fun k hk => .inl (hport k hk), ?_⟩
  have hbyte := (byte_storeBytes va (e.physAddr va) n v hi.mem (Nat.le_refl n)).2
  have hframe := fun a => port_noteStore_storeBytes s va ⟨e.physAddr va, n, 0⟩ v n a
  have hpass := canPass_noteStore_storeBytes s va ⟨e.physAddr va, n, 0⟩ v n .read va va n e
  have hpar : ((storeBytes s va ⟨e.physAddr va, n, 0⟩ v n).noteStore va n).par = s.par := by simp
  have hmem : ((storeBytes s va ⟨e.physAddr va, n, 0⟩ v n).noteStore va n).mem =
    (storeBytes s va ⟨e.physAddr va, n, 0⟩ v n).mem := State.noteStore_mem _ _ _
  generalize (storeBytes s va ⟨e.physAddr va, n, 0⟩ v n).noteStore va n = t at *
  rw [← hmem] at hbyte
  have hin : ∀ k, k < n → t.mem.byte (e.physAddr va + k) = v.extractLsb' (8 * k) 8 := fun k hk => by
    simp [hbyte, hm k hk, hk]
  refine ⟨?_, hin, fun a h => ?_⟩
  · have hspan := spanOf_onePage_answered hc (hpass.trans hr) fun k hk => by rw [hframe]; exact hno k hk
    rw [load_memory (by rwa [hpar]) hspan fun k hk => by rw [State.portOf, hframe]; exact hport k hk,
      value_of_bytes (v := v) fun k hk => by simpa [Span.addr, hk] using hin k hk, ofNat_mod_eq_zextLow]
  · rw [hbyte, if_neg (by omega)]

/-! ## Accesses that memory does not answer -/

/-- An aligned access meets Bus Error at its lowest byte that nothing answers. -/
theorem spanOf_busError {s : State} {acc : Access} {va : Word} {n k : Nat} {e : TlbEntry} (hc : pageCut va n = n)
    (hp : s.canPass acc va va n e = true) (hk : k < n)
    (hlow : ∀ j, j < k → s.port (va + BitVec.ofNat 64 j) (e.physAddr va + j) ≠ .nothing)
    (hno : s.port (va + BitVec.ofNat 64 k) (e.physAddr va + k) = .nothing)
    (hacc : acc ≠ .write ∨ (s.free slotStore).getLsbD 0 = true) :
    spanOf acc n va n s = .trap (Trap.access acc 2#8 (va + BitVec.ofNat 64 k)) s := by
  rw [spanOf_onePage hc hp, busCheck_of_nothing hk (by simpa using hlow) (by simpa using hno) hacc, Nat.zero_add]
  rfl

/-- A store of which nothing answers byte `k`, where the loss goes unnoticed: the other bytes are stored. -/
theorem storeAt_lost {s : State} {va : Word} {n k : Nat} {e : TlbEntry} (v : Word) (hi : s.Inv) (ha : isAligned va n = true)
    (hc : pageCut va n = n) (hp : s.canPass .write va va n e = true)
    (hno : s.port (va + BitVec.ofNat 64 k) (e.physAddr va + k) = .nothing)
    (hm : ∀ j, j < n → j ≠ k → s.port (va + BitVec.ofNat 64 j) (e.physAddr va + j) = .memory)
    (hfree : (s.free slotStore).getLsbD 0 = false) :
    ∃ sp t, storeAt va n v s = .ok sp t ∧ ∀ a, t.mem.byte a =
      if e.physAddr va ≤ a ∧ a < e.physAddr va + n ∧ a ≠ e.physAddr va + k then v.extractLsb' (8 * (a - e.physAddr va)) 8
      else s.mem.byte a := by
  have hspan : spanOf .write n va n s = .ok ⟨e.physAddr va, n, 0⟩ s := by
    rw [spanOf_onePage hc hp, busCheck_of_lost hfree, Res.bind_ok]
  have hport : ∀ j, j < n → s.portOf va ⟨e.physAddr va, n, 0⟩ j = .memory ∨ s.portOf va ⟨e.physAddr va, n, 0⟩ j = .nothing := by
    intro j hj
    rw [portOf_onePage s va hj]
    by_cases hjk : j = k
    · exact .inr (hjk ▸ hno)
    · exact .inl (hm j hj hjk)
  refine ⟨_, _, storeAt_memory v (.inl ha) hspan hport, fun a => ?_⟩
  rw [State.noteStore_mem, (byte_storeBytes va (e.physAddr va) n v hi.mem (Nat.le_refl n)).2]
  refine if_congr ?_ rfl rfl
  rw [← and_assoc]
  refine and_congr_right fun ⟨hlo, hhi⟩ => ?_
  obtain ⟨j, rfl⟩ := Nat.exists_eq_add_of_le hlo
  rw [Nat.add_sub_cancel_left, ne_eq, Nat.add_left_cancel_iff]
  refine ⟨fun h hjk => ?_, fun hjk => hm j (by omega) hjk⟩
  rw [hjk, hno] at h
  cases h

/-- An access that reaches a device is one access of the device that its first byte names (R112). -/
theorem device_of_canReach {s : State} {acc : Access} {va : Word} {n : Nat} {e : TlbEntry} {p : Place}
    (hn : n = 1 ∨ n = 2 ∨ n = 4 ∨ n = 8) (h : s.canReach acc va n e p = true) :
    isAligned va n = true ∧ spanOf acc n va n s = .ok ⟨e.physAddr va, n, 0⟩ s ∧
      s.touchesDevice va ⟨e.physAddr va, n, 0⟩ n = true ∧ s.portOf va ⟨e.physAddr va, n, 0⟩ 0 = p := by
  obtain ⟨hpass, ha, hp, hnm, hno⟩ := canReach_iff.1 h
  have hpos : 0 < n := by omega
  have h0 : s.portOf va ⟨e.physAddr va, n, 0⟩ 0 = p := by simp [portOf_onePage s va hpos, hp]
  have hpno : p ≠ .nothing := h0 ▸ portOf_onePage s va hpos ▸ hno 0 hpos
  exact ⟨ha, spanOf_onePage_answered (pageCut_of_aligned hn ha) hpass hno,
    touchesDevice_eq_true hpos (h0 ▸ hnm) (h0 ▸ hpno), h0⟩

theorem load_device {s : State} {va : Word} {n : Nat} {e : TlbEntry} {p : Place} (hn : n = 1 ∨ n = 2 ∨ n = 4 ∨ n = 8)
    (h : s.canReach .read va n e p = true) : load va n s = deviceRead p n s := by
  obtain ⟨ha, hspan, hdev, hp⟩ := device_of_canReach hn h
  simp only [load, alignCheck_ok .read (.inl ha), Res.bind_ok, hspan, hdev, ha, if_true, hp]

theorem storeAt_device {s t : State} {va v : Word} {n : Nat} {e : TlbEntry} {p : Place} (hn : n = 1 ∨ n = 2 ∨ n = 4 ∨ n = 8)
    (h : s.canReach .write va n e p = true) (ht : deviceWrite p n v s = .ok () t) :
    storeAt va n v s = .ok ⟨e.physAddr va, n, 0⟩ (t.noteStore va n) := by
  obtain ⟨ha, hspan, hdev, hp⟩ := device_of_canReach hn h
  simp only [storeAt, alignCheck_ok .write (.inl ha), Res.bind_ok, hspan, hdev, ha, if_true, hp, ht]

/-! ## Devices answer (R106, R112) -/

/-- The width restriction of a device is kept: the interrupt controller and the timers take octas only. -/
def Place.widthKept (p : Place) (n : Nat) : Prop := n = 8 ∨ ∀ off second, p ≠ .qic off ∧ p ≠ .timers second off

theorem deviceRead_answers {p : Place} {n : Nat} (s : State) (h : p.widthKept n) : ∃ x, deviceRead p n s = .ok x s := by
  cases p with
  | qic off => exact ⟨_, if_pos (h.resolve_right fun hn => (hn off false).1 rfl)⟩
  | timers second off => exact ⟨_, if_pos (h.resolve_right fun hn => (hn off second).2 rfl)⟩
  | _ => exact ⟨_, rfl⟩

theorem deviceWrite_answers {p : Place} {n : Nat} (v : Word) (s : State) (h : p.widthKept n) (hw : ∀ off, p ≠ .walker off) :
    ∃ t, deviceWrite p n v s = .ok () t := by
  cases p with
  | qic off => exact ⟨_, if_pos (h.resolve_right fun hn => (hn off false).1 rfl)⟩
  | timers second off => exact ⟨_, if_pos (h.resolve_right fun hn => (hn off second).2 rfl)⟩
  | walker off => exact absurd rfl (hw off)
  | _ => exact ⟨_, rfl⟩

/-- Nothing answers an address whose responses carry `Err` (log 41). -/
theorem port_of_err {s : State} {pa : Nat} (va : Word) (h : Sparse.get s.errs pa = 1#1) :
    s.port va pa = .nothing ∧ s.place pa = .nothing := by
  have he : s.isErr pa = true := by simp [State.isErr, h]
  simp [State.port, State.place, he]

end Sys2Proof.Machine

open Sys2Proof.Machine

/-- Settles O23: each clause is the fact about accesses of its kind. -/
theorem loadsSeeStores : Obligations.LoadsSeeStores := by
  refine ⟨?aligned, ?misaligned, ?twoPages, ?refused, ?busError, fun s va pa => port_of_err va, ?device, ?answers⟩
  case aligned =>
    intro s va v n e hn hi hw hr
    obtain ⟨hpass, ha, hm⟩ := canAccess_iff_canPass.1 hw
    exact load_after_storeAt hi (.inl ha) (pageCut_of_aligned hn ha) hpass (canAccess_iff_canPass.1 hr).1 hm
  case misaligned =>
    intro s va v n e _ _ hi hb hpage hw hr hm
    exact load_after_storeAt hi (.inr hb) (by unfold pageCut; omega) hw hr hm
  case twoPages =>
    intro s va n c e e' _ hb _ hcn hpage hp hp' hm hm'
    have hc : pageCut va n = c := by unfold pageCut; omega
    exact load_memory (.inr hb) (spanOf_twoPages hc hcn hp hp' hm hm') fun k hk => portOf_twoPages hm hm' hk
  case refused =>
    intro s va v n ha
    refine ⟨fun hf => ⟨⟨Trap.access .read 3#8 va, ?_, rfl, rfl⟩, Trap.access .write 3#8 va, ?_, rfl, rfl⟩,
      fun hr => ⟨?_, ?_⟩⟩
    · rw [load, alignCheck_fault .read ha hf, Res.bind_trap]
    · rw [storeAt, alignCheck_fault .write ha hf, Res.bind_trap]
    · rw [load, alignCheck_refuse .read ha hr, Res.bind_stop]
    · rw [storeAt, alignCheck_refuse .write ha hr, Res.bind_stop]
  case busError =>
    intro s va v n k e hn ha hk hlow hno
    have hc := pageCut_of_aligned hn ha
    refine ⟨fun hp => ⟨_, load_trap ha (spanOf_busError hc hp hk hlow hno (.inl (by decide))), rfl, rfl⟩, fun hp hi hm => ?_⟩
    split
    · rename_i hfree
      exact ⟨_, storeAt_trap v ha (spanOf_busError hc hp hk hlow hno (.inr hfree)), rfl, rfl⟩
    · rename_i hfree
      exact storeAt_lost v hi ha hc hp hno hm (Bool.not_eq_true _ ▸ hfree)
  case device =>
    intro s va v n e p hn
    exact ⟨load_device hn, fun h t ht => ⟨_, storeAt_device hn h ht⟩⟩
  case answers =>
    intro s p n v h
    exact ⟨deviceRead_answers s h, deviceWrite_answers v s h⟩

end

section
/-! PROOFS. Translation through an entry of the TLB, and the rights it needs (spec/21_memory_management.md R162, R166, R200, R201). -/

namespace Sys2Proof.Machine

/-- A key lets an access through that has key 0 or is held (R166). -/
theorem State.keyOk_iff (s : State) (key : BitVec 24) :
    s.keyOk key = true ↔ key = 0#24 ∨ key ∈ s.csr.keys.toList := by
  simp only [State.keyOk, Bool.or_eq_true, beq_iff_eq, List.any_beq', List.contains_iff_mem]

/-- What an access needs, one fact at a time (R200). -/
theorem permits_iff {s : State} {acc : Access} {e : TlbEntry} :
    s.permits acc e = true ↔
      e.rwx.getLsbD acc.bit = true ∧ (s.accessMode acc = 0#2 → e.u = true) ∧
        (e.rights (s.accessMode acc)).getLsbD acc.bit = true ∧ (e.group (s.accessMode acc)).getLsbD acc.bit = true ∧
        (e.key = 0#24 ∨ e.key ∈ s.csr.keys.toList) ∧
        (e.pl = 0#8 ∨ (acc = .execute ∧ e.n = true) ∨ e.pl.ule (srCpl s.sr) = true) := by
  simp only [State.permits, Bool.and_eq_true, Bool.or_eq_true, bne_iff_ne, beq_iff_eq, State.keyOk_iff, and_assoc, or_assoc,
    ne_eq, ← imp_iff_not_or]

theorem lookup_hit {s : State} {va : Word} {e : TlbEntry} (acc : Access) (hfind : s.tlbFind (vpnOf va) = some e) :
    lookup acc va s = .ok e s := by
  simp only [lookup, hfind]

theorem loadRights_known {e : TlbEntry} (acc : Access) (va : Word) (s : State) (hvalid : e.pmtValid = true) :
    loadRights acc va e s = .ok e s := if_pos hvalid

/-- Where the entry lacks a right, Privilege Violation comes before any granularity (R200, R201). -/
theorem translate_forbidden {s : State} {acc : Access} {va : Word} {e : TlbEntry} (n : Nat) (start : Word)
    (hfind : s.tlbFind (vpnOf va) = some e) (hvalid : e.pmtValid = true) (hno : s.permits acc e = false) :
    translate acc n start va s = .trap (Trap.access acc 5#8 va) s := by
  simp only [translate, lookup_hit acc hfind, loadRights_known acc va s hvalid, Res.bind_ok, hno, Bool.not_false, if_true,
    accessViolation]

end Sys2Proof.Machine

open Sys2Proof.Machine

/-- Settles O21: an entry that lets the access pass translates it, one that does not raises, and the rights are those of
`permits_iff`. -/
theorem translationChecksRights : Obligations.TranslationChecksRights := by
  intro acc n va s e hfind hvalid
  refine ⟨fun hpermits hgranular => ?_, fun hno => ?_, fun hpermits => ?_⟩
  · exact translate_of_canPass (canPass_iff.2 ⟨hfind, hvalid, hpermits, hgranular⟩)
  · exact ⟨_, translate_forbidden n va hfind hvalid hno, rfl, rfl⟩
  · obtain ⟨hentry, huser, hpage, hregion, hkey, _⟩ := permits_iff.1 hpermits
    exact ⟨hentry, hpage, hregion, huser, hkey⟩

end

section
/-! PROOFS. The page table walk (spec/21_memory_management.md R160, R161, R168 to R173). The walker reads octas of memory; what it does
with an entry of a table depends on the entry's level and kind alone, so each kind has its rule, for a table of any level, and the
clauses of O22 chain them from the root. -/

namespace Sys2Proof.Machine

/-! ## What the walker reads from memory -/

/-- The value of bytes is that of the first ones and that of the rest above them. -/
theorem Memory.value_add (m : Memory) (f : Nat → Nat) (a b : Nat) :
    m.value f (a + b) = m.value f a + m.value (fun k => f (a + k)) b * 2 ^ (8 * a) := by
  induction b with
  | zero => simp [Memory.value]
  | succ b ih =>
    rw [← Nat.add_assoc, Memory.value, ih, Memory.value, Nat.mul_add, Nat.pow_add]
    ring

theorem Memory.value_lt (m : Memory) (f : Nat → Nat) (n : Nat) : m.value f n < 2 ^ (8 * n) := by
  induction n with
  | zero => simp [Memory.value]
  | succ n ih =>
    have hbyte := (m.byte (f n)).isLt
    rw [Memory.value, Nat.mul_succ, Nat.pow_add]
    nlinarith

theorem holdsOcta_iff {s : State} {pa : Nat} {v : Word} :
    s.holdsOcta pa v = true ↔ (∀ k, k < 8 → s.place (pa + k) = .memory) ∧ s.bytes pa 8 = v := by
  simp only [State.holdsOcta, Bool.and_eq_true, List.all_eq_true, List.mem_range, beq_iff_eq]

/-- A read of bytes that memory answers. -/
theorem physRead_memory {s : State} {pa n : Nat} (acc : Access) (va : Word) (h : ∀ k, k < n → s.place (pa + k) = .memory) :
    physRead acc va pa n s = .ok (s.mem.value (pa + ·) n) s :=
  if_pos (by simpa only [List.all_eq_true, List.mem_range, beq_iff_eq] using h)

/-- A read of an entry of a page table. -/
theorem physRead_octa {s : State} {pa : Nat} {e : Word} (acc : Access) (va : Word) (h : s.holdsOcta pa e = true) :
    ∃ v, physRead acc va pa 8 s = .ok v s ∧ BitVec.ofNat 64 v = e := by
  obtain ⟨hm, hval⟩ := holdsOcta_iff.1 h
  exact ⟨_, physRead_memory acc va hm, hval⟩

/-- Two octas next to each other are one number of 128 bits. -/
theorem ofNat_value_append (m : Memory) (f : Nat → Nat) :
    BitVec.ofNat 128 (m.value f 16) =
      BitVec.ofNat 64 (m.value (fun k => f (8 + k)) 8) ++ BitVec.ofNat 64 (m.value f 8) := by
  have hlo := m.value_lt f 8
  have hhi := m.value_lt (fun k => f (8 + k)) 8
  apply BitVec.eq_of_toNat_eq
  rw [BitVec.toNat_append, BitVec.toNat_ofNat, BitVec.toNat_ofNat, BitVec.toNat_ofNat, m.value_add f 8 8, Nat.mod_eq_of_lt hlo,
    Nat.mod_eq_of_lt hhi, ← Nat.shiftLeft_add_eq_or_of_lt hlo, Nat.shiftLeft_eq]
  omega

/-- The 16 bytes of an entry of the page management table. -/
theorem physRead_octas {s : State} {pa : Nat} {lo hi : Word} (acc : Access) (va : Word) (hlo : s.holdsOcta pa lo = true)
    (hhi : s.holdsOcta (pa + 8) hi = true) : ∃ v, physRead acc va pa 16 s = .ok v s ∧ BitVec.ofNat 128 v = hi ++ lo := by
  obtain ⟨hmlo, rfl⟩ := holdsOcta_iff.1 hlo
  obtain ⟨hmhi, rfl⟩ := holdsOcta_iff.1 hhi
  refine ⟨_, physRead_memory acc va fun k hk => ?_, ?_⟩
  · by_cases h8 : k < 8
    · exact hmlo k h8
    · have := hmhi (k - 8) (by omega)
      rwa [show pa + 8 + (k - 8) = pa + k by omega] at this
  · simp only [ofNat_value_append, State.bytes, Nat.add_assoc]

/-! ## An entry of a table, by its kind (R170 to R173) -/

section
variable {acc : Access} {va e : Word} {table level idx lvl : Nat} {upper : BitVec 12} {s : State}

/-- An entry of level 0 translates nothing. -/
theorem walkTable_invalid (fuel : Nat) (h : s.holdsOcta (table + 8 * idx) e = true) (hl : (e.extractLsb' 61 3).toNat = 0) :
    walkTable acc va (fuel + 1) table level upper idx s = pageFault acc va s := by
  obtain ⟨v, hv, rfl⟩ := physRead_octa acc va h
  simp only [walkTable, hv, Res.bind_ok, hl, if_true]

/-- An entry of level 1 is a page table entry, in a table of any level. -/
theorem walkTable_leaf (fuel : Nat) (h : s.holdsOcta (table + 8 * idx) e = true) (hl : (e.extractLsb' 61 3).toNat = 1) :
    walkTable acc va (fuel + 1) table level upper idx s = .ok (leafEntry s va upper (some (table + 8 * idx)) e) s := by
  obtain ⟨v, hv, rfl⟩ := physRead_octa acc va h
  simp only [walkTable, hv, Res.bind_ok, hl, one_ne_zero, if_false, if_true]

/-- A shortcut ends the walk, in one of three ways (R173; log 29). -/
theorem walkTable_shortcut (fuel : Nat) (h : s.holdsOcta (table + 8 * idx) e = true) (hl : (e.extractLsb' 61 3).toNat = lvl)
    (h2 : 2 ≤ lvl) (hs : e.getLsbD 60 = true) :
    walkTable acc va (fuel + 1) table level upper idx s =
      if 4 < lvl then .stop .shortcutLevel
      else if e.toNat % 2 ^ (10 * (lvl - 1)) < (vpnOf va).toNat % 2 ^ (10 * (lvl - 1)) then pageFault acc va s
      else .ok (shortcutEntry s va (10 * (lvl - 1)) e) s := by
  obtain ⟨v, hv, rfl⟩ := physRead_octa acc va h
  simp only [walkTable, hv, Res.bind_ok, hl, show lvl ≠ 0 by omega, show lvl ≠ 1 by omega, hs, if_false, if_true]

/-- A pointer leads to the table below, and gives the upper bits of the page number (R172). -/
theorem walkTable_pointer (fuel : Nat) (h : s.holdsOcta (table + 8 * idx) e = true) (hl : (e.extractLsb' 61 3).toNat = lvl)
    (h2 : 2 ≤ lvl) (hs : e.getLsbD 60 = false) (hlevel : 2 ≤ level) :
    walkTable acc va (fuel + 1) table level upper idx s =
      walkTable acc va fuel (e.toNat % 2 ^ 57 * 2 ^ 13) (level - 1) (e.extractLsb' 45 12)
        (va.toNat / 2 ^ (13 + 10 * (level - 2)) % 1024) s := by
  obtain ⟨v, hv, rfl⟩ := physRead_octa acc va h
  simp only [walkTable, hv, Res.bind_ok, hl, show lvl ≠ 0 by omega, show lvl ≠ 1 by omega, hs,
    show ¬ level ≤ 1 by omega, Bool.false_eq_true, if_false]

end

/-! ## From the root (R172) -/

theorem walk_pastLimit {s : State} {va : Word} (acc : Access) (hh : s.ptw.hierarchical = true)
    (hlimit : s.ptw.limit < va.toNat / 2 ^ (13 + 10 * (s.ptw.rootLevel - 1))) : walk acc va s = pageFault acc va s := by
  simp only [walk, hh, Bool.not_true, Bool.false_eq_true, if_false, if_pos hlimit]

theorem walk_withinLimit {s : State} {va : Word} (acc : Access) (hh : s.ptw.hierarchical = true)
    (hlimit : va.toNat / 2 ^ (13 + 10 * (s.ptw.rootLevel - 1)) ≤ s.ptw.limit) :
    walk acc va s = walkTable acc va 16 (s.ptw.base.toNat / 8 * 8) s.ptw.rootLevel 0#12
      (va.toNat / 2 ^ (13 + 10 * (s.ptw.rootLevel - 1))) s := by
  simp only [walk, hh, Bool.not_true, Bool.false_eq_true, if_false, if_neg (Nat.not_lt.2 hlimit)]

theorem lookup_miss {s : State} {va : Word} (acc : Access) (hfind : s.tlbFind (vpnOf va) = none) :
    lookup acc va s = (walk acc va s).bind fun e s => .ok e (s.tlbInsert e) := by
  simp only [lookup, hfind]

/-- Past the limit of the root table there is no translation, whatever the access (R172, R201). -/
theorem translate_pastLimit {s : State} {va : Word} (acc : Access) (n : Nat) (start : Word)
    (hfind : s.tlbFind (vpnOf va) = none) (hh : s.ptw.hierarchical = true)
    (hlimit : s.ptw.limit < va.toNat / 2 ^ (13 + 10 * (s.ptw.rootLevel - 1))) :
    translate acc n start va s = pageFault acc va s := by
  rw [translate, lookup_miss acc hfind, walk_pastLimit acc hh hlimit]
  rfl

/-! ## The entry that a walk gives -/

/-- An entry that was just put in is the one that is found. -/
theorem tlbFind_tlbInsert {s : State} {e : TlbEntry} {vpn : BitVec 51} (h : e.hits s.tlbCount s.csr.asid vpn = true) :
    (s.tlbInsert e).tlbFind vpn = some e :=
  List.find?_cons_of_pos h

theorem walkedTo_leafEntry (s : State) (va : Word) (upper : BitVec 12) (pte : Option Nat) (e : Word) :
    s.walkedTo (s.tlbInsert (leafEntry s va upper pte e)) va (leafEntry s va upper pte e) :=
  ⟨rfl, rfl, rfl, rfl, rfl, rfl, tlbFind_tlbInsert (by simp [TlbEntry.hits, leafEntry])⟩

/-- Where no pointer gave upper bits, the page number is that of the entry. -/
theorem leafEntry_ppn_zero (s : State) (va : Word) (pte : Option Nat) (e : Word) :
    (leafEntry s va 0#12 pte e).ppn = (e.extractLsb' 0 45).setWidth 57 :=
  (BitVec.setWidth_eq_append (by decide)).symm

theorem walkedTo_shortcutEntry (s : State) (va : Word) (bits : Nat) (e : Word) :
    s.walkedTo (s.tlbInsert (shortcutEntry s va bits e)) va (shortcutEntry s va bits e) :=
  ⟨rfl, rfl, rfl, rfl, rfl, rfl, tlbFind_tlbInsert (by simp [TlbEntry.hits, shortcutEntry, leafEntry])⟩

/-- The page number that a shortcut gives is its block's, with the low bits of the page of the address: nothing is cut off, as a
block is aligned in the 57 bits of a page number (R173). -/
theorem shortcutEntry_ppn_toNat (s : State) (va e : Word) {bits : Nat} (hbits : bits ≤ 57) :
    (shortcutEntry s va bits e).ppn.toNat = e.toNat % 2 ^ 57 / 2 ^ bits * 2 ^ bits + (vpnOf va).toNat % 2 ^ bits := by
  have hlow : (vpnOf va).toNat % 2 ^ bits < 2 ^ bits := Nat.mod_lt _ (Nat.two_pow_pos bits)
  have hsplit : (2 : Nat) ^ 57 = 2 ^ (57 - bits) * 2 ^ bits := by rw [← Nat.pow_add, Nat.sub_add_cancel hbits]
  have hblock : e.toNat % 2 ^ 57 / 2 ^ bits < 2 ^ (57 - bits) :=
    Nat.div_lt_of_lt_mul (by rw [Nat.mul_comm, ← hsplit]; exact Nat.mod_lt _ (Nat.two_pow_pos 57))
  refine (BitVec.toNat_ofNat _ 57).trans (Nat.mod_eq_of_lt ?_)
  calc e.toNat % 2 ^ 57 / 2 ^ bits * 2 ^ bits + (vpnOf va).toNat % 2 ^ bits
      < (e.toNat % 2 ^ 57 / 2 ^ bits + 1) * 2 ^ bits := by rw [Nat.add_mul, Nat.one_mul]; exact Nat.add_lt_add_left hlow _
    _ ≤ 2 ^ (57 - bits) * 2 ^ bits := Nat.mul_le_mul_right _ hblock
    _ = 2 ^ 57 := hsplit.symm

/-! ## The page rights (R160, R161) -/

/-- The rights that are not yet known are read from the entry of the page in the page management table of its region. -/
theorem loadRights_first {s : State} {e : TlbEntry} {lo hi : Word} (acc : Access) (va : Word) (hnew : e.pmtValid = false) {g : Region}
    (hg : g = s.rgn[e.rgn.toNat]'e.rgn.isLt) (hlo : s.holdsOcta (g.pmt.toNat + 16 * e.ppn.toNat) lo = true)
    (hhi : s.holdsOcta (g.pmt.toNat + 16 * e.ppn.toNat + 8) hi = true) :
    loadRights acc va e s =
      .ok (e.withRights (hi ++ lo) g.attr (g.pmt.toNat + 16 * e.ppn.toNat))
        (s.tlbInsert (e.withRights (hi ++ lo) g.attr (g.pmt.toNat + 16 * e.ppn.toNat))) := by
  subst hg
  obtain ⟨v, hv, hval⟩ := physRead_octas acc va hlo hhi
  simp only [loadRights, hnew, Bool.false_eq_true, if_false, hv, Res.bind_ok, hval]

end Sys2Proof.Machine

open Sys2Proof.Machine

/-- Settles O22: a walk from the root is the rule of the entry that it meets there, or of the one in the table below. -/
theorem walkPastTheRootFaults : Obligations.WalkPastTheRootFaults := by
  refine ⟨?pastRoot, ?entries, ?rights⟩
  case pastRoot =>
    intro acc n va s hfind hh hlimit
    exact ⟨_, _, translate_pastLimit acc n va hfind hh hlimit, rfl, rfl, rfl, rfl, rfl, rfl, rfl, rfl⟩
  case entries =>
    intro acc va s e hfind hh idx level hlimit he
    have hlevel : (e.extractLsb' 61 3).toNat = level := rfl
    have hlookup : lookup acc va s = (walkTable acc va 16 (s.ptw.base.toNat / 8 * 8) s.ptw.rootLevel 0#12 idx s).bind
        fun e s => .ok e (s.tlbInsert e) := by rw [lookup_miss acc hfind, walk_withinLimit acc hh hlimit]
    clear_value level
    rw [hlookup]
    refine ⟨fun h0 => ?invalid, fun h1 => ?leaf, fun h2 h4 hs => ?shortcut, fun h4 hs => ?refused,
      fun h2 hs hroot e' he' hl' => ?pointer⟩
    case invalid =>
      rw [walkTable_invalid 15 he (hlevel.trans h0)]
      exact ⟨_, _, rfl, rfl, rfl, rfl⟩
    case leaf =>
      rw [walkTable_leaf 15 he (hlevel.trans h1)]
      exact ⟨_, _, rfl, walkedTo_leafEntry .., leafEntry_ppn_zero .., rfl, rfl, rfl⟩
    case shortcut =>
      rw [walkTable_shortcut 15 he hlevel h2 hs, if_neg (Nat.not_lt.2 h4)]
      refine ⟨fun hpast => ?_, fun hin => ?_⟩
      · rw [if_pos hpast]
        exact ⟨_, _, rfl, rfl, rfl⟩
      · rw [if_neg (Nat.not_lt.2 hin)]
        exact ⟨_, _, rfl, walkedTo_shortcutEntry .., shortcutEntry_ppn_toNat s va e (by omega)⟩
    case refused =>
      rw [walkTable_shortcut 15 he hlevel (by omega) hs, if_pos h4]
      rfl
    case pointer =>
      rw [walkTable_pointer 15 he hlevel h2 hs (by omega), hroot, walkTable_leaf 14 he' (congrArg BitVec.toNat hl')]
      exact ⟨_, _, rfl, walkedTo_leafEntry .., rfl, rfl, rfl, rfl⟩
  case rights =>
    intro acc va s e lo hi hnew pa hlo hhi
    have low {i k : Nat} (h : i + k ≤ 64) : (hi ++ lo).extractLsb' i k = lo.extractLsb' i k :=
      BitVec.extractLsb'_append_eq_of_add_le h
    have high {i k : Nat} (h : 64 ≤ i) : (hi ++ lo).extractLsb' i k = hi.extractLsb' (i - 64) k :=
      BitVec.extractLsb'_append_eq_of_le h
    exact ⟨_, _, loadRights_first acc va hnew rfl hlo hhi, rfl, rfl, rfl, rfl, low (by decide), low (by decide),
      low (by decide), low (by decide), BitVec.getLsbD_append, high (by decide), high (by decide), rfl⟩

end

section
/-! PROOFS. The round trip of the encoder through bytes (spec/30_encoding.md R220 to R240, R221). A word read from the bytes of an
instruction agrees with the instruction's word in the bits it has, whatever follows them, and that is all the decoder looks at:
`Laws.RoundTrip` says so for each constructor. -/

namespace Sys2Proof

/-- An instruction has at most twelve bytes. -/
theorem wordLen_le (w : BitVec 96) : wordLen w ≤ 12 := by
  unfold wordLen
  omega

/-- The low bits of a word laid out in bytes and read again, whatever stands after the bytes. -/
theorem getLsbD_wordOfBytes_bytesOfWord (rest : List Byte) {n m i : Nat} (e : BitVec 96) (hnm : n ≤ m) (hi : i < 8 * n)
    (hw : i < 96) : (wordOfBytes m (bytesOfWord e n ++ rest)).getLsbD i = e.getLsbD i := by
  induction n generalizing m e i with
  | zero => omega
  | succ n ih =>
    obtain ⟨m, rfl⟩ : ∃ k, m = k + 1 := ⟨m - 1, by omega⟩
    by_cases h8 : i < 8
    · simp [bytesOfWord, wordOfBytes, -BitVec.getLsbD_eq_getElem, h8, hw]
    · have hrest := ih (e >>> 8) (m := m) (i := i - 8) (by omega) (by omega) (by omega)
      rw [BitVec.getLsbD_ushiftRight, Nat.add_sub_cancel' (Nat.le_of_not_lt h8)] at hrest
      simp [bytesOfWord, wordOfBytes, -BitVec.getLsbD_eq_getElem, h8, hw, hrest]

/-- The word read from a word's low bytes agrees with it on them. -/
theorem sameLow_wordOfBytes (e : BitVec 96) (rest : List Byte) {n : Nat} (hn : n ≤ 12) :
    SameLow (8 * n) (wordOfBytes 12 (bytesOfWord e n ++ rest)) e := by
  intro lo k hk
  have hk : lo + k ≤ 8 * n := Nat.le_of_ble_eq_true hk
  refine BitVec.eq_of_getLsbD_eq fun i hi => ?_
  simp only [fld, BitVec.getLsbD_extractLsb', getLsbD_wordOfBytes_bytesOfWord rest e hn (i := lo + i) (by omega) (by omega)]

end Sys2Proof

namespace Sys2Proof.Laws.RoundTrip

/-- The family, assembled in the order of the constructors of `Instr`. -/
theorem statement (i : Instr) : Statement i :=
  i.casesOn
    zx sxImm sxReg move addi subfi muli andi ori eori cmpi divi mului cmpui divui add2ui add4ui add8ui add16ui auiip seqi zseqi
    snei slti slei sgti sgei sltui sleui sgtui sgeui zsnei zslti zslei zsgti zsgei zsltui zsleui zsgtui zsgeui csrrd csrrw csrrs
    csrrc csrrwImm csrrsImm csrrcImm chk chku and or eor cmp add cmpu cpuid cmov abs maj mul div mulu divu mulsu rem remu min3
    mid3 max3 minu3 midu3 maxu3 cntlz cntlo cntpop sqrt cnttz revbit revbitp revn revb revw revt revo ptrdif avgTrunc avgRound
    mux bmm bmap bytendx wydendx tetrandx cmoveq cmovne cmovlt cmovle seq sne slt sle sltu sleu sltuCode100 sleuCode101 zseq
    zsne zslt zsle zsltu zsleu zseqCode120 zsneCode121 zsltCode122 zsleCode123 zsltuCode124 zsleuCode125 sllp srlp srap sraprz
    srapru dep depxor sllpi srlpi srapi sraprzi sraprui depi depxori fma fms fadd fsub fsne fslt fcmp fabs fnabs fsqrt ftrunc
    fcos ldb ldw ldt ldo ldo24 ldbu ldwu ldtu fldh flds fldd ldcapd cache stb stw stt sto sto24 stib stiw stit stio fsth fsts
    fstd stcapd stptr stptr24 loada beq beqReg bne bneReg bltu bltuReg bleu bleuReg bgeu bgeuReg bgtu bgtuReg bbc bbcReg bbs
    bbsReg bbcImm bbcImmReg bbsImm bbsImmReg bnandb bnandbReg bandb bandbReg bnorb bnorbReg borb borbReg benor benorReg beor
    beorReg blt bltReg ble bleReg bge bgeReg bgt bgtReg bnand bnandReg band bandReg bnor bnorReg bor borReg fbcc fbccReg ibne
    ibneReg dbne dbneReg bra bsr jmpDirect jsrDirect jmpIndirect jsrIndirect jmpScaled jsrScaled ret rte rte2 cAndPerm cAndPermi
    cBuildCap cClearTag cCmp atom opcode58 brk add24 csrOp4 absR1 not nnatrig nnastat nnamfact mkbool rex sm3p0 sm3p1 aes64ds
    aes64dsm aes64es aes64esm aes64im sha256sig0 sha256sig1 sha256sum0 sha256sum1 sha512sig0 sha512sig1 sha512sum0 sha512sum1
    nand nor enor cmovnz divsu mulw muluw mulsuw modsu divmod divmodu dif nnamtwt nnamtin nnamtbias nnamtfb nnamtmc nnamtbc
    v2bits bits2v vex veins vgndx vshlv vshrv vsetmask vshlvi vshrvi aes64k1i aes64ks2 sm4ed sm4ks clmul mvvr reservedFunc4x7
    reservedFunc4x15 fconst fnop fmin fmax fsubCode5 fmul fdiv fseq fsle fnxt frem fsgnj fsgnjn fsgnjx fscaleb fneg ftoi itof
    fsign fsig fcvts2d fcvts2q fcvtd2q fcvth2s fcvth2d isnan finite fcvtq2h fcvtq2s fcvtq2d fcvth2q frsqrt fres fcvtd2s fclass
    fsin ftan fatan fsigmoid reservedLd65x3 dfldd dfldq pldw pldt pldo ldcapq dfstd pstw pstt psto stcapq stptrt
    reservedBcc40x14 reservedBcc48x14 irq40 irq48 irq41 irq49 reservedBcc41x6 reservedBcc49x6 reservedBcc41x7 reservedBcc49x7
    reservedBcc41x8 reservedBcc49x8 reservedBcc41x9 reservedBcc49x9 reservedBcc41x14 reservedBcc49x14 dfbcc dfbccReg pbcc
    pbccReg cbcc cbccReg cjmp34 cjmp37 cjmp39 nop cRetd cInvoke cCopyType cIncOffs cSeal cSetAddr cSetBounds cSetFlags cSetHigh
    cSetOffs cSpeicalRW cUnseal cGetFlags cGetHigh cGetLen cGetOffs cGetPerms cGetTag cGetTop cGetType cLoadTags cAlignMsk
    cRoundLen cSealEntry cGetBase qext pred pfx r3x128 flt128 dflt pst chksc stctx enter leave push pop blend bfind bcmp block
    amo cas stopOp fence pfi reservedRoot12 reservedRoot20 reservedRoot56 reservedRoot91 reservedRoot110 reservedRoot116
    reservedRoot117 reservedRoot118 reservedRoot119 reservedRoot123 reservedRoot125 reservedRoot126 reservedRoot1648
    reservedRoot1672 reservedRoot1696

end Sys2Proof.Laws.RoundTrip

open Sys2Proof

/-- Settles O1: the word read back agrees with the instruction's own word on its bits, and the decoder is right on every such word. -/
theorem encodedInstructionsDecodeBack : Obligations.EncodedInstructionsDecodeBack := fun i rest hwf =>
  Laws.RoundTrip.statement i hwf _ (sameLow_wordOfBytes (encode i) rest (wordLen_le _))

end

section
/-! PROOFS. Lengths and the constants of following immediates (spec/30_encoding.md R221; spec/49_capability_system_modifiers.md R852,
R853). The constant is the immediate above five bits of the register field. -/

namespace Sys2Proof.Machine

/-- A sign-extended immediate above the low five bits of a register field is the number of the two parts. -/
theorem toInt_signExtend_append {k : Nat} (v : BitVec k) (r : BitVec 6) (hk : k ≤ 59) :
    (v.signExtend 59 ++ r.setWidth 5 : Word).toInt = v.toInt * 32 + (r.toNat % 32 : Nat) := by
  rw [BitVec.toInt_append, BitVec.toInt_signExtend_of_le hk, BitVec.toNat_setWidth]
  exact congrArg (· + _) (Int.mul_comm _ _)

/-- The 85-bit form: the bits of the immediate that do not fit above the register field are cut off. -/
theorem fld_append_eq_ofNat (w : BitVec 96) (r : BitVec 6) :
    (fld w 11 59 ++ r.setWidth 5 : Word) = BitVec.ofNat 64 ((w >>> 11).toNat * 32 + r.toNat % 32) := by
  have hr : r.toNat % 2 ^ 5 < 2 ^ 5 := Nat.mod_lt _ (by decide)
  refine BitVec.eq_of_toNat_eq ?_
  rw [BitVec.toNat_append, fld, BitVec.extractLsb'_toNat, BitVec.toNat_setWidth, ← Nat.shiftLeft_add_eq_or_of_lt hr,
    Nat.shiftLeft_eq, BitVec.toNat_ofNat, BitVec.toNat_ushiftRight]
  omega

theorem postfixOf_24 {w : BitVec 96} (h : fld w 0 2 = 0#2) :
    postfixOf w = some ⟨fld w 9 2, (fld w 11 13).signExtend 59, 3⟩ := by rw [postfixOf, h]; rfl

theorem postfixOf_48 {w : BitVec 96} (h : fld w 0 2 = 1#2) :
    postfixOf w = some ⟨fld w 9 2, (fld w 11 37).signExtend 59, 6⟩ := by rw [postfixOf, h]; rfl

theorem postfixOf_72 {w : BitVec 96} (h : fld w 0 2 = 2#2) : postfixOf w = none := by rw [postfixOf, h]; rfl

theorem postfixOf_96 {w : BitVec 96} (h : fld w 0 2 = 3#2) : postfixOf w = some ⟨fld w 9 2, fld w 11 59, 12⟩ := by
  rw [postfixOf, h]; rfl

variable {s : State}

theorem State.constant_of_no_pfx (h : s.pfx = none) (slot : Slot) (r : BitVec 6) : s.constant slot r = none := by
  rw [State.constant, h]

/-- An immediate stands for the register of its own position and of no other. -/
theorem State.constant_of_pfx {p : Pfx} (h : s.pfx = some p) (slot : Slot) (r : BitVec 6) :
    s.constant slot r = if p.abc = slot.code then some (p.imm ++ r.setWidth 5) else none := by
  rw [State.constant, h]
  exact if_congr beq_iff_eq rfl rfl

end Sys2Proof.Machine

open Sys2Proof Sys2Proof.Machine

/-- Settles O2: by the four length codes, and by whether an immediate follows. -/
theorem lengthCodeGivesBytes : Obligations.LengthCodeGivesBytes := by
  refine ⟨fun w => ?lengths, fun w r => ?forms, fun s slot r => ⟨fun hp => ?without, fun p hp => ?following⟩⟩
  case lengths => exact ⟨wordLen_eq, wordLen_eq, wordLen_eq, wordLen_eq⟩
  case forms =>
    exact ⟨fun h => ⟨_, postfixOf_24 h, rfl, rfl, toInt_signExtend_append _ r (by decide)⟩,
      fun h => ⟨_, postfixOf_48 h, rfl, rfl, toInt_signExtend_append _ r (by decide)⟩, postfixOf_72,
      fun h => ⟨_, postfixOf_96 h, rfl, rfl, fld_append_eq_ofNat w r⟩⟩
  case without =>
    have hc := State.constant_of_no_pfx hp slot r
    exact ⟨hc, State.value_of_no_pfx hp slot r, by simp [State.readable, hc]⟩
  case following =>
    have hc := State.constant_of_pfx hp slot r
    refine ⟨fun h => ?_, fun h => by rw [hc, if_neg h]⟩
    rw [if_pos h] at hc
    exact ⟨by rw [State.value, hc]; rfl, by rw [State.readable, hc]; rfl⟩

end

section
/-! PROOFS. A step in the core's turn (spec/30_encoding.md R221, R222, R260; spec/21_memory_management.md R201): what it does by how
its fetch ends and by what the word decodes to. -/

namespace Sys2Proof.Machine

/-- In the core's turn a step is one instruction. -/
theorem step_of_turn {s u : State} (h : s.turn = some u) : step s = instruction u := by
  unfold State.turn at h
  unfold step
  split at h
  next ha => cases h; rw [ha]
  next rest ha => cases h; rw [ha]
  next => cases h

theorem State.canRun_iff (s : State) : s.canRun = true ↔ s.tracing = false ∧ s.ptw.hierarchical = true := by
  simp [State.canRun]

section
variable {s t : State} {w : BitVec 96} (hrun : s.canRun = true)
include hrun

/-- A word that is an instruction is executed on the state its fetch leaves. -/
theorem instruction_exec {i : Instr} (hf : fetch s = .ok w t) (hd : s.par.decode w = .instr i) :
    instruction s = advanceDraws (exec i t) := by
  obtain ⟨htrace, hpt⟩ := s.canRun_iff.1 hrun
  simp [instruction, htrace, hpt, hf, hd]

/-- A word that encodes nothing raises, whatever the reason. -/
theorem instruction_unimplemented {why : Reserved} (hf : fetch s = .ok w t) (hd : s.par.decode w = .unimplemented why) :
    instruction s = advanceDraws (raiseUnimplemented t).finish := by
  obtain ⟨htrace, hpt⟩ := s.canRun_iff.1 hrun
  simp [instruction, htrace, hpt, hf, hd]

/-- A fetch that raises is an exception. -/
theorem instruction_trap {e : Trap} (hf : fetch s = .trap e t) : instruction s = advanceDraws (.next (trapEntry e t)) := by
  obtain ⟨htrace, hpt⟩ := s.canRun_iff.1 hrun
  simp [instruction, htrace, hpt, hf]

end

/-- Where following immediates are not supported, none is found (spec/49_capability_system_modifiers.md R852). -/
theorem fetchPostfix_refuse {s t : State} {va : Word} {p : Option Pfx} (hpar : s.par.pfxModel = .refuse)
    (h : fetchPostfix va s = .ok p t) : p = none := by
  unfold fetchPostfix at h
  split at h
  · cases h; rfl
  · split at h
    · rw [hpar] at h; cases h
    · cases h; rfl

/-- Reading instruction bytes leaves the parameters of the run. -/
theorem fetchBytes_par {g n m : Nat} {va : Word} {s t : State} (h : fetchBytes g va n s = .ok m t) : t.par = s.par := by
  have hk := fetchBytes_keeps (P := fun t => t.par = s.par)
    { tlb := fun _ _ h => h, fault := fun _ _ _ h => h, note := fun _ _ h => h } g va n rfl
  rwa [h] at hk

/-- A fetch that succeeds leaves the instruction pointer. -/
theorem fetch_ok_ip {s t : State} {w : BitVec 96} (h : fetch s = .ok w t) : t.ip = s.ip := by
  have hk := fetch_ip s
  rwa [h] at hk

/-- So does a fetch that raises. -/
theorem fetch_trap_ip {s t : State} {e : Trap} (h : fetch s = .trap e t) : t.ip = s.ip := by
  have hk := fetch_ip s
  rwa [h] at hk

/-- The exception of a fetch names no address of its own: the one saved is that of the instruction. -/
theorem fetch_trap_eip {s t : State} {e : Trap} (h : fetch s = .trap e t) : e.eip = none := by
  have hk := fetch_savesOwn s
  rwa [h] at hk

/-- With the default parameters the decoder is the plain one. -/
theorem Params.decode_default {p : Params} (hb : p.bsrLayout = bsrDefault) (hs : p.sraprCodes = .description)
    (hf : p.fpOpcodes = .map) (w : BitVec 96) : p.decode w = Sys2Proof.decode w := by
  simp [Params.decode, hb, hs, hf]

end Sys2Proof.Machine

open Sys2Proof.Machine

/-- Settles O3: the turn gives an instruction, and the parts of its fetch are those that `fetch_inv` names. -/
theorem stepRunsDecodedInstruction : Obligations.StepRunsDecodedInstruction := by
  refine ⟨fun s u t w i hturn hrun hf hd => ?runs, fun s u hturn => ⟨fun htrace => ?traced, fun htrace hpt => ?otherTable⟩,
    fun s ha => ?noEvent, fun s rest ha => ?ownEvent, fun p w hb hs hm => p.decode_default hb hs hm w⟩
  case runs =>
    have hstep : step s = advanceDraws (exec i t) := (step_of_turn hturn).trans (instruction_exec hrun hf hd)
    obtain ⟨hir, hatom⟩ := fetch_ok hf
    obtain ⟨b, n, p, x, y, z, hfirst, hall, hw, hp, ht⟩ := fetch_inv hf
    have hpfx : t.pfx = p := congrArg State.pfx ht
    have hpar : y.par = u.par := (fetchBytes_par hall).trans (fetchBytes_par hfirst)
    refine ⟨hir, hatom, fetch_ok_ip hf, fun hr => hpfx.trans (fetchPostfix_refuse (hpar ▸ hr) hp),
      ⟨b, n, x, y, z, hfirst, hall, hw, ?_, ?_⟩, fun v hv => by rw [hstep, hv]; rfl, fun r hr => by rw [hstep, hr]; rfl⟩
    · rw [hpfx]; exact hp
    · rw [hpfx]; exact ht
  case traced => simp [step_of_turn hturn, instruction, htrace]
  case otherTable => simp [step_of_turn hturn, instruction, htrace, hpt]
  case noEvent => rw [State.turn, ha]
  case ownEvent => rw [State.turn, ha]

/-- Settles O4: either exception saves the instruction pointer, which the fetch has left. -/
theorem stepTakesFetchAndDecodeExceptions : Obligations.StepTakesFetchAndDecodeExceptions := by
  refine ⟨fun s u t w why hturn hrun hf hd => ?unimplemented, fun s u t e hturn hrun hf => ?raised⟩
  case unimplemented =>
    obtain ⟨v, hv, htook⟩ := raiseUnimplemented_took t
    refine ⟨{ v with draws := v.draws + 1 }, ?_, fetch_ok_ip hf ▸ htook⟩
    rw [step_of_turn hturn, instruction_unimplemented hrun hf hd, hv]
    rfl
  case raised =>
    have htook := tookException_trapEntry e t
    rw [fetch_trap_eip hf, Option.getD_none, fetch_trap_ip hf] at htook
    exact ⟨_, (step_of_turn hturn).trans (instruction_trap hrun hf), htook, fetch_trap_ip hf⟩

end

section
/-! PROOFS. The reserved rows of the opcode table (spec/30_encoding.md R260; spec/92_eei_decisions.md D9). -/

namespace Sys2Proof.Machine

/-- The meaning of every reserved row is the exception alone. -/
theorem exec_reservedInstrs : ∀ i ∈ reservedInstrs, ∀ s, exec i s = (raiseUnimplemented s).finish := by
  simp only [reservedInstrs, reservedInstrs1, reservedInstrs2, List.forall_mem_append, List.forall_mem_cons, List.not_mem_nil,
    false_implies, implies_true, and_true]
  and_intros <;> exact fun _ => rfl

end Sys2Proof.Machine

open Sys2Proof.Machine

/-- Settles O18: each row of the list is the one exception. -/
theorem reservedEncodingsRaise : Obligations.ReservedEncodingsRaise := fun i hi s => by
  obtain ⟨t, ht, htook⟩ := raiseUnimplemented_took s
  exact ⟨t, (exec_reservedInstrs i hi s).trans ht, htook⟩

end

section
/-! PROOFS. The square root of a lane (spec/40_arithmetic.md R323), found bit by bit from the top. What the loop keeps is that the
root lies between the bits found so far and the next number that the bits to come cannot reach. -/

namespace Sys2Proof.Machine

/-- From a lower bound with `k` bits to come the loop ends at the floor of the root. -/
theorem isqrtBits_floor (a : Nat) : ∀ k r : Nat, r ^ 2 ≤ a → a < (r + 2 ^ k) ^ 2 →
    isqrtBits a k r ^ 2 ≤ a ∧ a < (isqrtBits a k r + 1) ^ 2
  | 0, _, hlow, hhigh => ⟨hlow, hhigh⟩
  | k + 1, r, hlow, hhigh => by
    rw [isqrtBits]
    split
    next hbit =>
      refine isqrtBits_floor a k (r + 2 ^ k) (by rwa [sq]) ?_
      rwa [Nat.add_assoc, ← Nat.two_mul, ← Nat.pow_succ']
    next hbit =>
      refine isqrtBits_floor a k r hlow ?_
      rw [sq]
      exact Nat.lt_of_not_le hbit

/-- The root of a lane of even width, which half the bits hold. -/
theorem isqrt_floor {w : Nat} (v : BitVec w) (hw : 2 * (w / 2) = w) :
    (isqrt v).toNat ^ 2 ≤ v.toNat ∧ v.toNat < ((isqrt v).toNat + 1) ^ 2 := by
  have hhigh : v.toNat < (0 + 2 ^ (w / 2)) ^ 2 := by
    rw [Nat.zero_add, ← Nat.pow_mul, Nat.mul_comm, hw]
    exact v.isLt
  have hfloor := isqrtBits_floor v.toNat (w / 2) 0 (Nat.zero_le _) hhigh
  have hfits : isqrtBits v.toNat (w / 2) 0 < 2 ^ w :=
    calc isqrtBits v.toNat (w / 2) 0 ≤ isqrtBits v.toNat (w / 2) 0 ^ 2 := Nat.le_self_pow (by decide) _
      _ ≤ v.toNat := hfloor.1
      _ < 2 ^ w := v.isLt
  rwa [isqrt, BitVec.toNat_ofNat, Nat.mod_eq_of_lt hfits]

end Sys2Proof.Machine

open Sys2Proof.Machine

/-- Settles O26: every lane width is even. -/
theorem squareRootIsFloor : Obligations.SquareRootIsFloor := fun w v hw => isqrt_floor v (by omega)

end

section
/-! PROOFS. What the instructions of an operand form compute (spec/40_arithmetic.md, spec/41_multiply_divide.md, spec/
43_logical.md). Each operand form is settled once: an instruction whose meaning is the form with some lane function completes with
that function of the lanes, and an Op4 value that the form does not define raises. -/

namespace Sys2Proof.Machine

/-! ## The register form -/

theorem computes3_of_lanes3 {mk : R3 → Instr} {ok : R3 → State → Bool} {g : R3 → LaneFn}
    (h : ∀ f s, ok f s = true → exec (mk f) s = (lanes3 f (g f) s).finish) : computes3 mk ok g := by
  intro f s hready hok
  rw [h f s hok, lanes3_ok (g f) hready]
  exact finishWrite_wrote _ _ _ s

/-- Where Op4 names a second operation, the form applies it to the result and the lane of Rc (spec/30_encoding.md R230). -/
theorem fused_defined {f : R3} (hd : fuseDefined f.op4 = true) (g : (w : Nat) → BitVec w → BitVec w → BitVec w → BitVec w)
    (res : (w : Nat) → BitVec w → BitVec w) (s : State) :
    fused f g res s = lanes3 f (fun w a b c u => res w (fuse f.op4 f.nc (g w a b u) c)) s := by
  rw [fused, hd, requireDefined_true, Res.bind_ok]

theorem fused_undefined {f : R3} (hd : fuseDefined f.op4 = false) (g : (w : Nat) → BitVec w → BitVec w → BitVec w → BitVec w)
    (res : (w : Nat) → BitVec w → BitVec w) (s : State) : fused f g res s = raiseUnimplemented s := by
  rw [fused, hd]; rfl

theorem computes3_of_fused {mk : R3 → Instr} {g : R3 → (w : Nat) → BitVec w → BitVec w → BitVec w → BitVec w}
    {res : R3 → (w : Nat) → BitVec w → BitVec w}
    (h : ∀ f s, fuseDefined f.op4 = true → exec (mk f) s = (fused f (g f) (res f) s).finish) :
    computes3 mk (fun f _ => fuseDefined f.op4) (fun f w a b c u => res f w (fuse f.op4 f.nc (g f w a b u) c)) :=
  computes3_of_lanes3 fun f s hd => by rw [h f s hd, fused_defined hd]

/-- The operations of Op4 are the values 0 to 3; the others, of which a form may define some, are none of them (R230). -/
theorem fuseDefined_eq_false {op4 : BitVec 4} (h : 4 ≤ op4.toNat) : fuseDefined op4 = false :=
  decide_eq_false (Nat.not_lt.2 h)

theorem beq_false_of_fuseDefined {op4 k : BitVec 4} (hd : fuseDefined op4 = true) (hk : fuseDefined k = false) :
    (op4 == k) = false :=
  beq_false_of_ne fun e => by rw [e, hk] at hd; cases hd

/-! ## Op4 values with a meaning of their own -/

theorem execAdd_fused {f : R3} (h : f.op4 ≠ 11#4) (s : State) :
    execAdd f s = (fused f (fun _ a b _ => neg f.na a + neg f.nb b) (fun _ => neg f.nt) s).finish := by
  rw [execAdd, bne_iff_ne.2 h, require_true, Res.bind_ok]

theorem execMulu_fused {f : R3} (h : f.op4 ≠ 9#4) (s : State) : execMulu f s = (multiplied f s).finish := by
  rw [execMulu, bne_iff_ne.2 h, require_true, Res.bind_ok]

theorem execOr_fused {f : R3} (h : (f.op4 == 15#4) = false) (s : State) :
    execOr f s = (fused f (fun _ a b _ => com f.na a ||| com f.nb b) (fun _ => com f.nt) s).finish := by
  rw [execOr, h]; rfl

theorem execOr_majority {f : R3} (h : (f.op4 == 15#4) = true) (s : State) :
    execOr f s = (lanes3 f (fun _ a b c _ => com f.nt (majority (com f.na a) (com f.nb b) (com f.nc c))) s).finish := by
  rw [execOr, h]; rfl

theorem execEor_fused {f : R3} (h : (f.op4 == 15#4) = false) (s : State) :
    execEor f s = (fused f (fun _ a b _ => com f.na a ^^^ com f.nb b) (fun _ => com f.nt) s).finish := by
  rw [execEor, h]; rfl

theorem execEor_parity {f : R3} (h : (f.op4 == 15#4) = true) (s : State) :
    execEor f s = (lanes3 f (fun w a b c _ =>
      com f.nt ((bit1 (parity (com f.na a) ^^ parity (com f.nb b) ^^ parity (com f.nc c))).setWidth w)) s).finish := by
  rw [execEor, h]; rfl

theorem compare_fused {f : R3} (signed : Bool) (h : (f.op4 == 15#4) = false) (s : State) :
    compare signed f s =
      fused f (fun _ a b u => cmpVector signed (neg f.na a) (neg f.nb b) u) (fun _ => neg f.nt) s := by
  rw [compare, h]; rfl

/-- DIV and REM are the fused form, but that a zero lane of the divisor raises (spec/41_multiply_divide.md R351). -/
theorem dividedSigned_ready {f : R3} {s : State} (g : (w : Nat) → BitVec w → BitVec w → BitVec w → BitVec w)
    (hd : fuseDefined f.op4 = true) (hready : s.ready3 f = true) :
    dividedSigned f g s =
      if anyLane f.prec (fun _ v => v == 0) (s.value .b f.rb) = true then raiseDivideByZero s
      else fused f (fun w a b u => g w (neg f.na a) (neg f.nb b) u) (fun _ => neg f.nt) s := by
  rw [fused_defined hd, lanes3_ok _ hready]
  simp only [State.ready3, Bool.and_eq_true] at hready
  obtain ⟨⟨⟨ha, hb⟩, hc⟩, ht⟩ := hready
  simp only [dividedSigned, hd, requireDefined_true, Res.bind_ok, operand_ok ha, operand_ok hb, operand_ok hc, target_ok ht]

theorem computes3_of_dividedSigned {mk : R3 → Instr} {g : (w : Nat) → BitVec w → BitVec w → BitVec w → BitVec w}
    (h : ∀ f s, exec (mk f) s = (dividedSigned f g s).finish) :
    computes3 mk (fun f s => fuseDefined f.op4 && !anyLane f.prec (fun _ v => v == 0) (s.value .b f.rb))
      (fun f w a b c u => neg f.nt (fuse f.op4 f.nc (g w (neg f.na a) (neg f.nb b) u) c)) := by
  intro f s hready hok
  obtain ⟨hd, hz⟩ := Bool.and_eq_true_iff.1 hok
  rw [Bool.not_eq_true'] at hz
  rw [h, dividedSigned_ready g hd hready, hz, if_neg Bool.false_ne_true, fused_defined hd, lanes3_ok _ hready]
  exact finishWrite_wrote _ _ _ s

/-! ## Exceptions -/

theorem raises_of_unimplemented {i : Instr} {s : State} {x : Res Unit} (he : exec i s = x.finish)
    (hx : x = raiseUnimplemented s) : raises i s 4#8 := by
  rw [raises, he, hx]
  exact raiseUnimplemented_took s

theorem raises_of_fused_undefined {i : Instr} {f : R3} {s : State} (hd : fuseDefined f.op4 = false)
    {g : (w : Nat) → BitVec w → BitVec w → BitVec w → BitVec w} {res : (w : Nat) → BitVec w → BitVec w}
    (he : exec i s = (fused f g res s).finish) : raises i s 4#8 :=
  raises_of_unimplemented he (fused_undefined hd g res s)

/-- A form that first asks for defined Op4 values raises at the others. -/
theorem raises_of_requireDefined {i : Instr} {s : State} {c : Bool} {k : Unit → State → Res Unit} (hc : c = false)
    (he : exec i s = ((requireDefined c s).bind k).finish) : raises i s 4#8 :=
  raises_of_unimplemented he (by rw [hc]; rfl)

theorem raises_of_divideByZero {i : Instr} {s : State} {x : Res Unit} (he : exec i s = x.finish)
    (hx : x = raiseDivideByZero s) : raises i s 64#8 := by
  rw [raises, he, hx]
  exact ⟨_, rfl, tookException_trapEntry (Trap.plain 64#8) s⟩

/-! ## The other forms -/

theorem computes1_of_lanes1 {mk : R1 → Instr} {ok : R1 → Bool} {g : R1 → (w : Nat) → BitVec w → BitVec w}
    (h : ∀ f s, ok f = true → exec (mk f) s = (lanes1 f (g f) s).finish) : computes1 mk ok g := by
  intro f s ha ht hok
  rw [h f s hok, lanes1_ok (g f) ha ht]
  exact finishWrite_wrote _ _ _ s

/-- A one-operand form that asks for a zero Op4 field (spec/93_implementation_defined.md U10). -/
theorem computes1_of_drawn {mk : R1 → Instr} {g : R1 → (w : Nat) → BitVec w → BitVec w}
    (h : ∀ f s, exec (mk f) s = ((require (f.op4 == 0#4) .drawnField s).bind fun _ s => lanes1 f (g f) s).finish) :
    computes1 mk (fun f => f.op4 == 0#4) g :=
  computes1_of_lanes1 fun f s hok => by rw [h, hok, require_true, Res.bind_ok]

theorem computesImm_of_lanesImm {mk : RIForm → Instr} {ext : ImmView → Word}
    {g : ImmView → (w : Nat) → BitVec w → BitVec w → BitVec w → BitVec w}
    (h : ∀ f s, exec (mk f) s = (lanesImm (viewOf f) (ext (viewOf f)) (g (viewOf f)) s).finish) : computesImm mk ext g := by
  intro f s ha ht
  rw [h, lanesImm_ok _ _ ha ht]
  exact finishWrite_wrote _ _ _ s

/-- The short register form (spec/40_arithmetic.md R302). -/
theorem short3_wrote {f : R24} {s : State} (g : Word → Word → Word) (ha : s.readable .a (f.ra.setWidth 6) = true)
    (hb : s.readable .b (f.rb.setWidth 6) = true) (ht : s.writable (f.rt.setWidth 6) = true) :
    ∃ t, (short3 f g s).finish = .next t ∧
      s.wrote t (f.rt.setWidth 6) (g (s.value .a (f.ra.setWidth 6)) (s.value .b (f.rb.setWidth 6))) 3 := by
  simp only [short3, operand_ok ha, operand_ok hb, target_ok ht, Res.bind_ok]
  exact finishWrite_wrote _ _ _ s

/-- BMM, whose Op3 field is drawn without a use (spec/41_multiply_divide.md R352). -/
theorem execBmm_wrote {f : Bmm} {s : State} (ha : s.readable .a f.ra = true) (hb : s.readable .b f.rb = true)
    (ht : s.writable f.rt = true) (hop : f.op3 = 0#3) :
    ∃ t, execBmm f s = .next t ∧
      s.wrote t f.rt (com f.nt (matrixProduct (com f.na (s.value .a f.ra)) (com f.nb (s.value .b f.rb)))) 6 := by
  simp only [execBmm, hop, beq_self_eq_true, require_true, operand_ok ha, operand_ok hb, target_ok ht, Res.bind_ok]
  exact finishWrite_wrote _ _ _ s

end Sys2Proof.Machine

open Sys2Proof Sys2Proof.Machine

/-- Settles O29: the fused form, but for MAJ and OR's Op4 = 15, which use Rc themselves. -/
theorem logicalInstructions : Obligations.LogicalInstructions := by
  have hne15 : ∀ {f : R3}, fuseDefined f.op4 = true → (f.op4 == 15#4) = false :=
    fun hd => beq_false_of_fuseDefined hd rfl
  exact ⟨computes3_of_fused fun _ _ _ => rfl,
    fun _ _ h => raises_of_fused_undefined (fuseDefined_eq_false h) rfl,
    computes3_of_fused fun _ s hd => execOr_fused (hne15 hd) s,
    computes3_of_lanes3 fun _ s h => execOr_majority h s,
    fun _ s h h15 => raises_of_fused_undefined (fuseDefined_eq_false h) (execOr_fused (beq_false_of_ne h15) s),
    computes3_of_fused fun _ s hd => execEor_fused (hne15 hd) s,
    computes3_of_lanes3 fun _ _ _ => rfl⟩

/-- Settles O30: an undefined Op4 value is seen before the operands, a zero divisor after them. -/
theorem registerFormsThatRaise : Obligations.RegisterFormsThatRaise := by
  refine ⟨fun f s h4 => ?undefined, fun f s hready hd hzero => ?zeroDivisor⟩
  case undefined =>
    have hd := fuseDefined_eq_false h4
    have h3 : (f.op4 == 3#4) = false := beq_false_of_ne fun e => by rw [e] at h4; exact absurd h4 (by decide)
    refine ⟨fun h11 => raises_of_fused_undefined hd (execAdd_fused h11 s), fun h11 => ?_, raises_of_fused_undefined hd rfl,
      raises_of_requireDefined hd rfl, raises_of_requireDefined h3 rfl, fun h15 => ?_, fun h9 => ?_⟩
    · show execAdd f s = _
      rw [execAdd, h11]; rfl
    · have hne := beq_false_of_ne h15
      exact ⟨raises_of_fused_undefined hd (execEor_fused hne s),
        raises_of_fused_undefined hd (congrArg Res.finish (compare_fused true hne s)),
        raises_of_fused_undefined hd (congrArg Res.finish (compare_fused false hne s))⟩
    · show execMulu f s = _
      rw [execMulu, h9]; rfl
  case zeroDivisor =>
    have hraise := fun g => (dividedSigned_ready g hd hready).trans (if_pos hzero)
    exact ⟨raises_of_divideByZero rfl (hraise _), raises_of_divideByZero rfl (hraise _)⟩

/-- Settles O32: the fused form, its signed divisions, and the words that have a form of their own. -/
theorem sumsProductsAndQuotients : Obligations.SumsProductsAndQuotients := by
  have hne : ∀ {f : R3} {k : BitVec 4}, fuseDefined f.op4 = true → fuseDefined k = false → f.op4 ≠ k :=
    fun hd hk => ne_of_beq_false (beq_false_of_fuseDefined hd hk)
  refine ⟨computes3_of_fused fun _ s hd => execAdd_fused (hne hd rfl) s,
    computes3_of_lanes3 fun f s h3 => ?abs,
    computes3_of_lanes3 fun _ s h => execEor_parity h s,
    computes3_of_fused fun _ _ _ => rfl,
    computes3_of_fused fun _ s hd => execMulu_fused (hne hd rfl) s,
    computes3_of_fused fun _ _ _ => rfl,
    computes3_of_dividedSigned fun _ _ => rfl,
    computes3_of_dividedSigned fun _ _ => rfl,
    computes3_of_fused fun _ _ _ => rfl,
    computes3_of_fused fun _ _ _ => rfl,
    fun _ _ => execBmm_wrote,
    fun s ha hb ht => ⟨fun hpar => ?add, fun hpar => ?and⟩⟩
  case abs =>
    show execAbs f s = _
    rw [execAbs, h3, requireDefined_true, Res.bind_ok]
  case add =>
    show ∃ t, execAdd24 s = .next t ∧ _
    rw [execAdd24, hpar]
    exact short3_wrote _ ha hb ht
  case and =>
    show ∃ t, execAdd24 s = .next t ∧ _
    rw [execAdd24, hpar]
    exact short3_wrote _ ha hb ht

/-- Settles O36: each is the register-immediate form with its extension and its lane function. -/
theorem immediateInstructions : Obligations.ImmediateInstructions := by
  unfold Obligations.ImmediateInstructions
  and_intros <;> exact computesImm_of_lanesImm fun _ _ => rfl

/-- Settles O37: each is the one-operand form with its lane function, the counts and the square root where Op4 is zero. -/
theorem oneOperandInstructions : Obligations.OneOperandInstructions := by
  refine ⟨computes1_of_drawn fun _ _ => rfl, computes1_of_drawn fun _ _ => rfl, computes1_of_drawn fun _ _ => rfl,
    computes1_of_drawn fun _ _ => rfl, computes1_of_drawn fun _ _ => rfl, ?reversals⟩
  simp only [List.forall_mem_cons, List.not_mem_nil, false_implies, implies_true, and_true]
  and_intros <;> exact computes1_of_lanes1 fun _ _ _ => rfl

end

section
/-! PROOFS. Arithmetic instructions with an operand form of their own (spec/40_arithmetic.md R309 to R312, R316, R317, R320, R321;
spec/42_data_movement.md R380; spec/46_floating_point.md R553). -/

namespace Sys2Proof.Machine

variable {s : State}

/-! ## PTRDIF and the averages, the character index, the byte map -/

/-- A lane function that does not look at its third operand gives the same for every third operand. -/
theorem mapLanes_ignores_third (p : Prec) (g : (w : Nat) → BitVec w → BitVec w → BitVec w) (a b c c' u : Word) :
    mapLanes p (fun w a b _ _ => g w a b) a b c u = mapLanes p (fun w a b _ _ => g w a b) a b c' u := by
  cases p <;> rfl

/-- The count is Rc itself or is taken from the register that Rc names, which alone is then read (spec/40_arithmetic.md
R321). -/
theorem scaled_wrote {f : R3} (g : (w : Nat) → BitVec w → BitVec w → Nat → BitVec w) (ha : s.readable .a f.ra = true)
    (hb : s.readable .b f.rb = true) (ht : s.writable f.rt = true)
    (hc : f.op4.getLsbD 3 = true ∨ s.readable .c f.rc = true) :
    ∃ t, (scaled f g s).finish = .next t ∧
      s.wrote t f.rt
        (mapLanes f.prec (fun w a b c _ => neg f.nt (g w (neg f.na a) (neg f.nb b)
            (if f.op4.getLsbD 3 then f.rc.toNat else (neg f.nc c).toNat % 64)))
          (s.value .a f.ra) (s.value .b f.rb) (s.value .c f.rc) 0#64) 6 := by
  cases h3 : f.op4.getLsbD 3 with
  | true =>
    simp only [scaled, scaleOperand, scaleCount, h3, if_true, operand_ok ha, operand_ok hb, target_ok ht, Res.bind_ok]
    rw [mapLanes_ignores_third f.prec _ _ _ (s.value .c f.rc) 0#64]
    exact finishWrite_wrote _ _ _ s
  | false =>
    have hc := hc.resolve_left (by rw [h3]; exact Bool.false_ne_true)
    simp only [scaled, scaleOperand, scaleCount, h3, Bool.false_eq_true, if_false, operand_ok ha, operand_ok hb,
      operand_ok hc, target_ok ht, Res.bind_ok]
    exact finishWrite_wrote _ _ _ s

theorem ndx_wrote {f : Ndx} (w : Nat) (ha : s.readable .a f.ra = true) (hb : s.readable .b f.rb = true)
    (ht : s.writable f.rt = true) (hbi : f.bi = false) :
    ∃ t, (ndx w f s).finish = .next t ∧
      s.wrote t f.rt (neg f.nt (ndxFind w f.op2 f.mask (neg f.na (s.value .a f.ra))
        ((neg f.nb (s.value .b f.rb)).setWidth w))) 6 := by
  simp only [ndx, hbi, Bool.not_false, require_true, operand_ok ha, operand_ok hb, target_ok ht, Res.bind_ok]
  exact finishWrite_wrote _ _ _ s

theorem execBmap_wrote {f : R3} (ha : s.readable .a f.ra = true) (hc : s.readable .c f.rc = true)
    (ht : s.writable f.rt = true) (hop : f.op4 = 0#4) (hprec : f.prec = .octa) :
    ∃ t, execBmap f s = .next t ∧
      s.wrote t f.rt (com f.nt (byteMap (com f.na (s.value .a f.ra)) ((com f.nc (s.value .c f.rc)).setWidth 32)
        (s.free slotResult))) 6 := by
  have hdef : decide (f.op4.toNat < 6) = true := by rw [hop]; rfl
  have hform : (f.op4 == 0#4 && f.prec == .octa) = true := by rw [hop, hprec]; rfl
  simp only [execBmap, hdef, hform, requireDefined_true, require_true, operand_ok ha, operand_ok hc, target_ok ht, Res.bind_ok]
  exact finishWrite_wrote _ _ _ s

/-! ## Control registers (spec/40_arithmetic.md R317) -/

theorem csrCheck_ok {n : BitVec 14} (h : (n.extractLsb' 12 2).toNat ≤ s.mode.toNat) : csrCheck n s = .ok () s :=
  if_pos (decide_eq_true h)

theorem csrReg_ok {f : Csr} (new : Word → Word → Option Word) (hl : (f.regno.extractLsb' 12 2).toNat ≤ s.mode.toNat)
    (ha : s.readable .a f.ra = true) (ht : s.writable f.rt = true) (hna : f.na = false) (hnt : f.nt = false) :
    csrReg f new s = csrFinish f.regno f.rt (new (s.value .a f.ra)) s := by
  simp only [csrReg, csrCheck_ok hl, hna, hnt, Bool.not_false, Bool.and_true, require_true, operand_ok ha, target_ok ht,
    Res.bind_ok]

theorem csrImm_ok {f : CsrImm} (new : Word → Word → Option Word) (hl : (f.regno.extractLsb' 12 2).toNat ≤ s.mode.toNat)
    (ht : s.writable f.rt = true) (hnt : f.nt = false) :
    csrImm f new s = csrFinish f.regno f.rt (new (f.uimm.setWidth 64)) s := by
  simp only [csrImm, csrCheck_ok hl, hnt, Bool.not_false, require_true, target_ok ht, Res.bind_ok]

/-! ## Checks (spec/40_arithmetic.md R312) -/

/-- The first eleven codes name a relation. -/
theorem chkPasses_ne_none (signed : Bool) {op4 : BitVec 4} (a b c cpl canary : Word) (h : op4.toNat < 11) :
    chkPasses signed op4 a b c cpl canary ≠ none := by
  unfold chkPasses
  generalize op4.toNat = n at h ⊢
  interval_cases n <;> exact Option.some_ne_none _

/-- With its registers usable and its code defined, a check does what its relation says. -/
theorem check_eq {f : Chk} {signed pass : Bool} (ha : s.readable .a f.ra = true) (hb : s.readable .b f.rb = true)
    (hc : s.readable .c f.rc = true) (h11 : f.op4.toNat < 11)
    (hpass : chkPasses signed f.op4 (neg f.na (s.value .a f.ra)) (neg f.nb (s.value .b f.rb)) (neg f.nc (s.value .c f.rc))
      ((srCpl s.sr).setWidth 64) (s.gprPhys 53#6) = some pass) :
    check signed f s = if pass = true then .ok () (s.advance 6) else .trap (chkTrap f s) s := by
  simp only [check, decide_eq_true h11, requireDefined_true, operand_ok ha, operand_ok hb, operand_ok hc, Res.bind_ok, hpass]
  cases pass <;> rfl

theorem exec_chk_eq_check (signed : Bool) (f : Chk) (s : State) :
    exec (if signed then .chk f else .chku f) s = (check signed f s).finish := by
  cases signed <;> rfl

/-- The Info field that an exception leaves, where it gives one (spec/60_exceptions.md R906). -/
theorem trapEntry_info {e : Trap} {info : BitVec 8} (h : e.info = some info) :
    ((trapEntry e s).csr.cause[3]).extractLsb' 8 8 = info := by
  show ((s.csr.onTrap e (e.info.getD _) s.ir).cause[3]).extractLsb' 8 8 = info
  simp only [Csrs.onTrap, Vector.getElem_set_self, h, Option.getD_some]
  exact (fld_append_high info e.cause (Nat.le_refl 8)).trans (fld_full info)

/-! ## CPUID, LOADA and AUIIP (spec/40_arithmetic.md R309, R316, R320) -/

theorem execCpuid_wrote {f : Cpuid} (ha : s.readable .a f.ra = true) (hb : s.readable .b f.rb = true)
    (ht : s.writable f.rt = true) (hnt : f.nt = false) :
    ∃ t, execCpuid f s = .next t ∧
      s.wrote t f.rt
        (cpuInfo s.par (f.uimm.setWidth 64 + neg f.na (s.value .a f.ra) + neg f.nb (s.value .b f.rb))) 6 := by
  simp only [execCpuid, hnt, Bool.not_false, require_true, operand_ok ha, operand_ok hb, target_ok ht, Res.bind_ok]
  exact finishWrite_wrote _ _ _ s

theorem execLoada_wrote {f : LS} (haddr : s.readyAddr f = true) (ht : s.writable f.rt = true) :
    ∃ t, execLoada f s = .next t ∧ s.wrote t f.rt (s.address f) (dispBytes f.disp) := by
  simp only [execLoada, indexed_ok haddr, target_ok ht, Res.bind_ok]
  exact finishWrite_wrote _ _ _ s

section
variable {i : Instr} {zext sext : Word} {top nt : Bool} {rt : BitVec 6} {len : Nat}
  (he : exec i s = (auiip (auiipImm s.par.auiipExt zext sext top) nt rt len s).finish)
include he

/-- Where `AUIIP_EXT` extends the immediate, AUIIP adds it to the instruction pointer. -/
theorem auiip_wrote {imm : Word} (ht : s.writable rt = true) (himm : auiipImm s.par.auiipExt zext sext top = some imm) :
    ∃ t, exec i s = .next t ∧ s.wrote t rt (neg nt (s.ip + imm)) len := by
  rw [he, himm, auiip, target_ok ht, Res.bind_ok]
  exact finishWrite_wrote _ _ _ s

/-- An immediate that could be extended in two ways is refused under `AUIIP_EXT = refuse`, before the target is looked at. -/
theorem auiip_refused (hpar : s.par.auiipExt = .refuse) (htop : top = true) : exec i s = .refused .auiipExtension := by
  rw [he, hpar, htop]; rfl

/-- AUIIP under each value of `AUIIP_EXT` in which it has an effect. -/
theorem auiip_extends (ht : s.writable rt = true) :
    (s.par.auiipExt = .zero → ∃ t, exec i s = .next t ∧ s.wrote t rt (neg nt (s.ip + zext)) len) ∧
    (s.par.auiipExt = .sign → ∃ t, exec i s = .next t ∧ s.wrote t rt (neg nt (s.ip + sext)) len) ∧
    (s.par.auiipExt = .refuse → top = false → ∃ t, exec i s = .next t ∧ s.wrote t rt (neg nt (s.ip + zext)) len) :=
  ⟨fun hpar => auiip_wrote he ht (by rw [hpar]; rfl), fun hpar => auiip_wrote he ht (by rw [hpar]; rfl),
    fun hpar htop => auiip_wrote he ht (by rw [hpar, htop]; rfl)⟩

end

/-! ## The word with root opcode 58 (spec/46_floating_point.md R553) -/

theorem exec_opcode58_auiip (p : BitVec 39) (hpar : s.par.op58 = .auiip) :
    exec (.opcode58 p) s =
      (auiipLong ⟨.i23 (fld (opcode58Word p) 25 23), flag (opcode58Word p) 15, fld (opcode58Word p) 9 6⟩ s).finish := by
  show execOpcode58 p s = _
  rw [execOpcode58, hpar]

theorem exec_opcode58_flt32 (p : BitVec 39) (hpar : s.par.op58 = .flt32) :
    exec (.opcode58 p) s = (single58 (opcode58Word p) s).finish := by
  show execOpcode58 p s = _
  rw [execOpcode58, hpar]

/-- The top bit of the immediate of AUIIP's 48-bit word. -/
theorem msb_fld_25_23 (w : BitVec 96) : (fld w 25 23).msb = w.getLsbD 47 := by
  rw [BitVec.msb_eq_getLsbD_last, fld, BitVec.getLsbD_extractLsb']; rfl

/-- The precision bits of root opcode 58 name single precision (R552). -/
theorem FFmt.ofWord_single {w : BitVec 96} (h : fld w 2 7 = 58#7) : FFmt.ofWord w = .single := by
  have hbits : fld w 2 2 = fld (fld w 2 7) 0 2 := by
    rw [fld_split w 2 5 2, fld_append_low _ _ (Nat.le_refl 2), fld_full]
  rw [FFmt.ofWord, hbits, h]; rfl

end Sys2Proof.Machine

open Sys2Proof Sys2Proof.Machine

/-- Settles O38: by the form of each group. -/
theorem scaledIndexAndMap : Obligations.ScaledIndexAndMap := by
  refine ⟨?scaled, ?index, fun _ _ => execBmap_wrote⟩
  case scaled =>
    simp only [List.forall_mem_cons, List.not_mem_nil, false_implies, implies_true, and_true]
    exact ⟨fun _ _ => scaled_wrote _, fun _ _ => scaled_wrote _, fun _ _ => scaled_wrote _⟩
  case index =>
    simp only [List.forall_mem_cons, List.not_mem_nil, false_implies, implies_true, and_true]
    exact ⟨fun _ _ => ndx_wrote 8, fun _ _ => ndx_wrote 16, fun _ _ => ndx_wrote 32⟩

/-- Settles O40: past its checks each form ends in the one update of both registers. -/
theorem controlRegisterInstructions : Obligations.ControlRegisterInstructions := by
  refine ⟨fun f s hl ha ht hna hnt => ?_, fun f s hl ht hnt => ?_⟩
  · have hfinish := fun new => congrArg Res.finish (csrReg_ok (f := f) new hl ha ht hna hnt)
    exact ⟨hfinish _, hfinish _, hfinish _, hfinish _⟩
  · have hfinish := fun new => congrArg Res.finish (csrImm_ok (f := f) new hl ht hnt)
    exact ⟨hfinish _, hfinish _, hfinish _⟩

/-- Settles O41: by what the relation of Op4 says. -/
theorem checksPassOrRaise : Obligations.ChecksPassOrRaise := by
  intro f s signed ha hb hc h11
  refine ⟨fun hpass => ?passes, fun hpass => ?fails, chkPasses_ne_none signed _ _ _ _ _ h11⟩
  case passes =>
    rw [exec_chk_eq_check, check_eq ha hb hc h11 hpass]
    exact ⟨_, rfl, s.wentTo_advance 6⟩
  case fails =>
    rw [exec_chk_eq_check, check_eq ha hb hc h11 hpass]
    exact ⟨_, rfl, tookException_trapEntry (chkTrap f s) s, trapEntry_info rfl⟩

/-- Settles O42: AUIIP by the extension that its parameter names, the contested word by the instruction that its parameter makes of
it. -/
theorem addressAndIdentity : Obligations.AddressAndIdentity := by
  refine ⟨fun _ _ => execCpuid_wrote, fun _ _ => execLoada_wrote, fun f s ht => ?long, fun f s ht => ?short,
    fun p s hpar => ?refuse, fun p s hpar => ?auiip, fun p s hpar => ?single, fun w => FFmt.ofWord_single⟩
  case long =>
    have he : exec (.auiip (.long f)) s = (auiipLong f s).finish := rfl
    obtain ⟨hzero, hsign, hclear⟩ := auiip_extends he ht
    exact ⟨hzero, hsign, auiip_refused he, hclear⟩
  case short =>
    have he : exec (.auiip (.short f)) s = (auiip (auiipImm s.par.auiipExt (f.imm.setWidth 64) (f.imm.signExtend 64) f.imm.msb)
      false (f.rt.setWidth 6) 3 s).finish := rfl
    obtain ⟨hzero, hsign, hclear⟩ := auiip_extends he ht
    exact ⟨hzero, hsign, auiip_refused he, hclear⟩
  case refuse =>
    show execOpcode58 p s = _
    rw [execOpcode58, hpar]; rfl
  case auiip =>
    have he := exec_opcode58_auiip p hpar
    have htop := msb_fld_25_23 (opcode58Word p)
    refine ⟨he, fun ht => ?_, fun hext hbit => auiip_refused he hext (htop.trans hbit)⟩
    obtain ⟨hzero, hsign, hclear⟩ := auiip_extends he ht
    exact ⟨hzero, hsign, fun hext hbit => hclear hext (htop.trans hbit)⟩
  case single =>
    have he := exec_opcode58_flt32 p hpar
    refine ⟨fun f => ⟨fun h => ?_, fun h => ?_⟩, fun f => ⟨fun h => ?_, fun h => ?_⟩,
      fun f => ⟨fun h => ?_, fun h => ?_, fun h => ?_⟩, fun f => ⟨fun h => ?_, fun h => ?_⟩,
      fun f => ⟨fun h => ?_, fun h => ?_⟩, fun f h => ?_, fun why h => raises_of_unimplemented he ?undefined⟩
    case undefined => rw [single58, h]
    all_goals rw [he, single58, h]; rfl

end

section
/-! PROOFS. Forms that the spec refuses of instructions that otherwise run (spec/93_implementation_defined.md U9, U10). Each meaning
asks for its condition before it writes anything; the checks that come first are passed by hypothesis. -/

namespace Sys2Proof.Machine

variable {s : State}

/-- A meaning that asks for a condition is refused without it, whatever comes after. -/
theorem refused_of_require {i : Instr} {c : Bool} {r : Refusal} {k : Unit → State → Res Unit} (hc : c = false)
    (he : exec i s = ((require c r s).bind k).finish) : exec i s = .refused r := by
  rw [he, hc]; rfl

/-- Without a following constant a register that the mode may name can be read. -/
theorem State.readable_of_mayUse (hp : s.pfx = none) (slot : Slot) {r : BitVec 6} (h : s.mayUse r = true) :
    s.readable slot r = true := by
  rw [State.readable, State.constant_of_no_pfx hp, h]; rfl

/-- Sign control on what a conditional move keeps of its target (spec/44_comparison.md R448). -/
theorem cmovRel_signControl {r : Rel} {f : R3} (hready : s.ready3 f = true) (h8 : f.op4 = 8#4) (hnt : f.nt = true)
    (hkeeps : allLanes r f (s.value .a f.ra) (s.value .b f.rb) = false) : cmovRel r f s = .stop .signControl := by
  simp only [State.ready3, Bool.and_eq_true] at hready
  obtain ⟨⟨⟨ha, hb⟩, hc⟩, ht⟩ := hready
  have hcond : (f.op4 != 8#4 || !f.nt || allLanes r f (s.value .a f.ra) (s.value .b f.rb)) = false := by
    rw [h8, hnt, hkeeps]; rfl
  simp only [cmovRel, operand_ok ha, operand_ok hb, operand_ok hc, target_ok ht, Res.bind_ok, hcond, require_false,
    Res.bind_stop]

/-- A control register that the mode may name takes no sign control (spec/40_arithmetic.md R317). -/
theorem csrReg_signControl {f : Csr} (new : Word → Word → Option Word)
    (hl : (f.regno.extractLsb' 12 2).toNat ≤ s.mode.toNat) (h : f.na = true ∨ f.nt = true) :
    csrReg f new s = .stop .signControl := by
  have hcond : (!f.na && !f.nt) = false := by rcases h with h | h <;> simp [h]
  simp only [csrReg, csrCheck_ok hl, Res.bind_ok, hcond, require_false, Res.bind_stop]

/-- A named form of the byte map without a meaning (spec/42_data_movement.md R380). -/
theorem execBmap_form {f : R3} (hdef : f.op4.toNat < 6) (h : f.op4 ≠ 0#4 ∨ f.prec ≠ .octa) :
    execBmap f s = .refused .bmapForm := by
  have hcond : (f.op4 == 0#4 && f.prec == .octa) = false := by rcases h with h | h <;> simp [h]
  simp only [execBmap, decide_eq_true hdef, requireDefined_true, Res.bind_ok, hcond, require_false, Res.bind_stop,
    Res.finish_stop]

/-- A deposit needs two registers (spec/45_shift_bitfield.md R516). -/
theorem depositAllowed_sameRegister {na nt : Bool} {ra rt : BitVec 6} (hp : s.pfx = none) (hna : na = false) (hnt : nt = false)
    (h : ra = rt) : depositAllowed na nt ra rt s = .stop .depSameRegister := by
  have hsame : (s.physical ra != s.physical rt) = false := by rw [h, bne_self_eq_false]
  simp only [depositAllowed, State.constant_of_no_pfx hp, Option.isNone_none, hna, hnt, Bool.not_false, Bool.and_true,
    require_true, Res.bind_ok, hsame, require_false]

/-- The register form of a branch has no displacement (spec/48_branch_flow.md R703). -/
theorem branchReg_target {f : BrReg} (c : Cond) (hprc : s.precisionOk f.prc = true) (ha : s.readable .a f.ra = true)
    (hb : s.readable .b f.rb = true) (h : f.tgt ≠ 0#15) : branchReg c f s = .stop .branchTarget := by
  have hq : branchPrecision f.prc s = .ok () s := by rw [branchPrecision, ← State.precisionOk, hprc, require_true]
  simp only [branchReg, branch, hq, operand_ok ha, operand_ok hb, Res.bind_ok, regTarget, beq_false_of_ne h, require_false,
    Res.bind_stop]

end Sys2Proof.Machine

open Sys2Proof Sys2Proof.Machine

/-- Settles O58: the forms that their own fields show at once, and those behind a check that is passed. -/
theorem refusedForms : Obligations.RefusedForms := by
  have hset : ∀ {b : Bool}, b = true → (!b) = false := fun h => by rw [h]; rfl
  refine ⟨fun f s h => ⟨refused_of_require (hset h) rfl, refused_of_require (hset h) rfl⟩,
    fun f s h => refused_of_require (hset h) rfl,
    fun f s h => refused_of_require (hset h) rfl,
    fun f s h => ⟨refused_of_require (hset h) rfl, refused_of_require (hset h) rfl⟩,
    fun f s hready h8 hnt hkeeps => congrArg Res.finish (cmovRel_signControl hready h8 hnt hkeeps),
    fun f s hl h => congrArg Res.finish (csrReg_signControl _ hl h),
    fun f s h => ⟨refused_of_require (beq_false_of_ne h) rfl, refused_of_require (beq_false_of_ne h) rfl⟩,
    fun f s h => refused_of_require (beq_false_of_ne h) rfl,
    fun f s h => refused_of_require (hset h) rfl,
    fun f s => execBmap_form,
    fun f s hp hnc hna hnt h => ?deposit,
    fun f s h => refused_of_require (beq_false_of_ne h) rfl,
    fun f s h => refused_of_require h rfl,
    fun f s hp hprc ha hb h => congrArg Res.finish
      (branchReg_target _ hprc (State.readable_of_mayUse hp _ ha) (State.readable_of_mayUse hp _ hb) h)⟩
  case deposit =>
    show (depositReg false f s).finish = _
    rw [depositReg, hnc, Bool.not_false, require_true, Res.bind_ok, depositAllowed_sameRegister hp hna hnt h]
    rfl

end

section
/-! PROOFS. Data movement (spec/42_data_movement.md R381 to R394): the selections among three operands, the extensions in place,
and MOVE, whose registers are those of the general rule but where its A bit makes of 31 the safe stack pointer (R388). -/

namespace Sys2Proof.Machine

variable {s : State}

/-! ## CMOV, MUX and the middle of three (R381, R385, R390) -/

theorem execCmov_eq (f : R3) (s : State) :
    execCmov f s =
      (lanes3 f (fun _ a b c _ => neg f.nt (if neg f.na a ≠ 0 then neg f.nb b else neg f.nc c)) s).finish := by
  simp only [execCmov, bne_iff_ne]

theorem execMux_byElement {f : R3} (h : (f.op4 == 0#4) = true) (s : State) :
    execMux f s =
      (lanes3 f (fun _ a b c _ => com f.nt (if com f.na a ≠ 0 then com f.nb b else com f.nc c)) s).finish := by
  have hbit : (f.op4 == 1#4) = false := by rw [eq_of_beq h]; rfl
  simp only [execMux, h, hbit, Bool.true_or, requireDefined_true, Res.bind_ok, Bool.false_eq_true, if_false, bne_iff_ne]

theorem execMux_byBit {f : R3} (h : (f.op4 == 1#4 && f.prec == .octa) = true) (s : State) :
    execMux f s =
      (lanes3 f (fun _ a b c _ => com f.nt ((com f.na a &&& com f.nb b) ||| (~~~com f.na a &&& com f.nc c))) s).finish := by
  obtain ⟨hbit, hocta⟩ := Bool.and_eq_true_iff.1 h
  simp only [execMux, hbit, hocta, Bool.and_true, Bool.or_true, requireDefined_true, Res.bind_ok, if_true]

theorem mid3_median (h : (s.par.mid3 == .median) = true) (signed : Bool) (f : R3) :
    mid3 signed f s = threeWay f (fun _ => medianLane signed) s := by rw [mid3, eq_of_beq h]

theorem mid3_printed (h : (s.par.mid3 == .printed) = true) (signed : Bool) (f : R3) :
    mid3 signed f s = threeWay f (fun _ => printedMid signed) s := by rw [mid3, eq_of_beq h]

/-! ## SX and ZX (R393, R394) -/

theorem extended_wrote {rt : BitVec 6} (g : Word → Word) (ht : s.writable rt = true) :
    ∃ t, (extended rt g s).finish = .next t ∧ s.wrote t rt (g (s.gpr rt)) 3 := by
  rw [extended, target_ok ht, Res.bind_ok]
  exact finishWrite_wrote _ _ _ s

theorem execZx_wrote {f : ExtImm} (ht : s.writable f.rt = true) (hnt : f.nt = false) :
    ∃ t, execZx f s = .next t ∧ s.wrote t f.rt (zextFrom f.imm.toNat (s.gpr f.rt)) 3 := by
  rw [execZx, hnt, Bool.not_false, require_true, Res.bind_ok]
  exact extended_wrote _ ht

theorem execSxImm_wrote {f : ExtImm} (ht : s.writable f.rt = true) (hnt : f.nt = false) :
    ∃ t, execSxImm f s = .next t ∧ s.wrote t f.rt (sextFrom f.imm.toNat (s.gpr f.rt)) 3 := by
  rw [execSxImm, hnt, Bool.not_false, require_true, Res.bind_ok]
  exact extended_wrote _ ht

theorem execSxReg_wrote {f : ExtReg} (ha : s.readable .a f.ra = true) (ht : s.writable f.rt = true) (hna : f.na = false)
    (hnt : f.nt = false) :
    ∃ t, execSxReg f s = .next t ∧ s.wrote t f.rt (sextFrom ((s.value .a f.ra).toNat % 64) (s.gpr f.rt)) 3 := by
  simp only [execSxReg, hna, hnt, Bool.not_false, Bool.and_true, require_true, operand_ok ha, Res.bind_ok]
  exact extended_wrote _ ht

/-! ## The registers of MOVE (R388) -/

/-- Without a following constant a register that the mode may name can be written. -/
theorem State.writable_of_mayUse (hp : s.pfx = none) {r : BitVec 6} (h : s.mayUse r = true) : s.writable r = true := by
  rw [State.writable, State.constant_of_no_pfx hp, h]; rfl

/-- Every mode but user mode may name the safe stack pointer. -/
theorem lowestMode_safeSp (m : BitVec 2) : (lowestMode 31#6).ule m = (m != 0#2) := by
  revert m; decide

section
variable {f : MoveF} {r : BitVec 6}

theorem movePhysical_of_general (h : f.a = true → r ≠ 31#6) : movePhysical f r s = s.physical r :=
  if_neg fun e => let ⟨hr, ha⟩ := Bool.and_eq_true_iff.1 e; h ha (eq_of_beq hr)

theorem moveAllowed_of_general (h : f.a = true → r ≠ 31#6) : moveAllowed f r s = s.mayUse r :=
  if_neg fun e => let ⟨hr, ha⟩ := Bool.and_eq_true_iff.1 e; h ha (eq_of_beq hr)

theorem movePhysical_safeSp (ha : f.a = true) (hr : r = 31#6) : movePhysical f r s = 31#6 := by
  rw [movePhysical, ha, hr]; rfl

theorem moveAllowed_safeSp (ha : f.a = true) (hr : r = 31#6) : moveAllowed f r s = (s.mode != 0#2) := by
  rw [moveAllowed, ha, hr]
  exact lowestMode_safeSp s.mode

end

variable {f : MoveF}

/-- But for the safe stack pointer the source of MOVE is an operand like any other. -/
theorem moveSource_of_general (h : f.a = true → f.ra ≠ 31#6) : moveSource f s = operand .a f.ra s := by
  rw [moveSource, moveAllowed_of_general h, movePhysical_of_general h]; rfl

/-- But for the safe stack pointer the target of MOVE is a target like any other. -/
theorem moveTarget_of_general (h : f.a = true → f.rt ≠ 31#6) : moveTarget f s = target f.rt s := by
  rw [moveTarget, moveAllowed_of_general h]; rfl

theorem moveSource_safeSp (hp : s.pfx = none) (ha : f.a = true) (hr : f.ra = 31#6) :
    moveSource f s = if (s.mode != 0#2) = true then .ok (s.gprPhys 31#6) s else raisePrivilege s := by
  rw [moveSource, State.constant_of_no_pfx hp, moveAllowed_safeSp ha hr, movePhysical_safeSp ha hr]

theorem moveTarget_safeSp (hp : s.pfx = none) (ha : f.a = true) (hr : f.rt = 31#6) :
    moveTarget f s = if (s.mode != 0#2) = true then .ok () s else raisePrivilege s := by
  rw [moveTarget, State.constant_of_no_pfx hp, moveAllowed_safeSp ha hr]; rfl

/-! ## MOVE (R388) -/

/-- Past the checks of its registers MOVE writes one register and clears its tag. -/
theorem execMove_eq {v : Word} (hsource : moveSource f s = .ok v s) (htarget : moveTarget f s = .ok () s) (hna : f.na = false)
    (hnt : f.nt = false) : execMove f s = .next ((s.setPhys (movePhysical f f.rt s) v false).advance 3) := by
  rw [execMove, hsource, Res.bind_ok, htarget, Res.bind_ok, hna, hnt]; rfl

/-- A target that is not the safe stack pointer is written as any instruction writes its target. -/
theorem execMove_wrote {v : Word} (hsource : moveSource f s = .ok v s) (hgeneral : f.a = true → f.rt ≠ 31#6)
    (ht : s.writable f.rt = true) (hna : f.na = false) (hnt : f.nt = false) :
    ∃ t, execMove f s = .next t ∧ s.wrote t f.rt v 3 := by
  have htarget : moveTarget f s = .ok () s := (moveTarget_of_general hgeneral).trans (target_ok ht)
  rw [execMove_eq hsource htarget hna hnt, movePhysical_of_general hgeneral]
  exact ⟨_, rfl, s.wrote_setGpr f.rt v 3⟩

/-- What a write of the safe stack pointer leaves. -/
theorem State.setPhys_safeSp_advance (s : State) (v : Word) (len : Nat) :
    let t := (s.setPhys 31#6 v false).advance len
    t.gprPhys 31#6 = v ∧ t.tagPhys 31#6 = false ∧ t.ip = s.nextIp len ∧
      (∀ i, i ≠ 31#6 → t.gprPhys i = s.gprPhys i ∧ t.tagPhys i = s.tagPhys i) ∧ s.sameButRegs t :=
  ⟨s.gprPhys_setPhys_self _ v false (by decide), s.tagPhys_setPhys_self _ v false (by decide), by simp [State.nextIp],
    fun i hi => ⟨s.gprPhys_setPhys_other _ i v false hi, s.tagPhys_setPhys_other _ i v false hi⟩,
    s.sameButRegs_setPhys _ v false⟩

/-- User mode may name the safe stack pointer neither as the source nor as the target. -/
theorem move_raises_of_user (hp : s.pfx = none) (hmode : s.mode = 0#2) (ha : f.a = true) (h : f.ra = 31#6 ∨ f.rt = 31#6) :
    raises (.move f) s 5#8 := by
  have huser : ¬(s.mode != 0#2) = true := by rw [hmode]; decide
  refine raises_of_privilege rfl ?_
  by_cases hra : f.ra = 31#6
  case pos => rw [moveSource_safeSp hp ha hra, if_neg huser]; rfl
  case neg =>
    rw [moveSource_of_general fun _ => hra]
    refine operand_bind_forbidden hp _ _ fun _ => ?_
    rw [moveTarget_safeSp hp ha (h.resolve_left hra), if_neg huser]; rfl

end Sys2Proof.Machine

open Sys2Proof Sys2Proof.Machine

/-- Settles O33: each is the register form with its lane function, MID3 by the rule that its parameter names. -/
theorem selectionInstructions : Obligations.SelectionInstructions :=
  ⟨computes3_of_lanes3 fun _ _ _ => rfl,
    computes3_of_lanes3 fun _ _ _ => rfl,
    computes3_of_lanes3 fun _ _ _ => rfl,
    computes3_of_lanes3 fun _ _ _ => rfl,
    computes3_of_lanes3 fun f _ h => congrArg Res.finish (mid3_median h true f),
    computes3_of_lanes3 fun f _ h => congrArg Res.finish (mid3_median h false f),
    computes3_of_lanes3 fun f _ h => congrArg Res.finish (mid3_printed h true f),
    computes3_of_lanes3 fun f _ h => congrArg Res.finish (mid3_printed h false f),
    computes3_of_lanes3 fun f s _ => execCmov_eq f s,
    computes3_of_lanes3 fun _ s h => execMux_byElement h s,
    computes3_of_lanes3 fun _ s h => execMux_byBit h s⟩

/-- Settles O39: the extensions in place, and MOVE by which of its registers is the safe stack pointer. -/
theorem extendAndMove : Obligations.ExtendAndMove := by
  refine ⟨fun f s ht hnt => ⟨execZx_wrote ht hnt, execSxImm_wrote ht hnt⟩, fun f s => execSxReg_wrote,
    fun f s hgeneral ha ht hna hnt => ?general, fun f s => move_raises_of_user,
    fun f s hp hmode hna hnt hbit => ⟨fun hra hrt huse => ?fromSafeSp, fun hrt hra huse => ?toSafeSp⟩⟩
  case general =>
    have hne : f.a = true → f.ra ≠ 31#6 ∧ f.rt ≠ 31#6 := fun hbit => hgeneral.resolve_left (by rw [hbit]; decide)
    have hsource := (moveSource_of_general fun hbit => (hne hbit).1).trans (operand_ok ha)
    exact execMove_wrote hsource (fun hbit => (hne hbit).2) ht hna hnt
  case fromSafeSp =>
    have hsource := (moveSource_safeSp hp hbit hra).trans (if_pos (bne_iff_ne.2 hmode))
    exact execMove_wrote hsource (fun _ => hrt) (State.writable_of_mayUse hp huse) hna hnt
  case toSafeSp =>
    have hsource : moveSource f s = .ok (s.gpr f.ra) s := by
      rw [moveSource_of_general fun _ => hra, operand_ok (State.readable_of_mayUse hp .a huse), State.value_of_no_pfx hp]
    have htarget := (moveTarget_safeSp hp hbit hrt).trans (if_pos (bne_iff_ne.2 hmode))
    have hstep := execMove_eq hsource htarget hna hnt
    rw [movePhysical_safeSp hbit hrt] at hstep
    exact ⟨_, hstep, s.setPhys_safeSp_advance (s.gpr f.ra) 3⟩

end

section
/-! PROOFS. The bits of comparison results (spec/44_comparison.md R441, R442; spec/46_floating_point.md R551, R565). A result is a
list of tests, the lowest bit first. A float comparison compares magnitudes with their signs; the number of a float is a strictly
increasing function of that key, so it compares the numbers. -/

namespace Sys2Proof.Machine

/-! ## A vector of tests -/

/-- The bits of a vector are the tests of a list, and zero above them. -/
def HasTests {n : Nat} (v : BitVec n) (tests : List Bool) : Prop := ∀ k, v.getLsbD k = tests.getD k false

theorem bit1_hasTests (t : Bool) : HasTests (bit1 t) [t] := by
  rintro (_ | k)
  · cases t <;> rfl
  · exact BitVec.getLsbD_of_ge _ _ (by omega)

/-- A test put below the others is bit 0 and moves them up by one. -/
theorem HasTests.append {n : Nat} {v : BitVec n} {tests : List Bool} {t : Bool} (h : HasTests v tests) :
    HasTests (v ++ bit1 t) (t :: tests) := by
  rintro (_ | k)
  · rw [BitVec.getLsbD_append, if_pos Nat.one_pos, bit1_hasTests]; rfl
  · rw [BitVec.getLsbD_append, if_neg (by omega), Nat.add_sub_cancel, h]; rfl

theorem HasTests.setWidth {n w : Nat} {v : BitVec n} {tests : List Bool} (hw : n ≤ w) (h : HasTests v tests) :
    HasTests (v.setWidth w) tests := by
  intro k
  rw [BitVec.getLsbD_setWidth, ← h k]
  by_cases hk : k < w
  · simp [hk]
  · rw [BitVec.getLsbD_of_ge v k (by omega), Bool.and_false]

theorem testBits_hasTests {w : Nat} (hw : 8 ≤ w) (t7 t6 t5 t4 t3 t2 t1 t0 : Bool) :
    HasTests (testBits t7 t6 t5 t4 t3 t2 t1 t0 : BitVec w) [t0, t1, t2, t3, t4, t5, t6, t7] := by
  refine HasTests.setWidth hw ?_
  iterate 7 refine HasTests.append ?_
  exact bit1_hasTests t7

theorem HasTests.above {n k : Nat} {v : BitVec n} {tests : List Bool} (h : HasTests v tests) (hk : tests.length ≤ k) :
    v.getLsbD k = false := (h k).trans (List.getD_eq_default _ _ hk)

/-! ## Lanes -/

theorem cmpVector_hasTests {w : Nat} (hw : 8 ≤ w) (signed : Bool) (a b u : BitVec w) :
    HasTests (cmpVector signed a b u)
      [a == b, a != b, lessThan signed a b, lessEq signed a b, lessEq signed b a, lessThan signed b a,
        if b.toNat < w then !a.getLsbD b.toNat else u.getLsbD 6, if b.toNat < w then a.getLsbD b.toNat else u.getLsbD 7] :=
  testBits_hasTests hw _ _ _ _ _ _ _ _

/-- The number of a lane, signed or unsigned. -/
def laneNumber {w : Nat} (signed : Bool) (a : BitVec w) : Int := if signed then a.toInt else a.toNat

theorem lessThan_eq {w : Nat} (signed : Bool) (a b : BitVec w) :
    lessThan signed a b = decide (laneNumber signed a < laneNumber signed b) := by
  cases signed with
  | false => exact decide_eq_decide.2 Int.ofNat_lt.symm
  | true => rfl

theorem lessEq_eq {w : Nat} (signed : Bool) (a b : BitVec w) :
    lessEq signed a b = decide (laneNumber signed a ≤ laneNumber signed b) := by
  cases signed with
  | false => exact decide_eq_decide.2 Int.ofNat_le.symm
  | true => rfl

/-! ## The number of a float (R551) -/

/-- The number of a magnitude, in the unit of `fScaled`. -/
def fNumber (fmt : FFmt) (m : Nat) : Nat :=
  if m / 2 ^ ffmtFrac fmt = 0 then m % 2 ^ ffmtFrac fmt
  else (2 ^ ffmtFrac fmt + m % 2 ^ ffmtFrac fmt) * 2 ^ (m / 2 ^ ffmtFrac fmt - 1)

/-- The number of a magnitude with its sign. -/
def fKeyNumber (fmt : FFmt) (key : Int) : Int := key.sign * fNumber fmt key.natAbs

/-- The number of a magnitude by its exponent and fraction. -/
theorem fNumber_eq (fmt : FFmt) {e r : Nat} (hr : r < 2 ^ ffmtFrac fmt) :
    fNumber fmt (r + 2 ^ ffmtFrac fmt * e) = if e = 0 then r else (2 ^ ffmtFrac fmt + r) * 2 ^ (e - 1) := by
  obtain ⟨hdiv, hmod⟩ := (Nat.div_mod_unique (Nat.two_pow_pos (ffmtFrac fmt))).2 ⟨rfl, hr⟩
  rw [fNumber, hdiv, hmod]

/-- From one magnitude to the next the fraction grows, or it starts again at zero under the next exponent. -/
theorem fNumber_lt_succ (fmt : FFmt) (m : Nat) : fNumber fmt m < fNumber fmt (m + 1) := by
  have hF := Nat.two_pow_pos (ffmtFrac fmt)
  obtain ⟨e, r, hr, rfl⟩ : ∃ e r, r < 2 ^ ffmtFrac fmt ∧ m = r + 2 ^ ffmtFrac fmt * e :=
    ⟨_, _, Nat.mod_lt m hF, (Nat.mod_add_div m _).symm⟩
  rw [fNumber_eq fmt hr]
  by_cases hlast : r + 1 < 2 ^ ffmtFrac fmt
  case pos =>
    rw [Nat.add_right_comm, fNumber_eq fmt hlast]
    split
    · omega
    · exact Nat.mul_lt_mul_of_pos_right (by omega) (Nat.two_pow_pos _)
  case neg =>
    have hnext : r + 2 ^ ffmtFrac fmt * e + 1 = 0 + 2 ^ ffmtFrac fmt * (e + 1) := by rw [Nat.mul_succ]; omega
    rw [hnext, fNumber_eq fmt hF, if_neg (Nat.succ_ne_zero e), Nat.add_sub_cancel, Nat.add_zero]
    cases e with
    | zero => simpa using hr
    | succ e =>
      rw [if_neg (Nat.succ_ne_zero e), Nat.add_sub_cancel, Nat.pow_succ', ← Nat.mul_assoc]
      exact Nat.mul_lt_mul_of_pos_right (by omega) (Nat.two_pow_pos _)

theorem fKeyNumber_neg (fmt : FFmt) (key : Int) : fKeyNumber fmt (-key) = -fKeyNumber fmt key := by
  rw [fKeyNumber, fKeyNumber, Int.sign_neg, Int.natAbs_neg, Int.neg_mul]

theorem fKeyNumber_natCast (fmt : FFmt) (m : Nat) : fKeyNumber fmt m = fNumber fmt m := by
  cases m with
  | zero => simp [fKeyNumber, fNumber]
  | succ m => rw [fKeyNumber, Int.sign_eq_one_of_pos (Int.natCast_pos.2 m.succ_pos), Int.natAbs_natCast, Int.one_mul]

theorem fKeyNumber_strictMono (fmt : FFmt) : StrictMono (fKeyNumber fmt) := by
  refine strictMono_of_odd_strictMonoOn_nonneg (fKeyNumber_neg fmt) fun a ha b hb hab => ?_
  lift a to Nat using ha
  lift b to Nat using hb
  rw [fKeyNumber_natCast, fKeyNumber_natCast]
  exact Int.ofNat_lt.2 (strictMono_nat_of_lt_succ (fNumber_lt_succ fmt) (Int.ofNat_lt.1 hab))

theorem fScaled_eq_fKeyNumber (fmt : FFmt) (v : Word) : fScaled fmt v = fKeyNumber fmt (fKey fmt v) := by
  have hscaled : fScaled fmt v =
      if fSign fmt v then -(fNumber fmt (fMagnitude fmt v) : Int) else fNumber fmt (fMagnitude fmt v) := rfl
  rw [hscaled, fKey]
  split
  · rw [fKeyNumber_neg, fKeyNumber_natCast]
  · rw [fKeyNumber_natCast]

/-! ## Float relations (R551, R565) -/

theorem fEq_eq (fmt : FFmt) (a b : Word) :
    fEq fmt a b = (!fUnordered fmt a b && decide (fScaled fmt a = fScaled fmt b)) := by
  rw [fEq, fScaled_eq_fKeyNumber, fScaled_eq_fKeyNumber, beq_eq_decide]
  simp only [(fKeyNumber_strictMono fmt).injective.eq_iff]

theorem fLt_eq (fmt : FFmt) (a b : Word) :
    fLt fmt a b = (!fUnordered fmt a b && decide (fScaled fmt a < fScaled fmt b)) := by
  rw [fLt, fScaled_eq_fKeyNumber, fScaled_eq_fKeyNumber]
  simp only [(fKeyNumber_strictMono fmt).lt_iff_lt]

theorem fUnordered_comm (fmt : FFmt) (a b : Word) : fUnordered fmt a b = fUnordered fmt b a := Bool.or_comm _ _

theorem fMagnitude_lt (fmt : FFmt) (v : Word) : fMagnitude fmt v < 2 ^ ffmtExp fmt * 2 ^ ffmtFrac fmt := by
  have hwidth : 2 ^ (ffmtWidth fmt - 1) = 2 ^ ffmtExp fmt * 2 ^ ffmtFrac fmt := by cases fmt <;> rfl
  exact hwidth ▸ Nat.mod_lt _ (Nat.two_pow_pos _)

/-- Above infinity there are the magnitudes with its exponent, all ones, and a fraction that is not zero. -/
theorem fIsNan_eq_fNanBits (fmt : FFmt) (v : Word) : fIsNan fmt v = fNanBits fmt v := by
  show decide (fInfMagnitude fmt < fMagnitude fmt v) =
    (fMagnitude fmt v / 2 ^ ffmtFrac fmt == 2 ^ ffmtExp fmt - 1 && fMagnitude fmt v % 2 ^ ffmtFrac fmt != 0)
  have hlt := fMagnitude_lt fmt v
  rw [Bool.eq_iff_iff, decide_eq_true_iff, Bool.and_eq_true_iff, beq_iff_eq, bne_iff_ne, fInfMagnitude]
  have hF := Nat.two_pow_pos (ffmtFrac fmt)
  generalize fMagnitude fmt v = m, 2 ^ ffmtFrac fmt = F, 2 ^ ffmtExp fmt = E at *
  have hdiv : m / F < E := (Nat.div_lt_iff_lt_mul hF).2 hlt
  have hsplit := Nat.div_add_mod' m F
  constructor
  case mp =>
    intro hinf
    have hexp : m / F = E - 1 := Nat.le_antisymm (by omega) ((Nat.le_div_iff_mul_le hF).2 hinf.le)
    rw [hexp] at hsplit
    exact ⟨hexp, by omega⟩
  case mpr =>
    rintro ⟨hexp, hfrac⟩
    rw [hexp] at hsplit
    omega

theorem fUnordered_eq (fmt : FFmt) (a b : Word) : fUnordered fmt a b = (fNanBits fmt a || fNanBits fmt b) := by
  rw [fUnordered, fIsNan_eq_fNanBits, fIsNan_eq_fNanBits]

theorem fcmpVector_hasTests (fmt : FFmt) (a b u : Word) :
    let un := fUnordered fmt a b
    let eq := fEq fmt a b
    let lt := fLt fmt a b
    let gt := fLt fmt b a
    let orFree (k : Nat) (t : Bool) : Bool := if fIsInf fmt a || fIsInf fmt b then u.getLsbD k else t
    HasTests (fcmpVector fmt a b u)
      [eq, !eq, orFree 2 gt, orFree 3 (un || gt), orFree 4 (eq || gt), un || eq || gt, orFree 6 lt, un || lt, eq || lt,
        un || eq || lt, orFree 10 (!un && !eq), un || !eq, !un, un] := by
  refine HasTests.setWidth (by decide) ?_
  iterate 13 refine HasTests.append ?_
  exact bit1_hasTests _

theorem decide_le_eq (x y : Int) : decide (x ≤ y) = (decide (x = y) || decide (x < y)) := by
  rw [← Bool.decide_or, decide_eq_decide, le_iff_eq_or_lt]

end Sys2Proof.Machine

open Sys2Proof Sys2Proof.Machine

/-- Settles O25: by the list of tests of each vector, a float's in terms of its number. -/
theorem compareResultBits : Obligations.CompareResultBits := by
  refine ⟨fun w a b u signed hw => ?compare, fun w a b c signed hw => ?range, fun fmt a b u => ?float⟩
  case compare =>
    have hbits sg := cmpVector_hasTests hw sg a b u
    exact ⟨(hbits signed 0).trans (beq_eq_decide a b), (hbits signed 1).trans decide_not.symm, hbits true 2, hbits true 3,
      hbits true 4, hbits true 5, hbits false 2, hbits false 3, hbits false 4, hbits false 5,
      fun hin => (hbits signed 6).trans (if_pos hin), fun hin => (hbits signed 7).trans (if_pos hin),
      fun _ hk => (hbits signed).above hk⟩
  case range =>
    have hbits : HasTests (rangeVector signed a b c) _ := testBits_hasTests hw _ _ _ _ _ _ _ _
    simp only [lessThan_eq, lessEq_eq, ← Bool.decide_and] at hbits
    refine ⟨hbits 0, hbits 1, hbits 2, hbits 3, fun k hk => ?_, fun k hk => hbits.above hk⟩
    rw [hbits, hbits]
    interval_cases k <;> rfl
  case float =>
    have hbits := fcmpVector_hasTests fmt a b u
    have habove := fun k (hk : 14 ≤ k) => hbits.above hk
    simp only [fUnordered_comm fmt b a, fEq_eq, fLt_eq] at hbits
    intro x y r
    have hun : r.getLsbD 13 = fUnordered fmt a b := hbits 13
    have hle : decide (x ≤ y) = (decide (x = y) || decide (x < y)) := decide_le_eq x y
    have hge : decide (y ≤ x) = (decide (x = y) || decide (y < x)) := by
      rw [decide_le_eq, decide_eq_decide.2 (eq_comm (a := y))]
    have hne : decide (x ≠ y) = !decide (x = y) := decide_not
    rw [hle, hge, hne, hun, ← fUnordered_eq]
    refine ⟨⟨rfl, hbits 12, habove⟩, fun h => ?unordered, fun h => ?ordered, fun h => ?finite⟩
    case unordered | ordered =>
      rw [h] at hbits
      exact ⟨hbits 0, hbits 1, hbits 5, hbits 7, hbits 8, hbits 9, hbits 11⟩
    case finite =>
      rw [h] at hbits
      cases hu : fUnordered fmt a b <;> rw [hu] at hbits <;> exact ⟨hbits 2, hbits 3, hbits 4, hbits 6, hbits 10⟩

end

section
/-! PROOFS. The instructions of spec/44_comparison.md: the compares, the conditional moves and the set family. A conditional move
and a set are each settled once, over the relation; the rows that the spec leaves to analogy are those under
`SET_BY_ANALOGY`. -/

namespace Sys2Proof.Machine

variable {s : State}

/-! ## Compare (R441 to R445) -/

theorem compare_range {f : R3} (signed : Bool) (h : (f.op4 == 15#4) = true) (s : State) :
    compare signed f s =
      lanes3 f (fun _ a b c _ => neg f.nt (rangeVector signed (neg f.na a) (neg f.nb b) (neg f.nc c))) s := by
  rw [compare, h]; rfl

/-! ## Conditional moves (R448 to R452) -/

/-- A conditional move completes where no sign control falls on an old lane of the target. -/
theorem cmovRel_ok {r : Rel} {f : R3} (hready : s.ready3 f = true)
    (hsign : f.op4 ≠ 8#4 ∨ f.nt = false ∨ allLanes r f (s.value .a f.ra) (s.value .b f.rb) = true) :
    cmovRel r f s = finishWrite f.rt 6
      (mapLanes f.prec (fun w a b c old =>
          if r.holds (neg f.na a) (neg f.nb b) then neg f.nt (neg f.nc c)
          else if f.op4 = 8#4 then old else neg f.nt (f.op4.signExtend w))
        (s.value .a f.ra) (s.value .b f.rb) (s.value .c f.rc) (s.gpr f.rt)) s := by
  simp only [State.ready3, Bool.and_eq_true] at hready
  obtain ⟨⟨⟨ha, hb⟩, hc⟩, ht⟩ := hready
  have hcond : (f.op4 != 8#4 || !f.nt || allLanes r f (s.value .a f.ra) (s.value .b f.rb)) = true := by
    simpa [or_assoc] using hsign
  simp only [cmovRel, operand_ok ha, operand_ok hb, operand_ok hc, target_ok ht, Res.bind_ok, hcond, require_true, beq_iff_eq]

theorem selects_of_cmovRel {mk : R3 → Instr} {ok : State → Bool} {r : Rel}
    (h : ∀ f s, ok s = true → exec (mk f) s = (cmovRel r f s).finish) : selects mk ok r := by
  intro f s hready hsign hok
  rw [h f s hok, cmovRel_ok hready hsign]
  exact finishWrite_wrote _ _ _ s

/-! ## The set family (R453 to R455) -/

theorem setReg_pattern (h : (s.par.setByAnalogy == .pattern) = true) (r : Rel) (f : R3) : setReg r f s = cmovRel r f s := by
  rw [setReg, eq_of_beq h]

theorem zsetReg_pattern (h : (s.par.setByAnalogy == .pattern) = true) (r : Rel) (f : R3) :
    zsetReg r f s =
      lanes3 f (fun _ a b c _ => neg f.nt (if r.holds (neg f.na a) (neg f.nb b) then neg f.nc c else 0)) s := by
  rw [zsetReg, eq_of_beq h]

theorem setImmBy_long (h : (s.par.setByAnalogy == .pattern) = true) (r : Rel) (zero : Bool) (f : RI) :
    setImmBy r zero (.long f) s = setImm r zero f s := by
  rw [setImmBy, eq_of_beq h]

theorem setImmBy_short (h : s.par.setByAnalogy = .pattern) (r : Rel) (zero : Bool) (p : BitVec 15) :
    setImmBy r zero (.short p) s = raiseUnimplemented s := by
  rw [setImmBy, h]

theorem selects_of_setReg {mk : R3 → Instr} {r : Rel} (h : ∀ f s, exec (mk f) s = (setReg r f s).finish) :
    selects mk (fun s => s.par.setByAnalogy == .pattern) r :=
  selects_of_cmovRel fun f s hpar => by rw [h, setReg_pattern hpar]

theorem computes3_of_zsetReg {mk : R3 → Instr} {r : Rel} (h : ∀ f s, exec (mk f) s = (zsetReg r f s).finish) :
    computes3 mk (fun _ s => s.par.setByAnalogy == .pattern)
      (fun f _ a b c _ => neg f.nt (if r.holds (neg f.na a) (neg f.nb b) then neg f.nc c else 0)) :=
  computes3_of_lanes3 fun f s hpar => by rw [h, zsetReg_pattern hpar]

theorem setsImm_of_setImm {mk : RI → Instr} {ok : State → Bool} {r : Rel} {zero : Bool}
    (h : ∀ f s, ok s = true → exec (mk f) s = (setImm r zero f s).finish) : setsImm mk ok r zero := by
  intro f s ha ht hok
  rw [h f s hok]
  simp only [setImm, operand_ok ha, target_ok ht, Res.bind_ok]
  exact finishWrite_wrote _ _ _ s

/-- A row by analogy: its long form sets, its 24-bit word is an undefined encoding. -/
theorem setsImm_of_setImmBy {mk : SetImm → Instr} {r : Rel} {zero : Bool}
    (h : ∀ f s, exec (mk f) s = (setImmBy r zero f s).finish) :
    setsImm (fun f => mk (.long f)) (fun s => s.par.setByAnalogy == .pattern) r zero ∧
      ∀ (p : BitVec 15) (s : State), s.par.setByAnalogy = .pattern → raises (mk (.short p)) s 4#8 :=
  ⟨setsImm_of_setImm fun f s hpar => by rw [h, setImmBy_long hpar],
    fun p s hpar => raises_of_unimplemented (h _ s) (setImmBy_short hpar r zero p)⟩

end Sys2Proof.Machine

open Sys2Proof Sys2Proof.Machine

/-- Settles O31: the fused form of the compare vector, and the range vector where Op4 is 15. -/
theorem compareInstructions : Obligations.CompareInstructions := by
  have hne15 : ∀ {f : R3}, fuseDefined f.op4 = true → (f.op4 == 15#4) = false :=
    fun hd => beq_false_of_fuseDefined hd rfl
  exact ⟨computes3_of_fused fun _ s hd => congrArg Res.finish (compare_fused true (hne15 hd) s),
    computes3_of_fused fun _ s hd => congrArg Res.finish (compare_fused false (hne15 hd) s),
    computes3_of_lanes3 fun _ s h => congrArg Res.finish (compare_range true h s),
    computes3_of_lanes3 fun _ s h => congrArg Res.finish (compare_range false h s)⟩

/-- Settles O34: each is the conditional move, the set register or the zero-or-set register of its relation. -/
theorem conditionalMovesAndSets : Obligations.ConditionalMovesAndSets := by
  have hmove {mk r} := selects_of_cmovRel (mk := mk) (ok := fun _ => true) (r := r)
  refine ⟨hmove fun _ _ _ => rfl, hmove fun _ _ _ => rfl, hmove fun _ _ _ => rfl, hmove fun _ _ _ => rfl,
    selects_of_setReg fun _ _ => rfl, selects_of_setReg fun _ _ => rfl, selects_of_setReg fun _ _ => rfl,
    selects_of_setReg fun _ _ => rfl, selects_of_setReg fun _ _ => rfl, selects_of_setReg fun _ _ => rfl,
    selects_of_setReg fun _ _ => rfl, selects_of_setReg fun _ _ => rfl, ?zeroOrSet⟩
  case zeroOrSet =>
    simp only [List.forall_mem_cons, List.not_mem_nil, false_implies, implies_true, and_true]
    and_intros <;> exact computes3_of_zsetReg fun _ _ => rfl

/-- Settles O35: SEQI and ZSEQI always, the other rows by analogy, each with its relation. -/
theorem setOnImmediate : Obligations.SetOnImmediate := by
  refine ⟨setsImm_of_setImm fun _ _ _ => rfl, setsImm_of_setImm fun _ _ _ => rfl, fun e he => ?keeping, fun e he => ?zeroing⟩
  case keeping | zeroing =>
    simp only [List.mem_cons, List.not_mem_nil, or_false] at he
    rcases he with rfl | rfl | rfl | rfl | rfl | rfl | rfl | rfl | rfl <;> exact setsImm_of_setImmBy fun _ _ => rfl

end

section
/-! PROOFS. Ranges and fields of a pair, and the right shifts that take them (spec/45_shift_bitfield.md R504 to R515). The field of a
range, extended over the pair, is an arithmetic shift of the number that the bits ME to 0 stand for; rounding looks at what that shift
drops, which the number shares with the pair. -/

namespace Sys2Proof.Machine

variable {w : Nat} {r : Range}

/-! ## Ranges (R505) -/

theorem Range.bounds_of_valid (h : r.valid w = true) : r.mb ≤ r.me ∧ r.me < w + w := by
  simp only [Range.valid, Bool.and_eq_true, decide_eq_true_eq] at h
  exact ⟨h.1.2, h.2⟩

theorem Range.mask_getLsbD (h : r.valid w = true) (i : Nat) :
    (r.mask w).getLsbD i = (decide (r.mb ≤ i) && decide (i ≤ r.me)) := by
  obtain ⟨hle, hlt⟩ := Range.bounds_of_valid h
  rw [Range.mask, BitVec.getLsbD_shiftLeft, BitVec.getLsbD_ushiftRight, BitVec.getLsbD_allOnes, Bool.eq_iff_iff]
  simp only [Bool.and_eq_true, Bool.not_eq_true', decide_eq_true_eq, decide_eq_false_iff_not]
  omega

/-! ## Fields (R509, R512) -/

theorem fieldZext_getLsbD (h : r.valid w = true) (p : BitVec (w + w)) {i : Nat} (hi : i < w) :
    (fieldZext r p).getLsbD i = (decide (i ≤ r.me - r.mb) && p.getLsbD (r.mb + i)) := by
  obtain ⟨hle, -⟩ := Range.bounds_of_valid h
  have htop : r.mb + i ≤ r.me ↔ i ≤ r.me - r.mb := by omega
  rw [fieldZext, BitVec.getLsbD_setWidth, decide_eq_true hi, Bool.true_and, BitVec.getLsbD_ushiftRight, BitVec.getLsbD_and,
    Range.mask_getLsbD h, decide_eq_true (Nat.le_add_right r.mb i), Bool.true_and, decide_eq_decide.2 htop, Bool.and_comm]

/-- Shifting the field to the top and back extends the bits ME to 0 over the pair and drops those below MB. -/
theorem fieldSext_eq_sshiftRight (h : r.valid w = true) (p : BitVec (w + w)) :
    fieldSext r p = ((p.setWidth (r.me + 1)).signExtend (w + w)).sshiftRight r.mb := by
  obtain ⟨-, hlt⟩ := Range.bounds_of_valid h
  rw [fieldSext, BitVec.sshiftRight_add]
  congr 1
  apply BitVec.eq_of_getLsbD_eq
  intro i hi
  rw [BitVec.getLsbD_sshiftRight, BitVec.getLsbD_signExtend, BitVec.msb_setWidth'', BitVec.getLsbD_setWidth,
    BitVec.getLsbD_shiftLeft]
  by_cases hin : i ≤ r.me
  case pos =>
    have hfits : w + w - 1 - r.me + i < w + w := by omega
    simp [hi, hfits, Nat.lt_succ_iff.2 hin]
  case neg =>
    have hpast : ¬w + w - 1 - r.me + i < w + w := by omega
    have hsign : (p <<< (w + w - 1 - r.me)).msb = p.getLsbD r.me := by
      have htop : w + w - 1 - (w + w - 1 - r.me) = r.me := by omega
      rw [BitVec.msb_shiftLeft, BitVec.getMsbD_eq_getLsbD, htop, decide_eq_true (by omega), Bool.true_and]
    simp [hi, hpast, hin, hsign]

theorem srapLane_getLsbD (h : r.valid w = true) (p : BitVec (w + w)) {i : Nat} (hi : i < w) :
    (srapLane r p).getLsbD i = p.getLsbD (if i ≤ r.me - r.mb then r.mb + i else r.me) := by
  obtain ⟨hle, hlt⟩ := Range.bounds_of_valid h
  have hpair : ¬w + w ≤ i := by omega
  have hsign : ((p.setWidth (r.me + 1)).signExtend (w + w)).msb = p.getLsbD r.me := by
    rw [BitVec.msb_eq_toInt, BitVec.toInt_signExtend_of_le hlt, ← BitVec.msb_eq_toInt, BitVec.msb_setWidth'']
  rw [srapLane, BitVec.getLsbD_setWidth, decide_eq_true hi, Bool.true_and, fieldSext_eq_sshiftRight h,
    BitVec.getLsbD_sshiftRight, decide_eq_false hpair, Bool.not_false, Bool.true_and, hsign, BitVec.getLsbD_signExtend,
    BitVec.msb_setWidth'', BitVec.getLsbD_setWidth]
  by_cases hin : i ≤ r.me - r.mb
  case pos =>
    have hfield : r.mb + i < r.me + 1 := by omega
    have hfits : r.mb + i < w + w := by omega
    simp only [hin, hfield, hfits, if_true, decide_true, Bool.true_and]
  case neg =>
    have hpast : ¬r.mb + i < r.me + 1 := by omega
    rw [if_neg hpast, if_neg hin]
    split
    next hfits => rw [decide_eq_true hfits, Bool.true_and]
    next => rfl

/-! ## The number of a field -/

/-- The field is the quotient of the bits ME to 0 by 2 to the power MB, rounded down. -/
theorem fieldSext_toInt (h : r.valid w = true) (p : BitVec (w + w)) :
    (fieldSext r p).toInt = (p.setWidth (r.me + 1)).toInt / 2 ^ r.mb := by
  rw [fieldSext_eq_sshiftRight h, BitVec.toInt_sshiftRight, BitVec.toInt_signExtend_of_le (Range.bounds_of_valid h).2,
    Int.shiftRight_eq_div_pow, Int.natCast_pow, Nat.cast_ofNat]

/-- The bits that a shift by MB drops are the low bits of the pair. -/
theorem field_emod (h : r.valid w = true) (p : BitVec (w + w)) :
    (p.setWidth (r.me + 1)).toInt % 2 ^ r.mb = ((p.setWidth r.mb).toNat : Int) := by
  have hmb : r.mb ≤ r.me + 1 := Nat.le_succ_of_le (Range.bounds_of_valid h).1
  have hcut : BitVec.ofInt r.mb (p.setWidth (r.me + 1)).toInt = p.setWidth r.mb := by
    rw [← BitVec.signExtend, BitVec.signExtend_eq_setWidth_of_le _ hmb, BitVec.setWidth_setWidth_of_le _ hmb]
  rw [← hcut, BitVec.toNat_ofInt, Int.toNat_of_nonneg (Int.emod_nonneg _ (by positivity)), Int.natCast_pow, Nat.cast_ofNat]

/-- Cut to a lane the field is that quotient, modulo 2 to the width of the lane (R512). -/
theorem srapLane_eq (h : r.valid w = true) (p : BitVec (w + w)) :
    srapLane r p = BitVec.ofInt w ((p.setWidth (r.me + 1)).toInt / 2 ^ r.mb) := by
  rw [srapLane, ← BitVec.signExtend_eq_setWidth_of_le _ (Nat.le_add_right w w), BitVec.signExtend, fieldSext_toInt h]

/-- A field that goes up by one under a condition, cut to a lane. -/
theorem fieldSext_roundUp (h : r.valid w = true) (p : BitVec (w + w)) {c : Bool} {up : Prop} [Decidable up]
    (hc : c = true ↔ up) :
    (if c = true then fieldSext r p + 1 else fieldSext r p).setWidth w =
      BitVec.ofInt w ((p.setWidth (r.me + 1)).toInt / 2 ^ r.mb + if up then 1 else 0) := by
  have hcut : (fieldSext r p).setWidth w = _ := srapLane_eq h p
  by_cases hup : up
  case pos =>
    have hone : (1 : BitVec (w + w)).setWidth w = BitVec.ofInt w 1 := BitVec.eq_of_toNat_eq (by simp)
    rw [if_pos (hc.2 hup), if_pos hup, BitVec.setWidth_add _ _ (Nat.le_add_right w w), BitVec.ofInt_add, hcut, hone]
  case neg => rw [if_neg (mt hc.1 hup), if_neg hup, Int.add_zero, hcut]

/-! ## Rounding (R514, R515) -/

/-- Truncation is rounding down, and one up for a negative number that is no multiple. -/
theorem tdiv_two_pow (x : Int) (k : Nat) :
    x.tdiv (2 ^ k) = x / 2 ^ k + if x < 0 ∧ x % 2 ^ k ≠ 0 then 1 else 0 := by
  have hpos : (0 : Int) < 2 ^ k := by positivity
  rw [Int.tdiv_eq_ediv, Int.sign_eq_one_of_pos hpos]
  congr 1
  simp only [Int.dvd_iff_emod_eq_zero]
  split <;> split <;> omega

/-- A half added before rounding down carries where the last bit dropped is 1. -/
theorem add_half_ediv (x : Int) {k : Nat} (hk : 0 < k) :
    (x + 2 ^ (k - 1)) / 2 ^ k = x / 2 ^ k + if 2 ^ (k - 1) ≤ x % 2 ^ k then 1 else 0 := by
  have hpow : (2 : Int) ^ k = 2 ^ (k - 1) + 2 ^ (k - 1) := by rw [← mul_two, pow_sub_one_mul hk.ne']
  have hpos : (0 : Int) < 2 ^ k := by positivity
  have hsplit := Int.emod_add_mul_ediv x (2 ^ k)
  have hlt := Int.emod_lt_of_pos x hpos
  have hnonneg := Int.emod_nonneg x hpos.ne'
  split
  next hcarry =>
    refine ((Int.ediv_emod_unique (r := x % 2 ^ k - 2 ^ (k - 1)) hpos).2 ⟨?_, ?_, ?_⟩).1
    · rw [Int.mul_add]; omega
    all_goals omega
  next hstay =>
    rw [Int.add_zero]
    refine ((Int.ediv_emod_unique (r := x % 2 ^ k + 2 ^ (k - 1)) hpos).2 ⟨?_, ?_, ?_⟩).1
    all_goals omega

/-- A field is negative where the bits ME to 0 are, and inexact where they are no multiple of 2 to the power MB. -/
theorem sraprzLane_eq (h : r.valid w = true) (p : BitVec (w + w)) :
    sraprzLane r p = BitVec.ofInt w ((p.setWidth (r.me + 1)).toInt.tdiv (2 ^ r.mb)) := by
  have hnegative : (p.setWidth (r.me + 1)).toInt / 2 ^ r.mb < 0 ↔ (p.setWidth (r.me + 1)).toInt < 0 := by
    rw [← not_le, ← not_le, Int.ediv_nonneg_iff_of_pos (by positivity)]
  have hup : ((fieldSext r p).msb && p.toNat % 2 ^ r.mb != 0) = true ↔
      (p.setWidth (r.me + 1)).toInt < 0 ∧ (p.setWidth (r.me + 1)).toInt % 2 ^ r.mb ≠ 0 := by
    rw [field_emod h, BitVec.toNat_setWidth, Int.natCast_ne_zero, BitVec.msb_eq_toInt, fieldSext_toInt h, Bool.and_eq_true,
      decide_eq_true_iff, bne_iff_ne, hnegative]
  rw [tdiv_two_pow]
  exact fieldSext_roundUp h p hup

theorem srapruLane_exact (h : r.valid w = true) (p : BitVec (w + w)) (hmb : r.mb = 0) :
    srapruLane r p = BitVec.ofInt w (p.setWidth (r.me + 1)).toInt := by
  have hkeep : srapruLane r p = srapLane r p := by rw [srapruLane, hmb]; rfl
  rw [hkeep, srapLane_eq h, hmb, pow_zero, Int.ediv_one]

/-- The last bit dropped is the top bit of those below MB. -/
theorem srapruLane_eq (h : r.valid w = true) (p : BitVec (w + w)) (hmb : 0 < r.mb) :
    srapruLane r p = BitVec.ofInt w (((p.setWidth (r.me + 1)).toInt + 2 ^ (r.mb - 1)) / 2 ^ r.mb) := by
  have hlast : (r.mb != 0 && p.getLsbD (r.mb - 1)) = (p.setWidth r.mb).msb := by
    rw [BitVec.msb_setWidth, decide_eq_true hmb, bne_iff_ne.2 hmb.ne']
  have hup : (r.mb != 0 && p.getLsbD (r.mb - 1)) = true ↔
      2 ^ (r.mb - 1) ≤ (p.setWidth (r.me + 1)).toInt % 2 ^ r.mb := by
    rw [hlast, field_emod h, BitVec.msb_eq_decide, decide_eq_true_iff]
    exact_mod_cast Iff.rfl
  rw [add_half_ediv _ hmb]
  exact fieldSext_roundUp h p hup

end Sys2Proof.Machine

open Sys2Proof Sys2Proof.Machine

/-- Settles O27: the bits of a field by its two extensions, and each rounding as a quotient rounded down with what goes up. -/
theorem rightShiftsTakeTheField : Obligations.RightShiftsTakeTheField :=
  ⟨fun _ _ p _ h hi => ⟨fieldZext_getLsbD h p hi, srapLane_getLsbD h p hi⟩, fun _ _ p h =>
    ⟨srapLane_eq h p, sraprzLane_eq h p, srapruLane_exact h p, srapruLane_eq h p⟩⟩

end

section
/-! PROOFS. The shifts of a pair (spec/45_shift_bitfield.md R504 to R515). Each form is settled once, over its lane function. -/

namespace Sys2Proof.Machine

variable {s : State}

/-! ## Right shifts (R509 to R515) -/

theorem shiftsReg_of_shiftReg {mk : Shift → Instr} {g : Range → (w : Nat) → BitVec (w + w) → BitVec w}
    (h : ∀ f s, exec (mk f) s = (shiftReg f g s).finish) : shiftsReg mk g := by
  intro f s ha hb hc ht hnc
  rw [h]
  simp only [shiftReg, hnc, Bool.not_false, require_true, operand_ok ha, operand_ok hb, operand_ok hc, target_ok ht,
    Res.bind_ok]
  exact finishWrite_wrote _ _ _ s

theorem shiftsImm_of_shiftImm {mk : ShiftI → Instr} {g : Range → (w : Nat) → BitVec (w + w) → BitVec w}
    (h : ∀ f s, exec (mk f) s = (shiftImm f g s).finish) : shiftsImm mk g := by
  intro f s ha hb ht
  rw [h]
  simp only [shiftImm, operand_ok ha, operand_ok hb, target_ok ht, Res.bind_ok]
  exact finishWrite_wrote _ _ _ s

/-! ## Left shifts (R506) -/

theorem execSllp_wrote {f : ShiftH} (ha : s.readable .a f.ra = true) (hb : s.readable .b f.rb = true)
    (hc : s.readable .c f.rc = true) (ht : s.writable f.rt = true) (hnc : f.nc = false) :
    ∃ t, execSllp f s = .next t ∧
      s.wrote t f.rt
        (mapLanes f.prec (fun _ a b _ u =>
            com f.nt (sllpLane f.h ((s.value .c f.rc).toNat % 128) (com f.nb b ++ com f.na a) u))
          (s.value .a f.ra) (s.value .b f.rb) 0#64 (s.free slotResult)) 6 := by
  simp only [execSllp, hnc, Bool.not_false, require_true, operand_ok ha, operand_ok hb, operand_ok hc, target_ok ht,
    Res.bind_ok]
  exact finishWrite_wrote _ _ _ s

theorem execSllpi_wrote {f : ShiftHI} (ha : s.readable .a f.ra = true) (hb : s.readable .b f.rb = true)
    (ht : s.writable f.rt = true) :
    ∃ t, execSllpi f s = .next t ∧
      s.wrote t f.rt
        (mapLanes f.prec (fun _ a b _ u => com f.nt (sllpLane f.h f.imm.toNat (com f.nb b ++ com f.na a) u))
          (s.value .a f.ra) (s.value .b f.rb) 0#64 (s.free slotResult)) 6 := by
  simp only [execSllpi, operand_ok ha, operand_ok hb, target_ok ht, Res.bind_ok]
  exact finishWrite_wrote _ _ _ s

variable {w n i : Nat}

/-- The lower half of the shifted pair. -/
theorem sllpLane_low_getLsbD (hn : n < w + w) (hi : i < w) (p : BitVec (w + w)) (u : BitVec w) :
    (sllpLane false n p u).getLsbD i = (decide (n ≤ i) && p.getLsbD (i - n)) := by
  rw [sllpLane, if_neg (Nat.not_le.2 hn), if_neg Bool.false_ne_true, BitVec.getLsbD_setWidth, BitVec.getLsbD_shiftLeft,
    decide_eq_true hi, decide_eq_true (Nat.lt_add_right w hi), Bool.true_and, Bool.true_and, ← decide_not,
    decide_eq_decide.2 Nat.not_lt]

/-- The upper half of the shifted pair. -/
theorem sllpLane_high_getLsbD (hn : n < w + w) (hi : i < w) (p : BitVec (w + w)) (u : BitVec w) :
    (sllpLane true n p u).getLsbD i = (decide (n ≤ w + i) && p.getLsbD (w + i - n)) := by
  rw [sllpLane, if_neg (Nat.not_le.2 hn), if_pos rfl, BitVec.getLsbD_extractLsb', BitVec.getLsbD_shiftLeft,
    decide_eq_true hi, decide_eq_true (Nat.add_lt_add_left hi w), Bool.true_and, Bool.true_and, ← decide_not,
    decide_eq_decide.2 Nat.not_lt]

end Sys2Proof.Machine

open Sys2Proof Sys2Proof.Machine

/-- Settles O43: each right shift is its form with its lane function, the left shifts end in one write each. -/
theorem shiftInstructions : Obligations.ShiftInstructions :=
  ⟨shiftsReg_of_shiftReg fun _ _ => rfl, shiftsImm_of_shiftImm fun _ _ => rfl,
    shiftsReg_of_shiftReg fun _ _ => rfl, shiftsImm_of_shiftImm fun _ _ => rfl,
    shiftsReg_of_shiftReg fun _ _ => rfl, shiftsImm_of_shiftImm fun _ _ => rfl,
    shiftsReg_of_shiftReg fun _ _ => rfl, shiftsImm_of_shiftImm fun _ _ => rfl,
    fun _ _ => execSllp_wrote, fun _ _ => execSllpi_wrote,
    fun _ _ _ p u hn hi => ⟨sllpLane_low_getLsbD hn hi p u, sllpLane_high_getLsbD hn hi p u⟩⟩

end

section
/-! PROOFS. The deposits into a pair of registers (spec/45_shift_bitfield.md R516 to R520; spec/10_state.md R28). Both forms end in the
same two writes; a bit of the pair depends on the range and on the bits at its place, and on nothing free. -/

namespace Sys2Proof.Machine

variable {s : State}

/-! ## The two writes (R516) -/

/-- A write of `hi` to `ra` and one of `lo` to `rt`, past an instruction of six bytes, that change nothing else. -/
def State.wrotePair (s t : State) (ra rt : BitVec 6) (hi lo : Word) : Prop :=
  s.holds t ra hi false ∧ s.holds t rt lo false ∧
    (∀ i, i ≠ s.physical ra → i ≠ s.physical rt → t.gprPhys i = s.gprPhys i ∧ t.tagPhys i = s.tagPhys i) ∧
    s.sameButRegs t ∧ t.ip = s.nextIp 6

/-- Of two registers the second write leaves the first one as it was written. -/
theorem State.wrotePair_setGpr {ra rt : BitVec 6} (hne : s.physical ra ≠ s.physical rt) (hi lo : Word) :
    s.wrotePair (((s.setGpr ra hi).setGpr rt lo).advance 6) ra rt hi lo := by
  have hrt : (s.setGpr ra hi).physical rt = s.physical rt := s.setPhys_physical _ hi false rt
  have hfirst : s.holds (s.setGpr ra hi) ra hi false := s.holds_setPhys ra hi false
  obtain ⟨hsecond, hkept, -, -⟩ := (s.setGpr ra hi).wrote_setGpr rt lo 6
  rw [State.holds, hrt] at hsecond
  rw [State.sameRegsBut, hrt] at hkept
  refine ⟨?high, hsecond, fun i hia hit => ?others, by simp [State.sameButRegs], by simp [State.nextIp]⟩
  case high =>
    obtain ⟨hval, htag⟩ := hkept _ hne
    exact ⟨hval.trans hfirst.1, htag.trans hfirst.2⟩
  case others =>
    obtain ⟨hval, htag⟩ := hkept i hit
    obtain ⟨hval', htag'⟩ := s.sameRegsBut_setPhys ra hi false i hia
    exact ⟨hval.trans hval', htag.trans htag'⟩

/-- What the conditions on the fields of a deposit ask for. -/
theorem depositAllowed_ok {na nt : Bool} {ra rt : BitVec 6} (hp : s.pfx = none) (hna : na = false) (hnt : nt = false)
    (hne : s.physical ra ≠ s.physical rt) : depositAllowed na nt ra rt s = .ok () s := by
  simp only [depositAllowed, State.constant_of_no_pfx hp, Option.isNone_none, hna, hnt, Bool.not_false, Bool.and_true,
    require_true, Res.bind_ok, bne_iff_ne.2 hne]

theorem deposit_wrotePair {ra rt : BitVec 6} (hra : s.writable ra = true) (hrt : s.writable rt = true)
    (hne : s.physical ra ≠ s.physical rt) (p : Prec) (r : Range) (x nb : Bool) (b : Word) :
    ∃ t, (deposit p r x nb ra rt b s).finish = .next t ∧
      s.wrotePair t ra rt (mapLanes p (depLane r x nb true) (s.gpr ra) (s.gpr rt) b (s.free slotUpper))
        (mapLanes p (depLane r x nb false) (s.gpr ra) (s.gpr rt) b (s.free slotResult)) := by
  simp only [deposit, target_ok hra, target_ok hrt, Res.bind_ok]
  exact ⟨_, rfl, State.wrotePair_setGpr hne _ _⟩

theorem depositReg_eq {f : Shift} (x : Bool) (hp : s.pfx = none) (hna : f.na = false) (hnt : f.nt = false) (hnc : f.nc = false)
    (hb : s.mayUse f.rb = true) (hc : s.mayUse f.rc = true) (hne : s.physical f.ra ≠ s.physical f.rt) :
    depositReg x f s = deposit f.prec (rangeReg (s.gpr f.rc)) x f.nb f.ra f.rt (s.gpr f.rb) s := by
  simp only [depositReg, hnc, Bool.not_false, require_true, depositAllowed_ok hp hna hnt hne,
    operand_ok (State.readable_of_mayUse hp _ hb), operand_ok (State.readable_of_mayUse hp _ hc), State.value_of_no_pfx hp,
    Res.bind_ok]

theorem depositImm_eq {f : ShiftI} (x : Bool) (hp : s.pfx = none) (hna : f.na = false) (hnt : f.nt = false)
    (hb : s.mayUse f.rb = true) (hne : s.physical f.ra ≠ s.physical f.rt) :
    depositImm x f s = deposit f.prec (rangeImm f) x f.nb f.ra f.rt (s.gpr f.rb) s := by
  simp only [depositImm, depositAllowed_ok hp hna hnt hne, operand_ok (State.readable_of_mayUse hp _ hb),
    State.value_of_no_pfx hp, Res.bind_ok]

theorem exec_depositReg (x : Bool) (f : Shift) (s : State) :
    exec (if x then .depxor f else .dep f) s = (depositReg x f s).finish := by cases x <;> rfl

theorem exec_depositImm (x : Bool) (f : ShiftI) (s : State) :
    exec (if x then .depxori f else .depi f) s = (depositImm x f s).finish := by cases x <;> rfl

/-! ## The bits of a pair (R516, R517) -/

variable {w i : Nat} {r : Range}

/-- A value placed in a range, under any bits that lead it. -/
theorem placed_getLsbD (h : r.valid w = true) (hi : i < w + w) (hfield : i - r.mb < w) (lead v : BitVec w) :
    (((lead ++ v : BitVec (w + w)) <<< r.mb) &&& r.mask w).getLsbD i =
      (decide (r.mb ≤ i ∧ i ≤ r.me) && v.getLsbD (i - r.mb)) := by
  rw [BitVec.getLsbD_and, Range.mask_getLsbD h, ← Bool.decide_and, BitVec.getLsbD_shiftLeft, BitVec.getLsbD_append,
    if_pos hfield, decide_eq_true hi, Bool.true_and]
  by_cases hin : r.mb ≤ i ∧ i ≤ r.me <;> simp [hin]

/-- In the range a bit is that of the value, or its exclusive or with the old one; outside it, the old one. -/
theorem depPair_getLsbD (h : r.valid w = true) (hi : i < w + w) (hfield : i - r.mb < w) (x : Bool) (t : BitVec (w + w))
    (v u : BitVec w) :
    (depPair r x t v u).getLsbD i =
      if r.mb ≤ i ∧ i ≤ r.me then v.getLsbD (i - r.mb) ^^ (x && t.getLsbD i) else t.getLsbD i := by
  have hplaced := placed_getLsbD h hi hfield (if r.me - r.mb < w then 0 else u) v
  have hmask := Range.mask_getLsbD h i
  rw [← Bool.decide_and] at hmask
  cases x with
  | true =>
    rw [depPair, if_pos rfl, BitVec.getLsbD_xor, hplaced]
    split
    next hin => rw [decide_eq_true hin, Bool.true_and, Bool.true_and, Bool.xor_comm]
    next hout => rw [decide_eq_false hout, Bool.false_and, Bool.xor_false]
  | false =>
    rw [depPair, if_neg Bool.false_ne_true, BitVec.getLsbD_or, BitVec.getLsbD_and, BitVec.getLsbD_not, hplaced, hmask]
    split
    next hin => simp [hin]
    next hout => simp [hout, hi]

/-- The two halves are those of the one pair, whatever is free in each. -/
theorem depLane_append_getLsbD (h : r.valid w = true) (hi : i < w + w) (hfield : i - r.mb < w) (x nb : Bool)
    (a t b u u' : BitVec w) :
    (depLane r x nb true w a t b u ++ depLane r x nb false w a t b u' : BitVec (w + w)).getLsbD i =
      if r.mb ≤ i ∧ i ≤ r.me then (com nb b).getLsbD (i - r.mb) ^^ (x && (a ++ t : BitVec (w + w)).getLsbD i)
      else (a ++ t : BitVec (w + w)).getLsbD i := by
  have hpair := depPair_getLsbD h hi hfield x (a ++ t) (com nb b)
  rw [BitVec.getLsbD_append]
  split
  next hlow =>
    rw [← hpair u', depLane, h]
    simp [hlow]
  next hhigh =>
    have hseam : w + (i - w) = i := by omega
    have htop : i - w < w := by omega
    rw [← hpair u, depLane, h]
    simp [hseam, htop]

end Sys2Proof.Machine

open Sys2Proof Sys2Proof.Machine

/-- Settles O44: past the conditions on the fields both forms are the one deposit, with the range of each. -/
theorem depositInstructions : Obligations.DepositInstructions := by
  refine ⟨fun f s x hp hna hnt hnc ha hb hc ht _ _ hne => ?reg, fun f s x hp hna hnt ha hb ht _ _ hne => ?imm,
    fun w r x nb a t b u u' i h hi hfield => depLane_append_getLsbD h hi hfield x nb a t b u u'⟩
  case reg =>
    rw [exec_depositReg, depositReg_eq x hp hna hnt hnc hb hc hne]
    exact deposit_wrotePair (State.writable_of_mayUse hp ha) (State.writable_of_mayUse hp ht) hne _ _ x f.nb _
  case imm =>
    rw [exec_depositImm, depositImm_eq x hp hna hnt hb hne]
    exact deposit_wrotePair (State.writable_of_mayUse hp ha) (State.writable_of_mayUse hp ht) hne _ _ x f.nb _

end

section
/-! PROOFS. The float instructions (spec/46_floating_point.md R555 to R573). Each reads its operands, applies its operation and boxes
the result. FTRUNC clears fraction bits; in the number of the float, those bits are what remains of it after division by 1. -/

namespace Sys2Proof.Machine

variable {s : State} {fmt : FFmt}

/-! ## What the instructions write (R555 to R558) -/

theorem rounding_ok {rm m : BitVec 3} (h : roundingMode s.par.fcrRm rm = some m) : rounding rm s = .ok m s := by
  rw [rounding, h]

theorem rounding_reserved {rm : BitVec 3} (h : rm = 5#3 ∨ rm = 6#3) : rounding rm s = .stop .roundingMode := by
  rcases h with rfl | rfl <;> rfl

/-- The float instructions with one operand, past the check of their rounding mode. -/
theorem oneOperandFloat_wrote {ra rt : BitVec 6} (g : Word → Word) (nt : Bool) (ha : s.readable .a ra = true)
    (ht : s.writable rt = true) :
    ∃ t, ((operand .a ra s).bind fun a s => (target rt s).bind fun _ s => writeFloat fmt nt rt (g a) s).finish = .next t ∧
      s.wrote t rt (boxed fmt s.par.nanboxSign (s.free slotResult) (fopnd fmt nt (g (s.value .a ra)))) 6 := by
  simp only [operand_ok ha, target_ok ht, Res.bind_ok]
  exact finishWrite_wrote _ _ _ s

theorem fabsOp_wrote {f : FltAbs} (negative : Bool) (ha : s.readable .a f.ra = true) (ht : s.writable f.rt = true) :
    ∃ t, (fabsOp negative f s).finish = .next t ∧
      s.wrote t f.rt (boxed f.fmt s.par.nanboxSign (s.free slotResult)
        (if negative then fopnd f.fmt f.na (s.value .a f.ra) ||| fSignMask f.fmt
          else fopnd f.fmt f.na (s.value .a f.ra) &&& ~~~(fSignMask f.fmt))) 6 :=
  oneOperandFloat_wrote
    (fun a => if negative then fopnd f.fmt f.na a ||| fSignMask f.fmt else fopnd f.fmt f.na a &&& ~~~(fSignMask f.fmt))
    false ha ht

theorem fsqrtOp_wrote {f : Flt1} {rm : BitVec 3} (hrm : roundingMode s.par.fcrRm f.rm = some rm)
    (ha : s.readable .a f.ra = true) (ht : s.writable f.rt = true) :
    ∃ t, (fsqrtOp f s).finish = .next t ∧
      s.wrote t f.rt (boxed f.fmt s.par.nanboxSign (s.free slotResult) (fopnd f.fmt f.nt
        ((Config.fpSqrt (ffmtWidth f.fmt) rm (fval f.fmt (fopnd f.fmt f.na (s.value .a f.ra)))).setWidth 64 &&&
          ~~~(fSignMask f.fmt)))) 6 := by
  rw [fsqrtOp, rounding_ok hrm, Res.bind_ok]
  exact oneOperandFloat_wrote _ f.nt ha ht

theorem fcosOp_wrote {f : FltCos} {rm : BitVec 3} (hrm : roundingMode s.par.fcrRm f.rm = some rm)
    (hprc : f.prc3 = fcosCode f.fmt) (ha : s.readable .a f.ra = true) (ht : s.writable f.rt = true) :
    ∃ t, (fcosOp f s).finish = .next t ∧
      s.wrote t f.rt (boxed f.fmt s.par.nanboxSign (s.free slotResult) (fopnd f.fmt f.nt
        ((Config.fpCos (ffmtWidth f.fmt) rm (fval f.fmt (fopnd f.fmt f.na (s.value .a f.ra)))).setWidth 64))) 6 := by
  rw [fcosOp, beq_iff_eq.2 hprc, require_true, Res.bind_ok, rounding_ok hrm, Res.bind_ok]
  exact oneOperandFloat_wrote _ f.nt ha ht

theorem faddOp_wrote {f : FltAdd} {rm : BitVec 3} (sub : Bool) (hrm : roundingMode s.par.fcrRm f.rm = some rm)
    (ha : s.readable .a f.ra = true) (hb : s.readable .b f.rb = true) (ht : s.writable f.rt = true) :
    ∃ t, (faddOp sub f s).finish = .next t ∧
      s.wrote t f.rt (boxed f.fmt s.par.nanboxSign (s.free slotResult) (fopnd f.fmt f.nt
        ((Config.fpAdd (ffmtWidth f.fmt) rm (fval f.fmt (fopnd f.fmt f.na (s.value .a f.ra)))
          (fval f.fmt (fopnd f.fmt sub (s.value .b f.rb)))).setWidth 64))) 6 := by
  simp only [faddOp, rounding_ok hrm, operand_ok ha, operand_ok hb, target_ok ht, Res.bind_ok]
  exact finishWrite_wrote _ _ _ s

theorem fmaOp_wrote {f : Flt3} {rm : BitVec 3} (sub : Bool) (hrm : roundingMode s.par.fcrRm f.rm = some rm)
    (ha : s.readable .a f.ra = true) (hb : s.readable .b f.rb = true) (hc : s.readable .c f.rc = true)
    (ht : s.writable f.rt = true) :
    ∃ t, (fmaOp sub f s).finish = .next t ∧
      s.wrote t f.rt (boxed f.fmt s.par.nanboxSign (s.free slotResult) (fopnd f.fmt f.nt
        ((Config.fpFma (ffmtWidth f.fmt) rm (fval f.fmt (fopnd f.fmt f.na (s.value .a f.ra)))
          (fval f.fmt (fopnd f.fmt f.nb (s.value .b f.rb))) (fval f.fmt (fopnd f.fmt sub (s.value .c f.rc)))).setWidth 64))) 6 := by
  simp only [fmaOp, rounding_ok hrm, operand_ok ha, operand_ok hb, operand_ok hc, target_ok ht, Res.bind_ok]
  exact finishWrite_wrote _ _ _ s

theorem fcompare_wrote {f : FltCmp} (g : Word → Word → Word → Word) (ha : s.readable .a f.ra = true)
    (hb : s.readable .b f.rb = true) (ht : s.writable f.rt = true) :
    ∃ t, (fcompare f g s).finish = .next t ∧
      s.wrote t f.rt (neg f.nt
        (g (fopnd f.fmt f.na (s.value .a f.ra)) (fopnd f.fmt f.nb (s.value .b f.rb)) (s.free slotResult))) 6 := by
  simp only [fcompare, operand_ok ha, operand_ok hb, target_ok ht, Res.bind_ok]
  exact finishWrite_wrote _ _ _ s

theorem exec_fmaOp (sub : Bool) (f : Flt3) (s : State) :
    exec (if sub then .fms f else .fma f) s = (fmaOp sub f s).finish := by cases sub <;> rfl

theorem exec_faddOp (sub : Bool) (f : FltAdd) (s : State) :
    exec (if sub then .fsub f else .fadd f) s = (faddOp sub f s).finish := by cases sub <;> rfl

theorem exec_fadd_reserved {f : FltAdd} (h : f.rm = 5#3 ∨ f.rm = 6#3) : exec (.fadd f) s = .refused .roundingMode := by
  show (faddOp false f s).finish = _
  rw [faddOp, rounding_reserved h]; rfl

/-! ## Masks on the sign and the magnitude (R551) -/

theorem fMagnitude_testBit (fmt : FFmt) (v : Word) (i : Nat) :
    (fMagnitude fmt v).testBit i = (decide (i < ffmtWidth fmt - 1) && v.getLsbD i) := by
  rw [fMagnitude, Nat.testBit_mod_two_pow, BitVec.testBit_toNat]

theorem and_fSignMask_getLsbD (fmt : FFmt) (v : Word) (i : Nat) :
    (v &&& fSignMask fmt).getLsbD i = (v.getLsbD i && decide (ffmtWidth fmt - 1 = i)) := by
  have hwidth : ffmtWidth fmt - 1 < 64 := by cases fmt <;> decide
  have hmask : fSignMask fmt = BitVec.twoPow 64 (ffmtWidth fmt - 1) := rfl
  rw [hmask, BitVec.getLsbD_and, BitVec.getLsbD_twoPow, decide_eq_true hwidth, Bool.true_and]

/-- A word without its low `k` bits. -/
theorem clearLow_getLsbD (v : Word) (k i : Nat) :
    (v &&& ~~~BitVec.ofNat 64 (2 ^ k - 1)).getLsbD i = (decide (k ≤ i) && v.getLsbD i) := by
  rw [BitVec.getLsbD_and, BitVec.getLsbD_not, BitVec.getLsbD_ofNat, Nat.testBit_two_pow_sub_one]
  by_cases hi : i < 64
  case pos => simp [hi, ← decide_not, Bool.and_comm]
  case neg => simp [BitVec.getLsbD_of_ge v i (by omega)]

theorem fMagnitude_and_fSignMask (fmt : FFmt) (v : Word) : fMagnitude fmt (v &&& fSignMask fmt) = 0 := by
  refine Nat.eq_of_testBit_eq fun i => ?_
  rw [fMagnitude_testBit, and_fSignMask_getLsbD, Nat.zero_testBit]
  by_cases hi : i < ffmtWidth fmt - 1
  case pos => simp [hi.ne']
  case neg => simp [hi]

theorem fMagnitude_clearLow (fmt : FFmt) (v : Word) (k : Nat) :
    fMagnitude fmt (v &&& ~~~BitVec.ofNat 64 (2 ^ k - 1)) = fMagnitude fmt v / 2 ^ k * 2 ^ k := by
  refine Nat.eq_of_testBit_eq fun i => ?_
  rw [fMagnitude_testBit, clearLow_getLsbD, Nat.testBit_mul_two_pow, Nat.testBit_div_two_pow, fMagnitude_testBit]
  by_cases hk : k ≤ i <;> simp [hk]

/-! ## Truncation of the number of a magnitude (R573) -/

/-- The number 1, in the unit of `fScaled`. -/
def fOne (fmt : FFmt) : Nat := 2 ^ (ffmtBias fmt - 1 + ffmtFrac fmt)

theorem fUnit_eq_fOne (fmt : FFmt) : fUnit fmt = fOne fmt := by
  rw [fUnit, fOne, ffmtBias, Nat.sub_sub, Nat.cast_pow, Nat.cast_ofNat]

theorem ffmtBias_pos (fmt : FFmt) : 0 < ffmtBias fmt := by cases fmt <;> decide

/-- The float 1 has the bias as its exponent and a zero fraction. -/
theorem fNumber_one (fmt : FFmt) : fNumber fmt (2 ^ ffmtFrac fmt * ffmtBias fmt) = fOne fmt := by
  have h := fNumber_eq fmt (e := ffmtBias fmt) (Nat.two_pow_pos (ffmtFrac fmt))
  rw [if_neg (ffmtBias_pos fmt).ne', Nat.zero_add, Nat.add_zero] at h
  rw [h, fOne, ← Nat.pow_add, Nat.add_comm]

theorem fNumber_lt_fOne {m : Nat} (h : m / 2 ^ ffmtFrac fmt < ffmtBias fmt) : fNumber fmt m < fOne fmt := by
  have hm : m < 2 ^ ffmtFrac fmt * ffmtBias fmt := by
    rw [Nat.mul_comm]; exact (Nat.div_lt_iff_lt_mul (Nat.two_pow_pos _)).1 h
  rw [← fNumber_one]
  exact strictMono_nat_of_lt_succ (fNumber_lt_succ fmt) hm

theorem fOne_dvd_fNumber {m : Nat} (h : ffmtBias fmt + ffmtFrac fmt ≤ m / 2 ^ ffmtFrac fmt) :
    fOne fmt ∣ fNumber fmt m := by
  have hbias := ffmtBias_pos fmt
  rw [fNumber, if_neg (by omega)]
  exact (Nat.pow_dvd_pow 2 (by omega)).mul_left _

theorem add_div_mul_of_dvd {a d : Nat} (h : d ∣ a) (x : Nat) : (a + x) / d * d = a + x / d * d := by
  rw [Nat.add_div_of_dvd_right h, Nat.add_mul, Nat.div_mul_cancel h]

/-- Clearing the low `k` bits of the fraction rounds the number down to a multiple of what the lowest bit kept is worth. -/
theorem fNumber_clearLow {m k u : Nat} (hk : k ≤ ffmtFrac fmt) (hm : m / 2 ^ ffmtFrac fmt ≠ 0)
    (hu : u = 2 ^ k * 2 ^ (m / 2 ^ ffmtFrac fmt - 1)) : fNumber fmt (m / 2 ^ k * 2 ^ k) = fNumber fmt m / u * u := by
  have hF := Nat.two_pow_pos (ffmtFrac fmt)
  have hdvd : 2 ^ k ∣ 2 ^ ffmtFrac fmt := Nat.pow_dvd_pow 2 hk
  obtain ⟨e, r, hr, rfl⟩ : ∃ e r, r < 2 ^ ffmtFrac fmt ∧ m = r + 2 ^ ffmtFrac fmt * e :=
    ⟨_, _, Nat.mod_lt m hF, (Nat.mod_add_div m _).symm⟩
  obtain ⟨hexp, -⟩ := (Nat.div_mod_unique hF).2 ⟨rfl, hr⟩
  rw [hexp] at hm hu
  have hkept : (r + 2 ^ ffmtFrac fmt * e) / 2 ^ k * 2 ^ k = r / 2 ^ k * 2 ^ k + 2 ^ ffmtFrac fmt * e := by
    rw [Nat.add_comm, add_div_mul_of_dvd (hdvd.mul_right e), Nat.add_comm]
  calc fNumber fmt ((r + 2 ^ ffmtFrac fmt * e) / 2 ^ k * 2 ^ k)
      = (2 ^ ffmtFrac fmt + r / 2 ^ k * 2 ^ k) * 2 ^ (e - 1) := by
        rw [hkept, fNumber_eq fmt ((Nat.div_mul_le_self r _).trans_lt hr), if_neg hm]
    _ = (2 ^ ffmtFrac fmt + r) / 2 ^ k * 2 ^ k * 2 ^ (e - 1) := by rw [add_div_mul_of_dvd hdvd]
    _ = fNumber fmt (r + 2 ^ ffmtFrac fmt * e) / u * u := by
        rw [fNumber_eq fmt hr, if_neg hm, hu, Nat.mul_div_mul_right _ _ (Nat.two_pow_pos _), Nat.mul_assoc]

/-! ## FTRUNC (R573) -/

theorem ftruncValue_whole {v : Word} (h : ffmtBias fmt + ffmtFrac fmt ≤ fMagnitude fmt v / 2 ^ ffmtFrac fmt) :
    ftruncValue fmt v = v := by
  have hlow : ¬fMagnitude fmt v / 2 ^ ffmtFrac fmt < ffmtBias fmt := by omega
  simp only [ftruncValue, if_neg hlow, if_pos h]

/-- The exponent of infinities and NaNs is too great for a fraction. -/
theorem ftruncValue_of_inf_le {v : Word} (h : fInfMagnitude fmt ≤ fMagnitude fmt v) : ftruncValue fmt v = v := by
  have htop : ffmtBias fmt + ffmtFrac fmt ≤ 2 ^ ffmtExp fmt - 1 := by cases fmt <;> decide
  exact ftruncValue_whole (htop.trans ((Nat.le_div_iff_mul_le (Nat.two_pow_pos _)).2 h))

theorem fSign_ftruncValue (fmt : FFmt) (v : Word) : fSign fmt (ftruncValue fmt v) = fSign fmt v := by
  have hfrac : ffmtFrac fmt ≤ ffmtWidth fmt - 1 := by cases fmt <;> decide
  simp only [ftruncValue, fSign]
  split
  next => rw [and_fSignMask_getLsbD, decide_eq_true rfl, Bool.and_true]
  next =>
    split
    next => rfl
    next => rw [clearLow_getLsbD, decide_eq_true (by omega), Bool.true_and]

theorem fNumber_ftruncValue (fmt : FFmt) (v : Word) :
    fNumber fmt (fMagnitude fmt (ftruncValue fmt v)) = fNumber fmt (fMagnitude fmt v) / fOne fmt * fOne fmt := by
  simp only [ftruncValue]
  split
  next hlow =>
    rw [fMagnitude_and_fSignMask, Nat.div_eq_of_lt (fNumber_lt_fOne hlow), Nat.zero_mul]
    simp [fNumber]
  next hlow =>
    split
    next hwhole => exact (Nat.div_mul_cancel (fOne_dvd_fNumber hwhole)).symm
    next hhigh =>
      have hbias := ffmtBias_pos fmt
      rw [fMagnitude_clearLow]
      refine fNumber_clearLow (Nat.sub_le _ _) (by omega) ?_
      rw [fOne, ← Nat.pow_add]
      congr 1
      omega

theorem fScaled_eq_fNumber (fmt : FFmt) (v : Word) :
    fScaled fmt v = if fSign fmt v then -(fNumber fmt (fMagnitude fmt v) : Int) else fNumber fmt (fMagnitude fmt v) := rfl

theorem fScaled_ftruncValue (fmt : FFmt) (v : Word) :
    fScaled fmt (ftruncValue fmt v) = (fScaled fmt v).tdiv (fUnit fmt) * fUnit fmt := by
  rw [fScaled_eq_fNumber, fScaled_eq_fNumber, fSign_ftruncValue, fNumber_ftruncValue, fUnit_eq_fOne, Int.natCast_mul,
    Int.ofNat_tdiv]
  cases fSign fmt v with
  | false => rfl
  | true => rw [if_pos rfl, if_pos rfl, Int.neg_tdiv, Int.neg_mul]

end Sys2Proof.Machine

open Sys2Proof Sys2Proof.Machine

/-- Settles O45: each instruction applies its operation to its operands, and truncation divides the number by 1 and drops what
remains. -/
theorem floatArithmeticAndComparisons : Obligations.FloatArithmeticAndComparisons := by
  refine ⟨fun f s rm sub hrm ha hb hc ht => ?fma, fun f s rm sub hrm ha hb ht => ?add,
    fun f s rm hrm ha ht => fsqrtOp_wrote hrm ha ht, fun f s rm hrm hprc ha ht => fcosOp_wrote hrm hprc ha ht,
    fun f s h => exec_fadd_reserved h, fun f s ha ht => oneOperandFloat_wrote _ f.nt ha ht,
    fun fmt v => ⟨ftruncValue_of_inf_le, fSign_ftruncValue fmt v, fun _ => fScaled_ftruncValue fmt v⟩,
    fun f s ha hb ht => ⟨fcompare_wrote _ ha hb ht, fcompare_wrote _ ha hb ht, fcompare_wrote _ ha hb ht⟩⟩
  case fma =>
    rw [exec_fmaOp]
    exact fmaOp_wrote sub hrm ha hb hc ht
  case add =>
    rw [exec_faddOp]
    exact faddOp_wrote sub hrm ha hb ht

/-- Settles O46: the two are one operation, which writes its operand with the sign bit cleared or set. -/
theorem floatAbsoluteValues : Obligations.FloatAbsoluteValues :=
  fun _ _ ha ht => ⟨fabsOp_wrote false ha ht, fabsOp_wrote true ha ht⟩

end

section
/-! PROOFS. Loads, stores and CACHE (spec/47_load_store.md R631 to R660). A load or a store is an address and one access, and CACHE is
an address and a command; each of these is settled once, for whatever computes the address and for every length, and the instructions
are its uses. -/

namespace Sys2Proof.Machine

variable {s : State}

/-- The address of the 24-bit form (R631). -/
theorem shortIndexed_ok {f : LS24} (h : s.readable .a (f.ra.setWidth 6) = true) :
    shortIndexed f s = .ok (shortAddr (s.value .a (f.ra.setWidth 6)) f.disp) s := by
  rw [shortIndexed, operand_ok h, Res.bind_ok]

/-! ## Loads (R635) -/

theorem loadReg_wrote {addr : State → Res Word} {ea : Word} {rt : BitVec 6} {n : Nat} {e : TlbEntry} (len : Nat)
    (g : Word → State → Word) (hn : n = 1 ∨ n = 2 ∨ n = 4 ∨ n = 8) (haddr : addr s = .ok ea s) (ht : s.writable rt = true)
    (hacc : s.canAccess .read ea n e = true) :
    ∃ t, (loadReg addr rt n len g s).finish = .next t ∧ s.wrote t rt (g (s.bytes (e.physAddr ea) n) s) len := by
  simp only [loadReg, haddr, target_ok ht, load_of_canAccess hn hacc, Res.bind_ok]
  exact finishWrite_wrote _ _ _ s

theorem loads_of_loadLS {mk : LS → Instr} {n : Nat} {g : Word → State → Word} (hn : n = 1 ∨ n = 2 ∨ n = 4 ∨ n = 8)
    (h : ∀ f s, exec (mk f) s = (loadLS f n g s).finish) : loads mk n (fun s v => g v s) := by
  intro f s e haddr ht hacc
  rw [h]
  exact loadReg_wrote _ g hn (indexed_ok haddr) ht hacc

/-! ## Stores (R650) -/

/-- A store, up to the end of its instruction. -/
theorem storeVal_stored {data addr : State → Res Word} {v ea : Word} {n : Nat} {e : TlbEntry} (len : Nat) (hi : s.Inv)
    (hn : n = 1 ∨ n = 2 ∨ n = 4 ∨ n = 8) (hdata : data s = .ok v s) (haddr : addr s = .ok ea s)
    (hacc : s.canAccess .write ea n e = true) :
    ∃ u, storeVal data addr n s = .ok ⟨e.physAddr ea, n, 0⟩ u ∧
      s.stored (u.advance len) ea (e.physAddr ea) n v len := by
  have hstore := storeAt_of_canAccess hn hacc v
  exact ⟨_, by simp only [storeVal, hdata, haddr, Res.bind_ok, hstore], stored_of_canAccess hi (by omega) hacc v len⟩

theorem storeVal_advance_stored {data addr : State → Res Word} {v ea : Word} {n : Nat} {e : TlbEntry} (len : Nat)
    (hi : s.Inv) (hn : n = 1 ∨ n = 2 ∨ n = 4 ∨ n = 8) (hdata : data s = .ok v s) (haddr : addr s = .ok ea s)
    (hacc : s.canAccess .write ea n e = true) :
    ∃ t, ((storeVal data addr n s).bind fun _ s => .ok () (s.advance len)).finish = .next t ∧
      s.stored t ea (e.physAddr ea) n v len := by
  obtain ⟨u, hu, hstored⟩ := storeVal_stored len hi hn hdata haddr hacc
  exact ⟨_, by rw [hu, Res.bind_ok, Res.finish_ok], hstored⟩

theorem stores_of_storeLS {mk : LS → Instr} {n : Nat} (hn : n = 1 ∨ n = 2 ∨ n = 4 ∨ n = 8)
    (h : ∀ f s, exec (mk f) s = (storeLS f n s).finish) :
    stores mk n (fun s r => s.readable .t r) (fun s r => s.value .t r) := by
  intro f s e hi haddr ht hacc
  rw [h]
  exact storeVal_advance_stored _ hi hn (operand_ok ht) (indexed_ok haddr) hacc

theorem stores_of_storeImmLS {mk : LS → Instr} {n : Nat} (hn : n = 1 ∨ n = 2 ∨ n = 4 ∨ n = 8)
    (h : ∀ f s, exec (mk f) s = (storeImmLS f n s).finish) :
    stores mk n (fun _ _ => true) (fun s r => (s.constant .t r).getD (r.signExtend 64)) := by
  intro f s e hi haddr _ hacc
  rw [h]
  exact storeVal_advance_stored _ hi hn rfl (indexed_ok haddr) hacc

/-! ## Pointer stores (R660; spec/21_memory_management.md R205) -/

theorem Cards.get_hct_mark {c : Cards} (hw : Sparse.wf c.hct = true) (pa k : Nat) :
    Sparse.get (c.mark pa).hct k = if k = pa / 2 ^ 13 % 131072 then 1#1 else Sparse.get c.hct k :=
  Sparse.get_set c.hct _ k 1#1 hw

theorem Cards.mct_mark_getLsbD (c : Cards) (pa k : Nat) :
    (c.mark pa).mct.getLsbD k = (decide (k = pa / 2 ^ 24 % 64) || c.mct.getLsbD k) := by
  have hcard : (1#64 <<< (pa / 2 ^ 24 % 64)).getLsbD k = decide (k = pa / 2 ^ 24 % 64) := by
    rw [← BitVec.twoPow_eq, BitVec.getLsbD_twoPow, decide_eq_true (Nat.mod_lt _ (by decide)), Bool.true_and]
    exact decide_eq_decide.2 eq_comm
  rw [Cards.mark, BitVec.getLsbD_or, hcard, Bool.or_comm]

theorem State.cards_of_stored {t : State} {va v : Word} {pa n len : Nat} (h : s.stored t va pa n v len) : t.cards = s.cards := by
  obtain ⟨-, -, -, -, -, -, -, -, -, hcards, -⟩ := h
  exact hcards

/-- The first byte of a span that is not empty lies where the span begins. -/
theorem Span.addr_zero {lo cut hi : Nat} (h : 0 < cut) : Span.addr ⟨lo, cut, hi⟩ 0 = lo := if_pos h

theorem storePointer_stored {data addr : State → Res Word} {v ea : Word} {e : TlbEntry} (len : Nat) (hi : s.Inv)
    (hdata : data s = .ok v s) (haddr : addr s = .ok ea s) (hacc : s.canAccess .write ea 8 e = true) :
    ∃ t, (storePointer data addr len s).finish = .next t ∧
      s.stored { t with cards := s.cards } ea (e.physAddr ea) 8 v len ∧
      (∀ k, Sparse.get t.cards.hct k = if k = e.physAddr ea / 2 ^ 13 % 131072 then 1#1 else Sparse.get s.cards.hct k) ∧
      ∀ k, k < 64 → t.cards.mct.getLsbD k = (decide (k = e.physAddr ea / 2 ^ 24 % 64) || s.cards.mct.getLsbD k) := by
  obtain ⟨u, hu, hstored⟩ := storeVal_stored len hi (by decide) hdata haddr hacc
  have hcards : (u.advance len).cards = s.cards := State.cards_of_stored hstored
  rw [State.advance_cards] at hcards
  refine ⟨{ u with cards := s.cards.mark (e.physAddr ea) }.advance len, ?_, ?_, Cards.get_hct_mark hi.hct _,
    fun k _ => Cards.mct_mark_getLsbD s.cards _ k⟩
  · rw [storePointer, hu, Res.bind_ok, Res.finish_ok, hcards, Span.addr_zero (by decide)]
  · rw [← hcards]
    exact hstored

/-! ## CACHE (R634) -/

section
variable {cmd : BitVec 6} (ea : Word) (pa : Nat)

theorem cacheCommand_clearInstructions (h : cmd.extractLsb' 0 3 = 0#3) :
    cacheCommand cmd ea pa s = { s with stale := [] } := by rw [cacheCommand, h]; rfl

theorem cacheCommand_dropLine (h : cmd.extractLsb' 0 3 = 1#3) : cacheCommand cmd ea pa s = s.invalidateLine pa := by
  rw [cacheCommand, h]; rfl

theorem cacheCommand_clearTlb (h : cmd.extractLsb' 0 3 = 2#3) : cacheCommand cmd ea pa s = s.tlbClear := by
  rw [cacheCommand, h]; rfl

theorem cacheCommand_dropPage (h : cmd.extractLsb' 0 3 = 3#3) : cacheCommand cmd ea pa s = s.tlbDrop (vpnOf ea) := by
  rw [cacheCommand, h]; rfl

theorem cacheCommand_data (h : 4 ≤ (cmd.extractLsb' 0 3).toNat) : cacheCommand cmd ea pa s = s := by
  obtain ⟨n, hn⟩ := Nat.exists_eq_add_of_le' h
  rw [cacheCommand, hn]; rfl

end

theorem State.invalidateLine_eq (s : State) (pa : Nat) :
    s.invalidateLine pa = { s with stale := s.stale.filter fun x => decide (x.1 / 64 ≠ pa / 64) } := by
  rw [State.invalidateLine, lineBytes]
  congr 2
  funext x
  simp only [ne_eq, decide_not]
  rfl

theorem exec_cache_of_ok {f : LS} {pa : Nat} (hready : s.readyAddr f = true)
    (h : cacheAddress (s.address f) s = .ok pa s) :
    exec (.cache f) s = .next ((cacheCommand f.rt (s.address f) pa s).advance (dispBytes f.disp)) := by
  show execCache f s = _
  rw [execCache, indexed_ok hready, Res.bind_ok, h, Res.bind_ok, Res.finish_ok]

theorem exec_cache_of_trap {f : LS} {x : Trap} {u : State} (hready : s.readyAddr f = true)
    (h : cacheAddress (s.address f) s = .trap x u) : exec (.cache f) s = .next (trapEntry x u) := by
  show execCache f s = _
  rw [execCache, indexed_ok hready, Res.bind_ok, h, Res.bind_trap, Res.finish_trap]

theorem cacheAddress_of_translate_trap {va : Word} {x : Trap} {u : State} (h : translate .read 0 va va s = .trap x u) :
    cacheAddress va s = .trap x u := by
  rw [cacheAddress, h, Res.bind_trap]

theorem cacheAddress_of_nothing {va : Word} {e : TlbEntry} (hpass : s.canPass .read va va 0 e = true)
    (hno : s.port va (e.physAddr va) = .nothing) : cacheAddress va s = .trap (Trap.access .read 2#8 va) s := by
  have hbus : busCheck .read va (e.physAddr va) 0 1 s = busError .read (va + BitVec.ofNat 64 (0 + 0)) s :=
    busCheck_of_nothing (by omega) (by omega) (by simpa using hno) (.inl (by decide))
  rw [cacheAddress, translate_of_canPass hpass, Res.bind_ok, hbus, Nat.zero_add, BitVec.add_zero, busError, Res.bind_trap]

end Sys2Proof.Machine

open Sys2Proof Sys2Proof.Machine

/-- Settles O47: each is the one load of its length, and a double is its own box. -/
theorem loadInstructions : Obligations.LoadInstructions :=
  ⟨loads_of_loadLS (by decide) fun _ _ => rfl, loads_of_loadLS (by decide) fun _ _ => rfl,
    loads_of_loadLS (by decide) fun _ _ => rfl, loads_of_loadLS (by decide) fun _ _ => rfl,
    loads_of_loadLS (by decide) fun _ _ => rfl, loads_of_loadLS (by decide) fun _ _ => rfl,
    loads_of_loadLS (by decide) fun _ _ => rfl, loads_of_loadLS (by decide) fun _ _ => rfl,
    loads_of_loadLS (by decide) fun _ _ => rfl, loads_of_loadLS (by decide) fun _ _ => rfl,
    fun _ _ _ ha ht hacc => loadReg_wrote 3 (fun v _ => v) (by decide) (shortIndexed_ok ha) ht hacc⟩

/-- Settles O48: each is the one store of its length, of a register or of an immediate. -/
theorem storeInstructions : Obligations.StoreInstructions :=
  ⟨stores_of_storeLS (by decide) fun _ _ => rfl, stores_of_storeLS (by decide) fun _ _ => rfl,
    stores_of_storeLS (by decide) fun _ _ => rfl, stores_of_storeLS (by decide) fun _ _ => rfl,
    stores_of_storeLS (by decide) fun _ _ => rfl, stores_of_storeLS (by decide) fun _ _ => rfl,
    stores_of_storeLS (by decide) fun _ _ => rfl, stores_of_storeImmLS (by decide) fun _ _ => rfl,
    stores_of_storeImmLS (by decide) fun _ _ => rfl, stores_of_storeImmLS (by decide) fun _ _ => rfl,
    stores_of_storeImmLS (by decide) fun _ _ => rfl,
    fun _ _ _ hi ha ht hacc => storeVal_advance_stored 3 hi (by decide) (operand_ok ht) (shortIndexed_ok ha) hacc⟩

/-- Settles O49: both lengths are the one pointer store. -/
theorem pointerStoresMarkCards : Obligations.PointerStoresMarkCards :=
  ⟨fun _ _ _ hi haddr ht hacc => storePointer_stored _ hi (operand_ok ht) (indexed_ok haddr) hacc,
    fun _ _ _ hi ha ht hacc => storePointer_stored 3 hi (operand_ok ht) (shortIndexed_ok ha) hacc⟩

/-- Settles O50: the address decides whether the command is done, and the command's low bits what it does. -/
theorem cacheCommands : Obligations.CacheCommands := by
  refine ⟨fun f s e hready hname => ?command, fun f s u x hready htrap => ?raised, fun f s e hready hpass hno => ?unanswered⟩
  case command =>
    have hexec := exec_cache_of_ok hready (cacheAddress_of_canName hname)
    refine ⟨fun h => ?_, fun h => ?_, fun h => ?_, fun h => ?_, fun h => ⟨_, hexec, ?_⟩⟩
    · rw [hexec, cacheCommand_clearInstructions _ _ h]; rfl
    · rw [hexec, cacheCommand_dropLine _ _ h, State.invalidateLine_eq]; rfl
    · rw [hexec, cacheCommand_clearTlb _ _ h]; rfl
    · rw [hexec, cacheCommand_dropPage _ _ h]; rfl
    · rw [cacheCommand_data _ _ h]
      exact s.wentTo_advance _
  case raised =>
    exact ⟨_, exec_cache_of_trap hready (cacheAddress_of_translate_trap htrap), tookException_trapEntry x u⟩
  case unanswered =>
    exact ⟨_, exec_cache_of_trap hready (cacheAddress_of_nothing hpass hno),
      tookException_trapEntry (Trap.access .read 2#8 (s.address f)) s, rfl⟩

end

section
/-! PROOFS. The equations of two functions. Lean makes them when a proof first unfolds the function, and every other proof that unfolds it
meanwhile waits, on a thread of its own. These two examples have them made by the thread that reads the file, which is ahead of the
threads that elaborate the proofs above: without them so many proofs wait at once that the stacks of their threads exceed the memory that
the compile may take. -/

namespace Sys2Proof.Machine

/-- A walk with no step left (spec/21_memory_management.md R170). -/
example (acc : Access) (va : Word) (table level idx : Nat) (upper : BitVec 12) (s : State) :
    walkTable acc va 0 table level upper idx s = pageFault acc va s := by rw [walkTable]

/-- A cache command that empties the TLB (spec/47_load_store.md R634). -/
example (ea : Word) (pa : Nat) (s : State) : cacheCommand 2#6 ea pa s = s.tlbClear := by rw [cacheCommand]; rfl

end Sys2Proof.Machine

end

section
/-! PROOFS. What the spec refuses or writes out word by word: the instructions without an effect (spec/49_capability_system_modifiers.md
R815, R846 to R878; spec/48_branch_flow.md R732 to R735, R752), NOP (R755), the words of spec/95_test_vectors.md, and the values
of reset (spec/70_reset_and_hazards.md R1001). -/

namespace Sys2Proof

/-- A group of 24-bit words alone has no longer ones (spec/30_encoding.md R222). -/
theorem only24_long {w : BitVec 96} {d : Decoded} (h : fld w 0 2 ≠ 0#2) : only24 w d = .unimplemented .length := if_neg h

end Sys2Proof

namespace Sys2Proof.Machine

/-- The meaning of every map-only row is the refusal alone. -/
theorem exec_mapOnlyInstrs : ∀ i ∈ mapOnlyInstrs, ∀ s, exec i s = .refused .mapOnly := by
  simp only [mapOnlyInstrs, mapOnlyInstrs1, mapOnlyInstrs2, mapOnlyInstrs3, mapOnlyInstrs4, mapOnlyInstrs5, mapOnlyInstrs6,
    mapOnlyInstrs7, mapOnlyInstrs8, mapOnlyInstrs9, mapOnlyInstrs10, List.forall_mem_append, List.forall_mem_cons,
    List.not_mem_nil, false_implies, implies_true, and_true]
  and_intros <;> exact fun _ => rfl

/-- The 24-bit word that ADD and AND both claim, where its parameter gives it to neither (spec/40_arithmetic.md R302). -/
theorem exec_add24_refused {s : State} (h : s.par.op16 = .refuse) : exec .add24 s = .refused .contestedOpcode := by
  show execAdd24 s = _
  rw [execAdd24, h, Res.finish_stop]

/-- Only the 24-bit word of STCTX is reserved (spec/47_load_store.md R655). -/
theorem exec_stctx_short {s : State} (h : fld s.ir 0 2 = 0#2) : exec .stctx s = (raiseUnimplemented s).finish := if_pos h

theorem exec_stctx_long {s : State} (h : fld s.ir 0 2 ≠ 0#2) : exec .stctx s = .refused .mapOnly := if_neg h

end Sys2Proof.Machine

open Sys2Proof Sys2Proof.Machine

/-- Settles O5: the state after reset is a literal. -/
theorem resetGivesStatedValues : Obligations.ResetGivesStatedValues :=
  ⟨by decide, by decide, by decide, rfl, by decide, rfl, by decide, rfl, rfl, rfl⟩

/-- Settles O17: root opcode 127 belongs to NOP in the shortest length alone. -/
theorem nopDoesNothing : Obligations.NopDoesNothing := by
  refine ⟨fun w hroot => ?_, fun s => ⟨_, rfl, s.wentTo_advance 3⟩⟩
  have hdecode : decode w = only24 w (.instr .nop) := decode_at 127 (congrArg BitVec.toNat hroot)
  exact ⟨fun h => hdecode.trans (only24_eq h), fun h => ⟨_, hdecode.trans (only24_long h)⟩⟩

/-- Settles O57: each row of the list is the one refusal. -/
theorem mapOnlyInstructionsAreRefused : Obligations.MapOnlyInstructionsAreRefused := exec_mapOnlyInstrs

/-- Settles O59: but for two words the refusal is the meaning; those two are split by a parameter and by the word's length. -/
theorem otherRefusedInstructions : Obligations.OtherRefusedInstructions := fun _ =>
  ⟨rfl, rfl, rfl, rfl, rfl, rfl, rfl, rfl, rfl, rfl, rfl, rfl, rfl, rfl, rfl, rfl, rfl, rfl, rfl, rfl, exec_add24_refused,
    exec_stctx_long, fun h => raises_of_unimplemented (exec_stctx_short h) rfl⟩

/-- Settles O60: each word is decoded as it stands. -/
theorem writtenOutWordsDecode : Obligations.WrittenOutWordsDecode := by
  refine ⟨?_, ?_, ?_, ?_, ?_, ?_, ?_, ?_⟩ <;> decide

end

section
/-! PROOFS. Taking an exception and returning from one (spec/60_exceptions.md R902 to R912; spec/48_branch_flow.md R764, R765;
spec/49_capability_system_modifiers.md R840, R844). A push moves every entry of a stack down by one and a pop moves it up again; the
status register of an exception differs from the one before it in the mode and the mask level alone. -/

namespace Sys2Proof.Machine

/-! ## The stacks (spec/10_state.md R60) -/

theorem getElem_pushStack_succ {α : Type} (v : Vector α 8) (x : α) (k : Fin 7) : (pushStack v x)[k.val + 1] = v[k.val] := by
  fin_cases k <;> rfl

theorem getElem_popStack {α : Type} (v : Vector α 8) (k : Fin 7) : (popStack v)[k.val] = v[k.val + 1] := by
  fin_cases k <;> rfl

/-- A pop undoes a push, but for the entry that the push lost. -/
theorem getElem_popStack_pushStack {α : Type} (v : Vector α 8) (x : α) (k : Fin 7) :
    (popStack (pushStack v x))[k.val] = v[k.val] := by
  rw [getElem_popStack, getElem_pushStack_succ]

/-- Two pops move every entry up by two. -/
theorem getElem_popStack_popStack {α : Type} (v : Vector α 8) (k : Fin 6) :
    (popStack (popStack v))[k.val] = v[k.val + 2] := by
  fin_cases k <;> rfl

/-! ## The status register (spec/10_state.md R36) -/

/-- The bits of the status register that an exception leaves: all but the mode and the mask level. -/
def srKept : BitVec 32 := 0xFFFF981F#32

theorem srEnter_and_srKept (sr : BitVec 32) (ipl : BitVec 6) : srEnter sr ipl &&& srKept = sr &&& srKept := by
  have hlevel : (ipl.setWidth 32 <<< 5) &&& srKept = 0#32 := by revert ipl; decide
  have hmode : 0x6000#32 &&& srKept = 0#32 := by decide
  calc srEnter sr ipl &&& srKept
      = ((sr &&& srKept) ||| 0x6000#32 ||| (ipl.setWidth 32 <<< 5)) &&& srKept := rfl
    _ = sr &&& srKept := by
      rw [BitVec.and_or_distrib_right, BitVec.and_or_distrib_right, hlevel, hmode, BitVec.and_assoc, BitVec.and_self,
        BitVec.or_zero, BitVec.or_zero]

theorem srKept_getLsbD {i : Nat} (h32 : i < 32) (h : i < 5 ∨ 14 < i) : srKept.getLsbD i = true := by
  revert i; decide

/-- A bit outside the mode and the mask level. -/
theorem srEnter_getLsbD (sr : BitVec 32) (ipl : BitVec 6) {i : Nat} (h : i < 5 ∨ 14 < i) :
    (srEnter sr ipl).getLsbD i = sr.getLsbD i := by
  by_cases h32 : i < 32
  case pos => simpa [srKept_getLsbD h32 h] using congrArg (·.getLsbD i) (srEnter_and_srKept sr ipl)
  case neg => rw [BitVec.getLsbD_of_ge _ _ (Nat.not_lt.1 h32), BitVec.getLsbD_of_ge _ _ (Nat.not_lt.1 h32)]

/-- Debug mode is one bit of the status register. -/
theorem or_srDbg_getLsbD (sr : BitVec 32) (i : Nat) : (sr ||| srDbg).getLsbD i = (sr.getLsbD i || decide (18 = i)) := by
  have hbit : srDbg = BitVec.twoPow 32 18 := by decide
  rw [BitVec.getLsbD_or, hbit, BitVec.getLsbD_twoPow]
  rfl

theorem srMode_or_srDbg (sr : BitVec 32) : srMode (sr ||| srDbg) = srMode sr := by
  rw [srMode, BitVec.extractLsb'_or, show srDbg.extractLsb' 13 2 = 0#2 by decide, BitVec.or_zero, srMode]

theorem srIpl_or_srDbg (sr : BitVec 32) : srIpl (sr ||| srDbg) = srIpl sr := by
  rw [srIpl, BitVec.extractLsb'_or, show srDbg.extractLsb' 5 6 = 0#6 by decide, BitVec.or_zero, srIpl]

/-! ## BRK and RTE -/

/-- What taking an exception is speaks of the new status register by its mode and its mask level alone. -/
theorem State.tookException.with_sr {s t : State} {cause : BitVec 8} {eip : Word} (h : s.tookException t cause eip)
    {sr : BitVec 32} (hmode : srMode sr = srMode t.sr) (hipl : srIpl sr = srIpl t.sr) :
    s.tookException { t with sr := sr } cause eip := by
  obtain ⟨hsr, heip, hmc, hm, hcause, hl, hrest⟩ := h
  exact ⟨hsr, heip, hmc, hmode.trans hm, hcause, fun hc => hipl.trans (hl hc), hrest⟩

theorem exec_rte_machine {s : State} (offs : BitVec 4) (h : s.mode = 3#2) :
    exec (.rte offs) s = .next (exceptionReturn offs s) := by
  show execRte offs s = _
  rw [execRte, h]; rfl

theorem exec_rte2_machine {s : State} (offs : BitVec 4) (h : s.mode = 3#2) :
    exec (.rte2 offs) s = .next (exceptionReturn offs { s with exc := s.exc.pop }) := by
  show execRte2 offs s = _
  rw [execRte2, h]; rfl

/-! ## ATOM (spec/49_capability_system_modifiers.md R844) -/

theorem atomLevels_getElem? {w n k : Nat} (mask : BitVec w) (h : k < n) :
    (atomLevels mask n)[k]? = some (mask.extractLsb' (3 * k) 3) := by
  simp [atomLevels, h]

theorem atomLevels_length {w : Nat} (mask : BitVec w) (n : Nat) : (atomLevels mask n).length = n := by simp [atomLevels]

end Sys2Proof.Machine

open Sys2Proof Sys2Proof.Machine

/-- Settles O13: what every exception leaves, the stacks entry by entry, and the vector by its rule. -/
theorem exceptionEntryPushesAndVectors : Obligations.ExceptionEntryPushesAndVectors := by
  intro e s
  obtain ⟨hsr, heip, hmc, hmode, hcause, -⟩ := tookException_trapEntry e s
  refine ⟨hsr, hmc, heip, fun k => ⟨getElem_pushStack_succ _ _ k, getElem_pushStack_succ _ _ k, getElem_pushStack_succ _ _ k⟩,
    hmode, ?level, srEnter_and_srKept _ _, hcause, fun _ => trapEntry_info, fun m => ?otherCauses, rfl, rfl,
    fun hrule => ?direct, fun hrule hlow => ?assigned, fun hrule hhigh => ?unassigned, rfl, ?controlRegisters, ?frame⟩
  case level =>
    refine (srIpl_srEnter _ _).trans ?_
    simp only [beq_iff_eq]
  case otherCauses => exact Vector.getElem_set_ne (by decide) _ (Nat.ne_of_gt m.isLt)
  case direct => rw [trapEntry_ip, State.vectorEntry, hrule]; rfl
  case assigned =>
    have hule : e.cause.ule 15#8 = true := decide_eq_true hlow
    rw [trapEntry_ip, State.vectorEntry, hrule, vectorOf, if_pos hule]
  case unassigned =>
    have hule : ¬e.cause.ule 15#8 = true := fun h => Nat.not_le.2 hhigh (of_decide_eq_true h)
    rw [trapEntry_ip, State.vectorEntry, hrule, vectorOf, if_neg hule]
    rfl
  case controlRegisters => exact ⟨rfl, rfl, rfl, rfl, rfl, rfl, rfl, rfl, rfl⟩
  case frame =>
    exact ⟨rfl, rfl, rfl, rfl, rfl, rfl, rfl, rfl, rfl, rfl, rfl, rfl, rfl, rfl, rfl, rfl, rfl, rfl, rfl, rfl⟩

/-- Settles O14: the pop takes up what the push put down. -/
theorem returnUndoesException : Obligations.ReturnUndoesException := fun _ _ _ hsr =>
  ⟨hsr, rfl, congrArg srMode hsr, rfl, fun k => ⟨getElem_popStack_pushStack _ _ k, getElem_popStack_pushStack _ _ k,
    getElem_popStack_pushStack _ _ k⟩⟩

/-- Settles O15: by whether the mode is machine mode. -/
theorem returnsPopTheStacks : Obligations.ReturnsPopTheStacks := by
  refine fun offs s => ⟨fun hmode => ⟨⟨_, exec_rte_machine offs hmode, rfl, rfl, fun k => ?_, rfl, rfl, rfl, rfl, rfl⟩,
    ⟨_, exec_rte2_machine offs hmode, rfl, rfl, fun k => ?_, rfl, rfl, rfl, rfl, rfl⟩⟩,
    fun hmode => ⟨refused_of_require (beq_false_of_ne hmode) rfl, refused_of_require (beq_false_of_ne hmode) rfl⟩⟩
  · exact ⟨getElem_popStack _ k, getElem_popStack _ k, getElem_popStack _ k⟩
  · exact ⟨getElem_popStack_popStack _ k, getElem_popStack_popStack _ k, getElem_popStack_popStack _ k⟩

/-- Settles O16: BRK is the exception of its cause with one more bit set; ATOM is its list of levels. -/
theorem breakAndAtom : Obligations.BreakAndAtom := by
  refine ⟨fun s => ?brk, fun m s => ⟨_, rfl, atomLevels_length m 5, fun k => atomLevels_getElem? m, rfl⟩,
    fun m s => ⟨_, rfl, atomLevels_length m 11, fun k => atomLevels_getElem? m, rfl⟩⟩
  case brk =>
    have htook := tookException_trapEntry (Trap.plain 0#8) s
    refine ⟨_, rfl, htook.with_sr (srMode_or_srDbg _) (srIpl_or_srDbg _), ?_, ?_, ?_, fun i hdbg hi => ?_⟩
    · exact (or_srDbg_getLsbD _ 18).trans (Bool.or_true _)
    · exact (srMode_or_srDbg _).trans (srMode_srEnter _ _)
    · exact (srIpl_or_srDbg _).trans (srIpl_srEnter _ _)
    · rw [or_srDbg_getLsbD, decide_eq_false (Ne.symm hdbg), Bool.or_false]
      exact srEnter_getLsbD _ _ hi

end

section
/-! PROOFS. The parameters of the run (spec/93_implementation_defined.md section 2). No instruction, exception, device or agent
writes them; that they are those of a given state is a property that each part of a step keeps. -/

namespace Sys2Proof.Machine

variable {s t : State}

theorem State.csrSet_par (s : State) (c : CsrName) (v : Word) : (s.csrSet c v).par = s.par := by cases c <;> rfl

/-- No device holds the parameters. -/
theorem deviceWrite_par (p : Place) (n : Nat) (v : Word) (s : State) :
    (deviceWrite p n v s).Keeps fun t => t.par = s.par := by
  cases p with
  | qic off => exact ite_keeps rfl trivial
  | timers second off => exact ite_keeps (s.setQit_par _ _) trivial
  | vectors off => rfl
  | regions off => rfl
  | walker off => exact ite_keeps trivial rfl
  | config b off => rfl
  | io pa => exact busStore_par _ _ _ _
  | memory => rfl
  | undescribed off => rfl
  | nothing => rfl

/-- Whether a state has given parameters. -/
def State.HasPar (p : Params) (s : State) : Prop := s.par = p

/-- No way in which an instruction changes the state writes the parameters. -/
theorem State.HasPar.stable (p : Params) : Stable (State.HasPar p) where
  tlb _ _ h := h
  fault _ _ _ h := h
  note _ _ h := h
  reg _ _ _ _ h := (State.setPhys_par _ _ _ _).trans h
  ip _ _ h := h
  byte _ _ _ h := h
  tag _ _ _ h := h
  device _ _ _ _ h := (deviceWrite_par _ _ _ _).mono fun _ hu => hu.trans h
  cards _ _ h := h
  stale _ _ h := h
  clear _ h := h
  atom _ _ _ h := h
  tick _ _ h := h
  csr _ _ _ _ h := (State.csrSet_par _ _ _).trans h
  pop _ _ h := h
  ret _ _ _ h := h

theorem State.HasPar.of_trapped {p : Params} (h : Trapped (State.HasPar p) t) : t.par = p := by
  obtain ⟨_, _, hs, rfl | rfl⟩ := h <;> exact hs

/-- An instruction, or the exception that it takes. -/
theorem exec_par {i : Instr} (e : exec i s = .next t) : t.par = s.par :=
  (exec_stable (State.HasPar.stable s.par) i rfl e).elim id State.HasPar.of_trapped

theorem finish_par {x : Res Unit} (hx : x.Keeps fun u => u.par = s.par) (e : x.finish = .next t) : t.par = s.par :=
  hx.finish (P := State.HasPar s.par) (fun _ _ hu => hu) e

theorem fetch_par (s : State) : (fetch s).Keeps fun t => t.par = s.par :=
  fetch_keeps (State.HasPar.stable s.par).toClosed (fun _ _ _ h => h) rfl

/-- The numbering of the draws is no parameter. -/
theorem advanceDraws_par {o : Host.Outcome State Fault Refusal} (e : advanceDraws o = .next t)
    (h : ∀ u, o = .next u → u.par = s.par) : t.par = s.par := by
  obtain ⟨u, hu, rfl⟩ := advanceDraws_next e
  exact h u hu

/-- The core's own turn. -/
theorem instruction_par (e : instruction s = .next t) : t.par = s.par := by
  have hfetch := fetch_par s
  unfold instruction at e
  split at e
  · cases e
  split at e
  · cases e
  cases hr : fetch s with
  | stop r => rw [hr] at e; cases e
  | trap tr u =>
    rw [hr] at e hfetch
    exact advanceDraws_par e fun v hv => by cases hv; exact hfetch
  | ok w u =>
    rw [hr] at e hfetch
    have hu : u.par = s.par := hfetch
    dsimp only at e
    split at e
    · exact advanceDraws_par e fun v hv => (exec_par hv).trans hu
    · exact advanceDraws_par e fun v hv => by cases hv; exact hu
    · cases e
    · cases e

/-! ## The moves of the other agents -/

theorem takeInterrupt_par {k : Nat} {m : Msg} (e : takeInterrupt k m s = .next t) : t.par = s.par := by
  unfold takeInterrupt at e
  dsimp only at e
  split at e
  · cases e; rfl
  · split at e <;> cases e
    rfl

theorem present_par {k : Nat} (e : present k s = .next t) : t.par = s.par := by
  unfold present at e
  split at e
  · cases e; rfl
  · split at e
    · exact takeInterrupt_par e
    · cases e; rfl

theorem takenElsewhere_par (k : Nat) (s : State) : (takenElsewhere k s).par = s.par := by
  unfold takenElsewhere
  split
  · rfl
  · split <;> rfl

theorem timerPost_par (second : Bool) (s : State) : (timerPost second s).par = s.par := by
  unfold timerPost
  split <;> rfl

theorem pageUsed_par (k : Nat) (s : State) : (pageUsed k s).par = s.par := by
  unfold pageUsed
  split
  · rfl
  · dsimp only
    split
    · exact State.setEntryBit_par _ _ _ _
    · rw [busStore_par, State.setEntryBit_par]

theorem pageWritten_par (k : Nat) (s : State) : (pageWritten k s).par = s.par := by
  unfold pageWritten
  split
  · rfl
  · rw [State.setEntryBit_par, State.setEntryBit_par]

theorem otherStore_par {pa n : Nat} {v : Word} (e : otherStore pa n v s = .next t) : t.par = s.par := by
  unfold otherStore at e
  split at e
  · cases e; exact busStore_par _ _ _ _
  · split at e
    · exact finish_par (deviceWrite_par _ _ _ _) e
    · cases e

/-- A move of another agent. -/
theorem runEvent_par {ev : Event} (e : runEvent ev s = .next t) : t.par = s.par := by
  cases ev with
  | present k => exact present_par e
  | takenElsewhere k => cases e; exact takenElsewhere_par k s
  | tick unit n ext => cases e; exact s.setQit_par _ _
  | timerPost unit => cases e; exact timerPost_par unit s
  | pageUsed k => cases e; exact pageUsed_par k s
  | pageWritten k => cases e; exact pageWritten_par k s
  | busStore pa n v => exact otherStore_par e
  | configStore b off n v => exact finish_par (deviceWrite_par (.config b off) n v s) e
  | run | message | queueFull | queueStuck | nmi | abort | evict | busErr | sema => cases e; rfl

end Sys2Proof.Machine

/-- Settles O8: by whose turn the agenda gives the step to. -/
theorem noStepChangesParameters : Obligations.NoStepChangesParameters := by
  intro s t e
  unfold Sys2Proof.Machine.step at e
  split at e
  next => exact Sys2Proof.Machine.instruction_par e
  next rest _ => exact Sys2Proof.Machine.instruction_par (s := { s with agenda := rest }) e
  next rest _ _ =>
    exact Sys2Proof.Machine.advanceDraws_par (s := s) e fun u hu =>
      Sys2Proof.Machine.runEvent_par (s := { s with agenda := rest }) hu

end

section
/-! PROOFS. The conditional branches (spec/48_branch_flow.md R701 to R741). Every one is the same branch with its own condition, its
own way to a target and, for the counting branches, a register to change; the float branches alone read their condition elsewhere. -/

namespace Sys2Proof.Machine

variable {s : State}

/-! ## The parts of a branch -/

theorem branchPrecision_ok {prc : BitVec 2} (h : s.precisionOk prc = true) : branchPrecision prc s = .ok () s := by
  rw [branchPrecision, ← State.precisionOk, h, require_true]

/-- The full precision has a meaning whatever `BR_PRC` is. -/
theorem State.precisionOk_octa {prc : BitVec 2} (h : prc = 3#2) : s.precisionOk prc = true := by rw [h]; rfl

theorem dispTarget_ok (tgt : BitVec 21) (s : State) : dispTarget tgt s = .ok (branchTarget s.ip (srAb s.sr) tgt) s := rfl

theorem regTarget_ok {tgt : BitVec 15} {rc : BitVec 6} (hc : s.readable .c rc = true) (h : tgt = 0#15) :
    regTarget tgt rc s = .ok (s.value .c rc) s := by
  rw [regTarget, h]
  exact operand_ok hc

/-- Taken or not, a branch sets the instruction pointer. -/
theorem branchTo_eq_goto (taken : Bool) (t : Word) (s : State) : branchTo taken t s = s.goto (s.branchGoes taken t) := by
  cases taken <;> rfl

/-- A branch whose precision, registers and target can be used. -/
theorem branch_ok {prc : BitVec 2} {ra rb : BitVec 6} {tgt : State → Res Word} {t : Word} (c : Cond)
    (upd : Word → State → State) (hprc : s.precisionOk prc = true) (ha : s.readable .a ra = true)
    (hb : s.readable .b rb = true) (htgt : tgt s = .ok t s) :
    branch prc ra rb tgt c upd s =
      .ok () (upd (s.value .a ra) (s.goto (s.branchGoes (condAt prc c (s.value .a ra) (s.value .b rb) s.freeBit) t))) := by
  simp only [branch, branchPrecision_ok hprc, operand_ok ha, operand_ok hb, htgt, Res.bind_ok, branchTo_eq_goto]

/-! ## The integer branches (R710 to R732) -/

theorem branches_of {mk : Br → Instr} (c : Cond) (h : ∀ f s, exec (mk f) s = (branchDisp c f s).finish) :
    branches mk c := by
  intro f s hprc ha hb
  rw [h, branchDisp, branch_ok c _ hprc ha hb (dispTarget_ok f.tgt s)]
  exact ⟨_, rfl, s.wentTo_goto _⟩

theorem branchesReg_of {mk : BrReg → Instr} (c : Cond) (h : ∀ f s, exec (mk f) s = (branchReg c f s).finish) :
    branchesReg mk c := by
  intro f s hprc ha hb hc htgt
  rw [h, branchReg, branch_ok c _ hprc ha hb (regTarget_ok hc htgt)]
  exact ⟨_, rfl, s.wentTo_goto _⟩

theorem condBc_eq : condBc = fun w a b u => if b.toNat < w then !a.getLsbD b.toNat else u := by
  funext w a b u
  rw [condBc, bitIs, beq_false]

theorem condBs_eq : condBs = fun w a b u => if b.toNat < w then a.getLsbD b.toNat else u := by
  funext w a b u
  rw [condBs, bitIs, beq_true]

theorem condNor_eq : condNor = fun _ a b _ => a == 0 && b == 0 := by
  funext w a b _
  rw [condNor, truth, truth, bne, bne, ← Bool.not_and, Bool.not_not]

/-! ## The branches on a bit (R714, R715) -/

/-- The zero register can always be read. -/
theorem State.readable_zero (s : State) (slot : Slot) : s.readable slot 0#6 = true := by
  have h : s.mayUse 0#6 = true := decide_eq_true (p := 0 ≤ s.mode.toNat) (Nat.zero_le _)
  rw [State.readable, h, Bool.or_true]

/-- Six bits number a bit of a word. -/
theorem bitIs_word (b : Bool) (v : Word) (n : BitVec 6) (u : Bool) : bitIs b v n.toNat u = (v.getLsbD n.toNat == b) :=
  if_pos n.isLt

theorem branchBit_wentTo {prc : BitVec 2} {ra n : BitVec 6} {tgt : State → Res Word} {t : Word} {b taken : Bool}
    (hprc : prc = 3#2) (ha : s.readable .a ra = true) (htgt : tgt s = .ok t s)
    (htaken : ((s.value .a ra).getLsbD n.toNat == b) = taken) :
    ∃ u, (branchBit b prc ra n tgt s).finish = .next u ∧ s.wentTo u (s.branchGoes taken t) := by
  subst hprc htaken
  rw [branchBit, branch_ok _ _ rfl ha (s.readable_zero .b) htgt]
  refine ⟨_, rfl, ?_⟩
  rw [show condAt 3#2 _ (s.value .a ra) (s.value .b 0#6) s.freeBit = bitIs b (s.value .a ra) n.toNat s.freeBit from rfl,
    bitIs_word]
  exact s.wentTo_goto _

/-! ## The float branches (R733) -/

theorem floatBranch_wentTo {prc : BitVec 2} {fn : BitVec 4} {ra rb : BitVec 6} {tgt : State → Res Word} {t : Word}
    (hroot : s.par.fbccOpcode = .root42) (hprc : prc = 3#2) (hfn : fn.toNat < 14) (ha : s.readable .a ra = true)
    (hb : s.readable .b rb = true) (htgt : tgt s = .ok t s) :
    ∃ u, (floatBranch prc fn ra rb tgt s).finish = .next u ∧
      s.wentTo u (s.branchGoes
        ((fcmpVector .double (s.value .a ra) (s.value .b rb) (s.free slotResult)).getLsbD fn.toNat) t) := by
  subst hprc
  have hformat : branchFormat 3#2 = some .double := rfl
  simp only [floatBranch, hroot, beq_self_eq_true, require_true, decide_eq_true hfn, requireDefined_true, branchPrecision_ok
    (State.precisionOk_octa rfl), hformat, operand_ok ha, operand_ok hb, htgt, Res.bind_ok, branchTo_eq_goto]
  exact ⟨_, rfl, s.wentTo_goto _⟩

/-- FCMP has fourteen bits that a float branch can test. -/
theorem floatBranch_undefined {prc : BitVec 2} {fn : BitVec 4} {ra rb : BitVec 6} {tgt : State → Res Word}
    (hroot : s.par.fbccOpcode = .root42) (hfn : 14 ≤ fn.toNat) : floatBranch prc fn ra rb tgt s = raiseUnimplemented s := by
  simp only [floatBranch, hroot, beq_self_eq_true, require_true, Res.bind_ok, decide_eq_false (Nat.not_lt.2 hfn),
    requireDefined_false, raiseUnimplemented, Res.bind_trap]

/-! ## A register written by a branch or a call -/

/-- Going to an address and writing a register changes these two alone. -/
theorem State.goto_setPhys (s : State) (rt : BitVec 6) (v : Word) (tag : Bool) (a : Word) :
    let t := (s.goto a).setPhys (s.physical rt) v tag
    s.holds t rt v tag ∧ s.sameRegsBut t rt ∧ s.sameButRegs t ∧ t.ip = a :=
  ⟨(s.goto a).holds_setPhys rt v tag, (s.goto a).sameRegsBut_setPhys rt v tag, (s.goto a).sameButRegs_setPhys _ v tag,
    State.setPhys_ip _ _ _ _⟩

/-- A register without a following constant in its place. -/
theorem State.value_of_constant_none {slot : Slot} {r : BitVec 6} (h : s.constant slot r = none) : s.value slot r = s.gpr r := by
  rw [State.value, h]; rfl

/-- A register that the mode may name can be read, whatever stands in its place. -/
theorem State.readable_of_register {slot : Slot} {r : BitVec 6} (hr : s.mayUse r = true) : s.readable slot r = true := by
  rw [State.readable, hr, Bool.or_true]

/-! ## The counting branches (R708, R739, R741) -/

theorem countBranch_effect {prc : BitVec 2} {ra rb : BitVec 6} {tgt : State → Res Word} {t : Word} (step : Word)
    (hprc : prc = 3#2) (hconst : s.constant .a ra = none) (ha : s.mayUse ra = true) (hb : s.readable .b rb = true)
    (htgt : tgt s = .ok t s) :
    ∃ u, (countBranch step prc ra rb tgt s).finish = .next u ∧
      s.holds u ra (s.gpr ra + step) false ∧ s.sameRegsBut u ra ∧ s.sameButRegs u ∧
      u.ip = s.branchGoes (s.gpr ra != s.value .b rb) t := by
  subst hprc
  have hnone : (s.constant .a ra).isNone = true := by rw [hconst]; rfl
  simp only [countBranch, hnone, require_true, Res.bind_ok,
    branch_ok _ _ (State.precisionOk_octa rfl) (State.readable_of_register ha) hb htgt,
    State.value_of_constant_none hconst]
  exact ⟨_, rfl, s.goto_setPhys ra _ false _⟩

/-- The two directions of a count. -/
theorem countStep (up : Bool) (v : Word) :
    (if up then v + 1#64 else v - 1#64) = v + (if up then 1#64 else -1#64) := by
  cases up
  case false => exact BitVec.sub_eq_add_neg v 1#64
  case true => rfl

end Sys2Proof.Machine

open Sys2Proof Sys2Proof.Machine

/-- Settles O51: each instruction is the branch of its condition, in both target forms. -/
theorem integerBranches : Obligations.IntegerBranches :=
  ⟨⟨branches_of condEq fun _ _ => rfl, branches_of condNe fun _ _ => rfl, branches_of condLtu fun _ _ => rfl,
    branches_of condLeu fun _ _ => rfl, branches_of condGeu fun _ _ => rfl, branches_of condGtu fun _ _ => rfl,
    branches_of condLt fun _ _ => rfl, branches_of condLe fun _ _ => rfl, branches_of condGe fun _ _ => rfl,
    branches_of condGt fun _ _ => rfl, condBc_eq ▸ branches_of condBc fun _ _ => rfl, condBs_eq ▸ branches_of condBs fun _ _ => rfl,
    branches_of condNandb fun _ _ => rfl, branches_of condAndb fun _ _ => rfl, branches_of condNorb fun _ _ => rfl,
    branches_of condOrb fun _ _ => rfl, branches_of condEnor fun _ _ => rfl, branches_of condEor fun _ _ => rfl,
    branches_of condNand fun _ _ => rfl, branches_of condAnd fun _ _ => rfl, condNor_eq ▸ branches_of condNor fun _ _ => rfl,
    branches_of condOr fun _ _ => rfl⟩,
   branchesReg_of condEq fun _ _ => rfl, branchesReg_of condNe fun _ _ => rfl, branchesReg_of condLtu fun _ _ => rfl,
   branchesReg_of condLeu fun _ _ => rfl, branchesReg_of condGeu fun _ _ => rfl, branchesReg_of condGtu fun _ _ => rfl,
   branchesReg_of condLt fun _ _ => rfl, branchesReg_of condLe fun _ _ => rfl, branchesReg_of condGe fun _ _ => rfl,
   branchesReg_of condGt fun _ _ => rfl, condBc_eq ▸ branchesReg_of condBc fun _ _ => rfl,
   condBs_eq ▸ branchesReg_of condBs fun _ _ => rfl, branchesReg_of condNandb fun _ _ => rfl, branchesReg_of condAndb fun _ _ => rfl,
   branchesReg_of condNorb fun _ _ => rfl, branchesReg_of condOrb fun _ _ => rfl, branchesReg_of condEnor fun _ _ => rfl,
   branchesReg_of condEor fun _ _ => rfl, branchesReg_of condNand fun _ _ => rfl, branchesReg_of condAnd fun _ _ => rfl,
   condNor_eq ▸ branchesReg_of condNor fun _ _ => rfl, branchesReg_of condOr fun _ _ => rfl⟩

/-- Settles O52: the branches on a bit, the float branches and the counting branches, each in both target forms. -/
theorem bitFloatAndCountingBranches : Obligations.BitFloatAndCountingBranches := by
  refine ⟨fun f s hprc ha => ?bit, fun f s hprc ha hc htgt => ?bitReg,
    fun f s hroot hprc hfn ha hb => floatBranch_wentTo hroot hprc hfn ha hb rfl,
    fun f s hroot hprc hfn ha hb hc htgt => floatBranch_wentTo hroot hprc hfn ha hb (regTarget_ok hc htgt),
    fun f s hroot hfn => raises_of_unimplemented rfl (floatBranch_undefined hroot hfn),
    fun f g s hrefuse => ?refused, fun f s up hprc hconst ha hb => ?count,
    fun f s up hprc hconst ha hb hc htgt => ?countReg⟩
  case bit =>
    have htarget := dispTarget_ok f.tgt s
    exact ⟨branchBit_wentTo hprc ha htarget (beq_false _), branchBit_wentTo hprc ha htarget (beq_true _)⟩
  case bitReg =>
    have htarget := regTarget_ok hc htgt
    exact ⟨branchBit_wentTo hprc ha htarget (beq_false _), branchBit_wentTo hprc ha htarget (beq_true _)⟩
  case refused =>
    have hroot : (s.par.fbccOpcode == .root42) = false := by rw [hrefuse]; rfl
    exact ⟨refused_of_require hroot rfl, refused_of_require hroot rfl⟩
  case count =>
    rw [countStep]
    cases up with
    | false => exact countBranch_effect (-1#64) hprc hconst ha hb rfl
    | true => exact countBranch_effect 1#64 hprc hconst ha hb rfl
  case countReg =>
    rw [countStep]
    cases up with
    | false => exact countBranch_effect (-1#64) hprc hconst ha hb (regTarget_ok hc htgt)
    | true => exact countBranch_effect 1#64 hprc hconst ha hb (regTarget_ok hc htgt)

end

section
/-! PROOFS. Jumps, calls and returns (spec/48_branch_flow.md R740 to R760). Each goes to an address, and all but a jump write one
register on the way; a jump through a table reads its address from memory first. -/

namespace Sys2Proof.Machine

variable {s : State}

/-- Writing a register and going to an address changes these two alone. -/
theorem State.setPhys_goto (s : State) (rt : BitVec 6) (v : Word) (tag : Bool) (a : Word) :
    let t := (s.setPhys (s.physical rt) v tag).goto a
    s.holds t rt v tag ∧ s.sameRegsBut t rt ∧ s.sameButRegs t ∧ t.ip = a :=
  ⟨s.holds_setPhys rt v tag, s.sameRegsBut_setPhys rt v tag, s.sameButRegs_setPhys _ v tag, rfl⟩

/-! ## Links (R740) -/

theorem State.link_of_ne_zero {lk : BitVec 2} (h : lk ≠ 0#2) :
    s.link lk = s.setGpr (40#6 + lk.setWidth 6) (s.nextIp 6) := by rw [State.link, beq_false_of_ne h]; rfl

theorem exec_bsr (f : Bsr) (s : State) : exec (.bsr f) s = .next ((s.link f.lk).goto (s.ip + f.const.signExtend 64)) := rfl

theorem exec_jsrDirect (f : Bsr) (s : State) :
    exec (.jsrDirect f) s = .next ((s.link f.lk).goto (f.const.setWidth 64)) := rfl

theorem State.link_zero (s : State) : s.link 0#2 = s := rfl

/-! ## Scaled indexed jumps (R746, R747) -/

theorem execJmpScaled_next {f : JmpS} (ha : s.readable .a f.ra = true) (hb : s.readable .b f.rb = true) :
    execJmpScaled f s = .next (s.goto (indexedAddr (s.value .a f.ra) (s.value .b f.rb) f.sc (dispSext f.disp))) := by
  simp only [execJmpScaled, indexed, operand_ok ha, operand_ok hb, Res.bind_ok, Res.finish_ok]

theorem execJsrScaled_next {f : LS} (haddr : s.readyAddr f = true) (ht : s.writable f.rt = true) :
    execJsrScaled f s = .next ((s.setGpr f.rt (s.nextIp (dispBytes f.disp))).goto (s.address f)) := by
  simp only [execJsrScaled, indexed_ok haddr, target_ok ht, Res.bind_ok, Res.finish_ok]

/-! ## RET (R760) -/

theorem returnTo_ok {ra : BitVec 6} {na : Bool} (offs : BitVec 4) (imm : Word) (h0 : ra ≠ 0#6) (hna : na = false)
    (ha : s.readable .a ra = true) :
    returnTo ra na offs imm s =
      .ok () ((s.setGpr 31#6 (s.gpr 31#6 + imm)).goto (s.value .a ra + 3#64 * offs.setWidth 64)) := by
  simp only [returnTo, bne_iff_ne.2 h0, requireDefined_true, hna, Bool.not_false, require_true, operand_ok ha, Res.bind_ok]

/-- Only register 0 is a wider field that is zero. -/
theorem setWidth_ne_zero {r : BitVec 5} (h : r ≠ 0#5) : r.setWidth 6 ≠ 0#6 := by
  revert r; decide

/-! ## Jumps through a table (R749 to R751) -/

theorem tableForm_ok {ar : BitVec 2} {sc : BitVec 3} (har : ar.toNat < 2) (hsc : sc.toNat < 4) :
    tableForm ar sc s = .ok () s := by
  have hsc4 : (sc == 4#3) = false := beq_false_of_ne fun h => by rw [h] at hsc; exact absurd hsc (by decide)
  simp only [tableForm, hsc4, Bool.and_false, Bool.not_false, require_true, Res.bind_ok, decide_eq_true har,
    decide_eq_true hsc, Bool.and_self, requireDefined_true]

/-- The one form whose entries have a length that the spec gives no meaning. -/
theorem tableForm_refused : tableForm 0#2 4#3 s = .stop .indirectSc4 := rfl

theorem tableForm_undefined {ar : BitVec 2} {sc : BitVec 3} (h : 2 ≤ ar.toNat ∨ 4 < sc.toNat) :
    tableForm ar sc s = raiseUnimplemented s := by
  have hcond : (!(ar == 0#2 && sc == 4#3)) = true ∧ (decide (ar.toNat < 2) && decide (sc.toNat < 4)) = false := by
    revert ar sc; decide
  rw [tableForm, hcond.1, hcond.2]
  rfl

/-- The sizes of a table's entries are those of an access. -/
theorem entrySize_of_lt {k : Nat} (h : k < 4) : 2 ^ k = 1 ∨ 2 ^ k = 2 ∨ 2 ^ k = 4 ∨ 2 ^ k = 8 := by
  interval_cases k <;> decide

theorem tableTarget_replaces {ar : BitVec 2} (h : ar = 0#2) (ip : Word) (n : Nat) (v : Word) :
    tableTarget ip ar n v = ip >>> (8 * n) <<< (8 * n) ||| zextLow n v := by rw [h]; rfl

theorem tableTarget_adds {ar : BitVec 2} (h : ar = 1#2) (ip : Word) (n : Nat) (v : Word) :
    tableTarget ip ar n v = ip + sextLow n v := by rw [h]; rfl

/-- A jump through a table whose entry can be loaded, with what else it does. -/
theorem tableJump_ok {f : JmpI} {check : State → Res Unit} {link : State → State} {e : TlbEntry}
    (ha : s.readable .a f.ra = true) (hb : s.readable .b f.rb = true) (har : f.ar.toNat < 2) (hsc : f.sc.toNat < 4)
    (hcheck : check s = .ok () s)
    (hacc : s.canAccess .read (s.value .a f.ra + tableIndex (dispZext f.limit) (s.value .b f.rb) <<< f.sc.toNat)
      (2 ^ f.sc.toNat) e = true) :
    tableJump f check link s = .ok () ((link s).goto (tableTarget s.ip f.ar (2 ^ f.sc.toNat)
      (s.bytes (e.physAddr (s.value .a f.ra + tableIndex (dispZext f.limit) (s.value .b f.rb) <<< f.sc.toNat))
        (2 ^ f.sc.toNat)))) := by
  simp only [tableJump, tableForm_ok har hsc, operand_ok ha, operand_ok hb, hcheck,
    load_of_canAccess (entrySize_of_lt hsc) hacc, Res.bind_ok]

/-- A form of a table jump without a meaning of its own does what the check of its form does. -/
theorem raises_of_tableForm {f : JmpI} (h : tableForm f.ar f.sc s = raiseUnimplemented s) :
    raises (.jmpIndirect f) s 4#8 := by
  refine raises_of_unimplemented rfl ?_
  rw [tableJump, h]
  rfl

theorem tableIndex_limit {limit b : Word} (h : b.toInt < 0 ∨ limit.toNat ≤ b.toNat) : tableIndex limit b = limit := by
  refine if_pos ?_
  rw [Bool.or_eq_true, BitVec.msb_eq_toInt, decide_eq_true_iff, BitVec.ule, decide_eq_true_iff]
  exact h

theorem tableIndex_index {limit b : Word} (hpos : 0 ≤ b.toInt) (h : b.toNat < limit.toNat) : tableIndex limit b = b := by
  refine if_neg ?_
  rw [Bool.or_eq_true, BitVec.msb_eq_toInt, decide_eq_true_iff, BitVec.ule, decide_eq_true_iff]
  omega

end Sys2Proof.Machine

open Sys2Proof Sys2Proof.Machine

/-- Settles O53: each goes to its address, with its register written where it has one. -/
theorem jumpsCallsAndReturns : Obligations.JumpsCallsAndReturns := by
  refine ⟨fun c s => ⟨⟨_, rfl, s.wentTo_goto _⟩, _, rfl, s.wentTo_goto _⟩, fun f s hlk => ?call, fun f s hlk => ?noLink,
    fun f s ha hb => ⟨_, execJmpScaled_next ha hb, s.wentTo_goto _⟩,
    fun f s haddr ht => ⟨_, execJsrScaled_next haddr ht, s.setPhys_goto f.rt _ false _⟩,
    fun f s h0 hna ha => ⟨_, congrArg Res.finish (returnTo_ok f.offs (immSext f.imm) h0 hna ha), s.setPhys_goto 31#6 _ false _⟩,
    fun f s h0 ha => ⟨_, congrArg Res.finish (returnTo_ok f.offs (f.imm.signExtend 64) (setWidth_ne_zero h0) rfl ha),
      s.setPhys_goto 31#6 _ false _⟩,
    fun f s h0 => raises_of_requireDefined (bne_eq_false_iff_eq.2 h0) rfl⟩
  case call =>
    rw [exec_bsr, exec_jsrDirect, State.link_of_ne_zero hlk]
    exact ⟨⟨_, rfl, s.setPhys_goto _ _ false _⟩, _, rfl, s.setPhys_goto _ _ false _⟩
  case noLink =>
    rw [exec_bsr, exec_jsrDirect, hlk, s.link_zero]
    exact ⟨⟨_, rfl, s.wentTo_goto _⟩, _, rfl, s.wentTo_goto _⟩

/-- Settles O54: the entry at the index, by how it makes an address; then the index; then the forms without a meaning. -/
theorem tableJumps : Obligations.TableJumps := by
  refine ⟨fun f s e ha hb har hsc hacc => ?jump, fun f s e ha hb ht har hsc hacc => ?call,
    fun _ _ => tableIndex_limit, fun _ _ => tableIndex_index,
    fun f s => ⟨fun har hsc => ?refused, fun h => raises_of_tableForm (tableForm_undefined h)⟩⟩
  case jump =>
    exact ⟨_, congrArg Res.finish (tableJump_ok ha hb har hsc rfl hacc),
      fun h => by rw [tableTarget_replaces h]; exact s.wentTo_goto _,
      fun h => by rw [tableTarget_adds h]; exact s.wentTo_goto _⟩
  case call =>
    obtain ⟨hholds, hregs, hrest, -⟩ := s.setPhys_goto f.rt (s.nextIp (dispBytes f.limit)) false _
    exact ⟨_, congrArg Res.finish (tableJump_ok (f := ⟨f.limit, f.ar, f.sc, f.rb, f.ra⟩) ha hb har hsc (target_ok ht) hacc),
      hholds, hregs, hrest, fun h => tableTarget_replaces h _ _ _, fun h => tableTarget_adds h _ _ _⟩
  case refused =>
    show (tableJump f _ _ s).finish = _
    rw [tableJump, har, hsc, tableForm_refused]
    rfl

end

section
/-! PROOFS. The capability instructions under `CAP_MODEL = external` (spec/49_capability_system_modifiers.md R781, R804 to R814; log
22). Each reads its registers with their tags; those that write a register end in one way, and those that access memory first check
the capability that gives the address. -/

namespace Sys2Proof.Machine

variable {s : State}

/-! ## Operands without a following constant -/

theorem requireCap_ok (h : s.par.capModel = .external) : requireCap s = .ok () s := by rw [requireCap, h]; rfl

theorem requireCap_refuse (h : s.par.capModel = .refuse) : requireCap s = .stop .capability := by rw [requireCap, h]; rfl

theorem operand_register (hp : s.pfx = none) (slot : Slot) {r : BitVec 6} (h : s.mayUse r = true) :
    operand slot r s = .ok (s.gpr r) s := by
  rw [operand_ok (State.readable_of_mayUse hp slot h), State.value_of_no_pfx hp]

theorem capOperand_register (hp : s.pfx = none) (slot : Slot) {r : BitVec 6} (h : s.mayUse r = true) :
    capOperand slot r s = .ok ⟨s.gpr r, s.gprTag r⟩ s := by
  rw [capOperand_ok (State.readable_of_mayUse hp slot h), State.value_of_no_pfx hp, State.constant_of_no_pfx hp]
  rfl

theorem target_register (hp : s.pfx = none) {r : BitVec 6} (h : s.mayUse r = true) : target r s = .ok () s :=
  target_ok (State.writable_of_mayUse hp h)

/-- An instruction that ends by writing a capability register changes that register, its tag and the instruction pointer. -/
theorem finishCap_holds (ct : BitVec 6) (len : Nat) (v : Word) (tag : Bool) (s : State) :
    ∃ t, (finishCap ct len v tag s).finish = .next t ∧ s.holds t ct v tag ∧ s.sameRegsBut t ct ∧ s.sameButRegs t ∧
      t.ip = s.nextIp len :=
  ⟨_, rfl, s.holds_setPhys ct v tag, s.sameRegsBut_setPhys ct v tag, s.sameButRegs_setPhys _ v tag, by
    simp [State.nextIp, State.setCap]⟩

/-! ## The instructions on registers (R810 to R814) -/

theorem exec_cClearTag {f : Cap2} (ha : s.readable .a f.ca = true) (ht : s.writable f.ct = true) :
    exec (.cClearTag f) s = (finishCap f.ct 6 (s.value .a f.ca) false s).finish := by
  show execCClearTag f s = _
  rw [execCClearTag, operand_ok ha, Res.bind_ok, target_ok ht, Res.bind_ok]

theorem exec_cAndPerm {f : CapR} (hcap : s.par.capModel = .external) (hp : s.pfx = none) (hna : f.na = false)
    (hnb : f.nb = false) (hnt : f.nt = false) (ha : s.mayUse f.ca = true) (hb : s.mayUse f.rb = true)
    (ht : s.mayUse f.ct = true) :
    exec (.cAndPerm f) s = (andPerm ⟨s.gpr f.ca, s.gprTag f.ca⟩ ((s.gpr f.rb).setWidth 12) f.ct s).finish := by
  show execCAndPerm f s = _
  simp only [execCAndPerm, requireCap_ok hcap, hna, hnb, hnt, Bool.not_false, Bool.and_self, require_true,
    capOperand_register hp .a ha, operand_register hp .b hb, target_register hp ht, Res.bind_ok]

theorem exec_cAndPermi {f : CapI} (hcap : s.par.capModel = .external) (hp : s.pfx = none) (hna : f.na = false)
    (hnt : f.nt = false) (ha : s.mayUse f.ca = true) (ht : s.mayUse f.ct = true) :
    exec (.cAndPermi f) s = (andPerm ⟨s.gpr f.ca, s.gprTag f.ca⟩ (f.imm.setWidth 12) f.ct s).finish := by
  show execCAndPermi f s = _
  simp only [execCAndPermi, requireCap_ok hcap, hna, hnt, Bool.not_false, Bool.and_self, require_true,
    capOperand_register hp .a ha, target_register hp ht, Res.bind_ok]

theorem exec_cBuildCap {f : Cap3} (hcap : s.par.capModel = .external) (hp : s.pfx = none) (ha : s.mayUse f.ca = true)
    (hb : s.mayUse f.cb = true) (ht : s.mayUse f.ct = true) :
    exec (.cBuildCap f) s = (finishCap f.ct 6
      (if buildOk ⟨s.gpr f.ca, s.gprTag f.ca⟩ (s.gpr f.cb) then builtCap (s.gpr f.ca) (s.gpr f.cb) else s.gpr f.cb)
      (buildOk ⟨s.gpr f.ca, s.gprTag f.ca⟩ (s.gpr f.cb)) s).finish := by
  show execCBuildCap f s = _
  simp only [execCBuildCap, requireCap_ok hcap, capOperand_register hp .a ha, capOperand_register hp .b hb,
    target_register hp ht, Res.bind_ok]

theorem exec_cCmp {f : Cap3} (hcap : s.par.capModel = .external) (hp : s.pfx = none) (ha : s.mayUse f.ca = true)
    (hb : s.mayUse f.cb = true) (ht : s.mayUse f.ct = true) :
    exec (.cCmp f) s = (finishWrite f.ct 6
      (ccmpResult ⟨s.gpr f.ca, s.gprTag f.ca⟩ ⟨s.gpr f.cb, s.gprTag f.cb⟩ (s.free slotResult)) s).finish := by
  show execCCmp f s = _
  simp only [execCCmp, requireCap_ok hcap, capOperand_register hp .a ha, capOperand_register hp .b hb,
    target_register hp ht, Res.bind_ok]

/-! ## The bits of a CCmp result (R814) -/

theorem getLsbD_withBit (v : Word) {i : Nat} (hi : i < 64) (b : Bool) (j : Nat) :
    (withBit v i b).getLsbD j = if j = i then b else v.getLsbD j := by
  have hbit : (1#64 <<< i).getLsbD j = decide (j = i) := by
    rw [← BitVec.twoPow_eq, BitVec.getLsbD_twoPow, decide_eq_true hi, Bool.true_and, decide_eq_decide.2 eq_comm]
  by_cases hj : j < 64
  case pos =>
    cases b
    case false =>
      rw [withBit, if_neg Bool.false_ne_true, BitVec.getLsbD_and, BitVec.getLsbD_not, hbit, decide_eq_true hj, Bool.true_and]
      by_cases h : j = i <;> simp [h]
    case true =>
      rw [withBit, if_pos rfl, BitVec.getLsbD_or, hbit]
      by_cases h : j = i <;> simp [h]
  case neg =>
    rw [BitVec.getLsbD_of_ge _ _ (Nat.not_lt.1 hj), BitVec.getLsbD_of_ge _ _ (Nat.not_lt.1 hj), if_neg (by omega)]

/-- The place of the overflow bit is none of the other two. -/
theorem ccmpOverflowBit_bounds : Config.ccmpOverflowBit < 64 ∧ Config.ccmpOverflowBit ≠ 0 ∧ Config.ccmpOverflowBit ≠ 3 := by
  unfold Config.ccmpOverflowBit
  split <;> omega

theorem Reg.eq_iff (a b : Reg) : a = b ↔ a.val = b.val ∧ a.tag = b.tag := by
  cases a
  cases b
  exact Reg.mk.injEq _ _ _ _ ▸ Iff.rfl

theorem getLsbD_ccmpResult_eq (a b : Reg) (u : Word) :
    (ccmpResult a b u).getLsbD 0 = decide (a.val = b.val ∧ a.tag = b.tag) := by
  rw [ccmpResult, getLsbD_withBit _ (by decide), if_pos rfl, Bool.eq_iff_iff, beq_iff_eq, decide_eq_true_iff, Reg.eq_iff]

theorem getLsbD_ccmpResult_le (a b : Reg) (u : Word) :
    (ccmpResult a b u).getLsbD 3 = (capSubset a.val b.val && a.tag == b.tag) := by
  rw [ccmpResult, getLsbD_withBit _ (by decide), if_neg (by decide), getLsbD_withBit _ (by decide), if_pos rfl]

theorem getLsbD_ccmpResult_overflow (a b : Reg) (u : Word) :
    (ccmpResult a b u).getLsbD Config.ccmpOverflowBit = capSealed a.val := by
  obtain ⟨hlt, h0, h3⟩ := ccmpOverflowBit_bounds
  rw [ccmpResult, getLsbD_withBit _ (by decide), if_neg h0, getLsbD_withBit _ (by decide), if_neg h3,
    getLsbD_withBit _ hlt, if_pos rfl]

/-! ## The fields of a built capability (R812) -/

/-- A field of a capability beside its object type does not see a new one. -/
theorem extractLsb'_withOtype (c : Word) (t : BitVec 4) {i n : Nat} (h : i + n ≤ 47 ∨ 51 ≤ i) :
    (withOtype c t).extractLsb' i n = c.extractLsb' i n := by
  apply BitVec.eq_of_getLsbD_eq
  intro k hk
  rw [BitVec.getLsbD_extractLsb', BitVec.getLsbD_extractLsb', withOtype_getLsbD, if_neg (by omega)]

theorem builtCap_of_sentry {ca cb : Word} (h : capSentry cb = true) :
    capSentry (builtCap ca cb) = true ∧ capSealed (builtCap ca cb) = true := by
  have hsentry : capSentry (builtCap ca cb) = true := by
    rw [capSentry, builtCap, if_pos h, capOtype_withOtype]
    exact sentryOtype_sentryType h
  exact ⟨hsentry, capSealed_of_sentry hsentry⟩

theorem capOtype_builtCap_of_not_sentry {ca cb : Word} (h : ¬capSentry cb = true) : capOtype (builtCap ca cb) = capOtype ca := by
  rw [builtCap, if_neg h, capOtype_withOtype]

/-! ## The capability load and store (R804, R806) -/

/-- A capability that does not pass its check raises the capability exception. -/
theorem requireCapability_false_took (s : State) (k : Unit → State → Res Unit) :
    ∃ t, ((requireCapability false s).bind k).finish = .next t ∧ s.tookException t Config.capCause s.ip :=
  ⟨_, rfl, tookException_trapEntry (Trap.plain Config.capCause) s⟩

/-- The load after its registers are read. -/
theorem exec_ldcapd {f : LS} (hcap : s.par.capModel = .external) (hp : s.pfx = none) (ha : s.mayUse f.ra = true)
    (hb : s.mayUse f.rb = true) (ht : s.mayUse f.rt = true) :
    exec (.ldcapd f) s =
      ((requireCapability (capLoadOk ⟨s.gpr f.ra, s.gprTag f.ra⟩ (capEa (s.gpr f.ra) (s.gpr f.rb) f)) s).bind fun _ s' =>
       (load (capEa (s.gpr f.ra) (s.gpr f.rb) f) 8 s').bind fun v s' =>
       (translate .read 8 (capEa (s.gpr f.ra) (s.gpr f.rb) f) (capEa (s.gpr f.ra) (s.gpr f.rb) f) s').bind fun pa s' =>
       finishCap f.rt (dispBytes f.disp) v
         ((capPerms (s.gpr f.ra)).getLsbD 4 && s'.port (capEa (s.gpr f.ra) (s.gpr f.rb) f) pa == .memory && s'.memTag pa)
         s').finish := by
  show execLdcapd f s = _
  simp only [execLdcapd, requireCap_ok hcap, capOperand_register hp .a ha, operand_register hp .b hb, target_register hp ht,
    Res.bind_ok]

/-- The store after its registers are read. -/
theorem exec_stcapd {f : LS} (hcap : s.par.capModel = .external) (hp : s.pfx = none) (ha : s.mayUse f.ra = true)
    (hb : s.mayUse f.rb = true) (ht : s.mayUse f.rt = true) :
    exec (.stcapd f) s =
      ((requireCapability (capStoreOk ⟨s.gpr f.ra, s.gprTag f.ra⟩ ⟨s.gpr f.rt, s.gprTag f.rt⟩
          (capEa (s.gpr f.ra) (s.gpr f.rb) f)) s).bind fun _ s' =>
       (storeAt (capEa (s.gpr f.ra) (s.gpr f.rb) f) 8 (s.gpr f.rt) s').bind fun sp s' =>
       .ok () ((storeTag (capEa (s.gpr f.ra) (s.gpr f.rb) f) sp (s.gprTag f.rt) s').advance (dispBytes f.disp))).finish := by
  show execStcapd f s = _
  simp only [execStcapd, requireCap_ok hcap, capOperand_register hp .a ha, operand_register hp .b hb,
    capOperand_register hp .t ht, Res.bind_ok]

/-- Memory answers the first byte of an access that succeeds. -/
theorem port_of_canAccess {acc : Access} {va : Word} {n : Nat} {e : TlbEntry} (hn : 0 < n)
    (h : s.canAccess acc va n e = true) : s.port va (e.physAddr va) = .memory := by
  obtain ⟨-, -, -, -, -, hport⟩ := canAccess_iff.1 h
  simpa using hport 0 hn

/-- A translation keeps the place in an octa. -/
theorem physAddr_aligned_octa {acc : Access} {va : Word} {e : TlbEntry} (h : s.canAccess acc va 8 e = true) :
    e.physAddr va % 8 = 0 := by
  obtain ⟨-, -, -, -, haligned, -⟩ := canAccess_iff.1 h
  have hva : va.toNat % 8 = 0 := beq_iff_eq.1 haligned
  rw [TlbEntry.physAddr]
  omega

theorem storeTag_of_memory {va : Word} {sp : Span} {tag : Bool} (h : s.portOf va sp 0 = .memory) :
    storeTag va sp tag s = s.setMemTag (sp.addr 0) tag := if_pos (beq_iff_eq.2 h)

/-- What a capability load leaves: the octa and its tag, which the capability may withhold. -/
theorem capLoad_effect {va : Word} {e : TlbEntry} (h : s.canAccess .read va 8 e = true) (rt : BitVec 6) (len : Nat)
    (tagged : Bool) :
    ∃ t, ((load va 8 s).bind fun v s => (translate .read 8 va va s).bind fun pa s =>
        finishCap rt len v (tagged && s.port va pa == .memory && s.memTag pa) s).finish = .next t ∧
      s.holds t rt (s.bytes (e.physAddr va) 8) (tagged && s.memTag (e.physAddr va)) ∧ s.sameRegsBut t rt ∧
      s.sameButRegs t ∧ t.ip = s.nextIp len := by
  rw [load_of_canAccess (by decide) h, Res.bind_ok, translate_of_canAccess h, Res.bind_ok, port_of_canAccess (by decide) h,
    beq_self_eq_true, Bool.and_true]
  exact finishCap_holds _ _ _ _ s

/-- Tagging the granule of an octa that was stored changes that tag alone. -/
theorem setMemTag_of_stored {u : State} {va v : Word} {pa len : Nat} (tag : Bool) (hwf : Sparse.wf u.tags = true)
    (h : s.stored (u.advance len) va pa 8 v len) (haligned : pa % 8 = 0) :
    let t := (u.setMemTag pa tag).advance len
    (∀ k, k < 8 → t.mem.byte (pa + k) = v.extractLsb' (8 * k) 8) ∧
      (∀ a, (a < pa ∨ pa + 8 ≤ a) → t.mem.byte a = s.mem.byte a) ∧
      (∀ g, Sparse.get t.tags g = if g = pa / 8 then bit1 tag else Sparse.get s.tags g) ∧
      t.regs = s.regs ∧ t.csr = s.csr ∧ t.exc = s.exc ∧ t.sr = s.sr ∧ t.cards = s.cards ∧ t.ip = s.nextIp len := by
  obtain ⟨hbytes, hother, htags, -, hregs, hsr, hcsr, hexc, -, hcards, -, -, -, -, -, -, -, -, -, -, hip, -⟩ := h
  refine ⟨hbytes, hother, fun g => (Sparse.get_set _ _ _ _ hwf).trans ?_, hregs, hcsr, hexc, hsr, hcards, hip⟩
  by_cases heq : g = pa / 8
  · rw [if_pos heq, if_pos heq]
  · rw [if_neg heq, if_neg heq, show u.tags = (u.advance len).tags from rfl, htags, if_neg (by omega)]

/-- What a capability store leaves: the octa, and the tag of its granule. -/
theorem capStore_effect {va : Word} {e : TlbEntry} (hi : s.Inv) (h : s.canAccess .write va 8 e = true) (v : Word) (tag : Bool)
    (len : Nat) :
    ∃ t, ((storeAt va 8 v s).bind fun sp s => Res.ok () ((storeTag va sp tag s).advance len)).finish = .next t ∧
      (∀ k, k < 8 → t.mem.byte (e.physAddr va + k) = v.extractLsb' (8 * k) 8) ∧
      (∀ a, (a < e.physAddr va ∨ e.physAddr va + 8 ≤ a) → t.mem.byte a = s.mem.byte a) ∧
      (∀ g, Sparse.get t.tags g = if g = e.physAddr va / 8 then bit1 tag else Sparse.get s.tags g) ∧
      t.regs = s.regs ∧ t.csr = s.csr ∧ t.exc = s.exc ∧ t.sr = s.sr ∧ t.cards = s.cards ∧ t.ip = s.nextIp len := by
  have hstored := stored_of_canAccess hi (by decide) h v len
  obtain ⟨-, hwf, -⟩ := storeBytes_effect v hi.mem hi.tags hi.stale (fun k hk => portOf_of_canAccess h hk) 8 (Nat.le_refl 8)
  rw [← State.noteStore_tags _ va 8] at hwf
  have hport : ((storeBytes s va ⟨e.physAddr va, 8, 0⟩ v 8).noteStore va 8).portOf va ⟨e.physAddr va, 8, 0⟩ 0 = .memory := by
    rw [State.portOf, port_noteStore_storeBytes]
    exact portOf_of_canAccess h (by decide)
  have haddr : Span.addr ⟨e.physAddr va, 8, 0⟩ 0 = e.physAddr va := by simp [Span.addr]
  rw [storeAt_of_canAccess (by decide) h, Res.bind_ok, storeTag_of_memory hport, haddr]
  exact ⟨_, Res.finish_ok _, setMemTag_of_stored tag hwf hstored (physAddr_aligned_octa h)⟩

end Sys2Proof.Machine

open Sys2Proof Sys2Proof.Machine

/-- Settles O55: how each instruction ends; then the bits of its result. -/
theorem capabilityRegisters : Obligations.CapabilityRegisters := by
  refine ⟨fun f s ha ht => ?clear, fun f s hcap hp hna hnb hnt ha hb ht => ?andPerm,
    fun f s hcap hp hna hnt ha ht => ?andPermi, fun f s hcap hp ha hb ht => ⟨?build, ?compare⟩,
    fun a b u => ⟨getLsbD_ccmpResult_eq a b u, getLsbD_ccmpResult_le a b u, getLsbD_ccmpResult_overflow a b u⟩,
    fun ca cb => ⟨extractLsb'_withOtype _ _ (by decide), extractLsb'_withOtype _ _ (by decide), ?otype⟩,
    fun f g s hcap => ?refused⟩
  case clear => rw [exec_cClearTag ha ht]; exact finishCap_holds _ _ _ _ s
  case andPerm => rw [exec_cAndPerm hcap hp hna hnb hnt ha hb ht]; exact finishCap_holds _ _ _ _ s
  case andPermi => rw [exec_cAndPermi hcap hp hna hnt ha ht]; exact finishCap_holds _ _ _ _ s
  case build => rw [exec_cBuildCap hcap hp ha hb ht]; exact finishCap_holds _ _ _ _ s
  case compare => rw [exec_cCmp hcap hp ha hb ht]; exact finishWrite_wrote _ _ _ s
  case otype =>
    split
    next h => exact builtCap_of_sentry h
    next h => exact capOtype_builtCap_of_not_sentry h
  case refused =>
    have hno : (s.par.capModel == .external) = false := by rw [hcap]; rfl
    exact ⟨refused_of_require hno rfl, refused_of_require hno rfl, refused_of_require hno rfl⟩

/-- Settles O56: the check of the capability, and the access behind it. -/
theorem capabilityMemory : Obligations.CapabilityMemory := by
  refine ⟨fun f s e hcap hp ha hb ht => ⟨fun hacc => ?load, fun htag => ?loadUntagged⟩,
    fun f s e hi hcap hp ha hb ht => ⟨fun hacc => ?store, fun htag => ?storeUntagged⟩⟩
  case load =>
    rw [exec_ldcapd hcap hp ha hb ht]
    split
    next hok =>
      have hcheck : capLoadOk ⟨s.gpr f.ra, s.gprTag f.ra⟩ (capEa (s.gpr f.ra) (s.gpr f.rb) f) = true := hok
      rw [hcheck, requireCapability_true, Res.bind_ok]
      exact capLoad_effect hacc _ _ _
    next hbad =>
      have hcheck : capLoadOk ⟨s.gpr f.ra, s.gprTag f.ra⟩ (capEa (s.gpr f.ra) (s.gpr f.rb) f) = false :=
        Bool.eq_false_of_not_eq_true hbad
      rw [hcheck]
      exact requireCapability_false_took s _
  case loadUntagged =>
    rw [raises, exec_ldcapd hcap hp ha hb ht, htag]
    exact requireCapability_false_took s _
  case store =>
    rw [exec_stcapd hcap hp ha hb ht]
    split
    next hok =>
      have hcheck : capStoreOk ⟨s.gpr f.ra, s.gprTag f.ra⟩ ⟨s.gpr f.rt, s.gprTag f.rt⟩
          (capEa (s.gpr f.ra) (s.gpr f.rb) f) = true := hok
      rw [hcheck, requireCapability_true, Res.bind_ok]
      exact capStore_effect hi hacc _ _ _
    next hbad =>
      have hcheck : capStoreOk ⟨s.gpr f.ra, s.gprTag f.ra⟩ ⟨s.gpr f.rt, s.gprTag f.rt⟩
          (capEa (s.gpr f.ra) (s.gpr f.rb) f) = false := Bool.eq_false_of_not_eq_true hbad
      rw [hcheck]
      exact requireCapability_false_took s _
  case storeUntagged =>
    rw [raises, exec_stcapd hcap hp ha hb ht, htag]
    exact requireCapability_false_took s _

end

section
/-! PROOFS. Interrupts (spec/60_exceptions.md R920 to R924) and the registers of their controller (R944 to R947, R951). A presented
message passes every test or changes nothing; a register is found by its offset, and the tables by the entry that the offset names. -/

namespace Sys2Proof.Machine

variable {s : State}

/-! ## Recognition (R920, R924) -/

/-- Each of the tests keeps an interrupt out. -/
theorem State.recognises_eq_false {level : BitVec 6} {swstk : BitVec 3}
    (h : level.toNat ≤ (srIpl s.sr).toNat ∨ s.sr.getLsbD s.mode.toNat = false ∨ srSwstk s.sr ≠ swstk ∨
      s.atom.head? = some 7#3) : s.recognises level swstk = false := by
  rcases h with hlevel | henable | hstack | hatom
  · have hult : (srIpl s.sr).ult level = false := decide_eq_false (Nat.not_lt.2 hlevel)
    rw [State.recognises, hult, Bool.false_and, Bool.false_and, Bool.false_and]
  · rw [State.recognises, State.irqEnabled, henable, Bool.and_false, Bool.false_and, Bool.false_and]
  · rw [State.recognises, beq_false_of_ne hstack, Bool.and_false, Bool.false_and]
  · obtain ⟨rest, hcons⟩ := List.head?_eq_some_iff.1 hatom
    rw [State.recognises, State.atomPermits, hcons]
    exact Bool.and_false _

theorem present_of_masked {k : Nat} {m : Msg} (hheld : s.qic.held[k]? = some m)
    (h : s.recognises m.priority (s.qic.vectorSwstk m.mode m.vector) = false) : present k s = .next s := by
  rw [present, hheld]
  exact if_neg (by rw [State.takes, h, Bool.and_false, Bool.and_false]; exact Bool.false_ne_true)

theorem present_of_taken {k : Nat} {m : Msg} (hheld : s.qic.held[k]? = some m) (hrule : s.par.irqDispatch = .tvec)
    (hdeliver : s.qic.deliverable m = true) (hreach : s.qic.reaches s.par.coreno m = true)
    (h : s.recognises m.priority (s.qic.vectorSwstk m.mode m.vector) = true) :
    present k s = .next (trapEntry (Trap.agent 10#8 m.priority) { s with qic := s.qic.deliver k m }) := by
  have htakes : (s.qic.deliverable m && s.takes m) = true := by rw [State.takes, hdeliver, hreach, h]; rfl
  rw [present, hheld]
  refine (if_pos htakes).trans ?_
  rw [takeInterrupt, hrule]

/-- A step whose turn is the controller's. -/
theorem step_present {rest : List Event} {k : Nat} (h : s.agenda = .present k :: rest) :
    step s = advanceDraws (present k { s with agenda := rest }) := by rw [step, h]; rfl

theorem Qic.deliver_held (q : Qic) (k : Nat) (m : Msg) : (q.deliver k m).held = q.held.eraseIdx k := by
  rw [Qic.deliver]
  split <;> rfl

/-! ## The single registers (R944) -/

/-- The four base registers, one for each mode. -/
theorem Qic.base_write (q : Qic) (m : BitVec 2) (v f g : Word) :
    (q.write (8 * m.toNat) v f).read (8 * m.toNat) g = v ∧ (q.write (8 * m.toNat) v f).base m = v := by
  have hmode : m = 0#2 ∨ m = 1#2 ∨ m = 2#2 ∨ m = 3#2 := by revert m; decide
  rcases hmode with rfl | rfl | rfl | rfl <;> exact ⟨rfl, rfl⟩

/-! ## The tables (R945 to R947) -/

variable {q : Qic} {k : Nat}

theorem Qic.read_afn (hk : k < 256) (g : Word) : q.read (0x800 + 8 * k) g = Sparse.get q.afn k := by
  simp (disch := omega) only [Qic.read, if_neg, if_pos]
  rw [show (0x800 + 8 * k - 0x800) / 8 = k by omega]

theorem Qic.write_afn (hk : k < 256) (v f : Word) :
    q.write (0x800 + 8 * k) v f = { q with afn := Sparse.set q.afn k v } := by
  simp (disch := omega) only [Qic.write, if_neg, if_pos]
  rw [show (0x800 + 8 * k - 0x800) / 8 = k by omega]

theorem Qic.read_enable (hk : k < 128) (g : Word) : q.read (0x1000 + 8 * k) g = Sparse.get q.enable k := by
  simp (disch := omega) only [Qic.read, if_neg, if_pos]
  rw [show (0x1000 + 8 * k - 0x1000) / 8 = k by omega]

theorem Qic.write_enable (hk : k < 128) (v f : Word) :
    q.write (0x1000 + 8 * k) v f = { q with enable := Sparse.set q.enable k v } := by
  simp (disch := omega) only [Qic.write, if_neg, if_pos]
  rw [show (0x1000 + 8 * k - 0x1000) / 8 = k by omega]

theorem Qic.read_pending (hk : k < 128) (g : Word) : q.read (0x1400 + 8 * k) g = Sparse.get q.pending k := by
  simp (disch := omega) only [Qic.read, if_neg, if_pos]
  rw [show (0x1400 + 8 * k - 0x1400) / 8 = k by omega]

theorem Qic.write_pending (hk : k < 128) (v f : Word) : q.write (0x1400 + 8 * k) v f = q.writePending k v f := by
  simp (disch := omega) only [Qic.write, if_neg, if_pos]
  rw [show (0x1400 + 8 * k - 0x1400) / 8 = k by omega]

/-! ## Pending bits (R947) -/

/-- The number in the low six bits of a word. -/
theorem toNat_lowSix (v : Word) : (v.extractLsb' 0 6).toNat = v.toNat % 64 := by
  rw [BitVec.extractLsb'_toNat, Nat.shiftRight_zero]

/-- A pending bit cleared is the one that the word names, in the entry that the offset names. -/
theorem Qic.pending_clear {v : Word} (hwf : Sparse.wf q.pending = true) (h : v.getLsbD 63 = false) (f : Word) (j i : Nat) :
    (Sparse.get (q.writePending k v f).pending j).getLsbD i =
      ((Sparse.get q.pending j).getLsbD i && !(j == k && i == v.toNat % 64)) := by
  have hmsb : v.msb = false := (BitVec.msb_eq_getLsbD_last v).trans h
  have hwrite : (q.writePending k v f).pending =
      Sparse.set q.pending k (withBit (Sparse.get q.pending k) (v.toNat % 64) false) := by
    rw [Qic.writePending, hmsb, toNat_lowSix]; rfl
  rw [hwrite, Sparse.get_set _ _ _ _ hwf]
  by_cases hj : j = k
  · rw [if_pos hj, getLsbD_withBit _ (by omega), hj, beq_self_eq_true, Bool.true_and]
    by_cases hi : i = v.toNat % 64 <;> simp [hi]
  · rw [if_neg hj, beq_false_of_ne hj, Bool.false_and, Bool.not_false, Bool.and_true]

theorem Qic.receive_held (q : Qic) (m : Msg) : (q.receive m).held = q.held ++ [m] := by
  rw [Qic.receive]
  split <;> rfl

/-- A message posted is for the vector of the bit that the word names. -/
theorem Qic.pending_post {v : Word} (hk : k < 128) (h : v.getLsbD 63 = true) (f : Word) :
    ∃ m : Msg, (q.writePending k v f).held = q.held ++ [m] ∧ m.mode.toNat = k / 32 ∧
      m.vector.toNat = 64 * (k % 32) + v.toNat % 64 := by
  have hmsb : v.msb = true := (BitVec.msb_eq_getLsbD_last v).trans h
  have hlow : v.toNat % 64 < 2 ^ 6 := Nat.mod_lt _ (by decide)
  refine ⟨freeMessage f (BitVec.ofNat 5 (k % 32) ++ v.extractLsb' 0 6) (BitVec.ofNat 2 (k / 32)) (f.extractLsb' 30 6),
    by rw [Qic.writePending, hmsb]; exact q.receive_held _, ?mode, ?vector⟩
  case mode =>
    show (BitVec.ofNat 2 (k / 32)).toNat = k / 32
    rw [BitVec.toNat_ofNat]
    omega
  case vector =>
    show (BitVec.ofNat 5 (k % 32) ++ v.extractLsb' 0 6).toNat = 64 * (k % 32) + v.toNat % 64
    rw [BitVec.toNat_append, toNat_lowSix, BitVec.toNat_ofNat, ← Nat.shiftLeft_add_eq_or_of_lt hlow, Nat.shiftLeft_eq]
    omega

end Sys2Proof.Machine

open Sys2Proof Sys2Proof.Machine

/-- Settles O19: the presented message, the two inputs that nothing masks, and the controller's registers by offset. -/
theorem interruptsAreRecognisedByRule : Obligations.InterruptsAreRecognisedByRule := by
  refine ⟨fun s rest k m hagenda hheld hrule => ⟨fun hmask => ?masked, fun hdeliver hreach hrec => ?taken⟩,
    fun s rest => ⟨fun h => ?nmi, fun h => ?abort⟩, fun q v f g hafn henable hpending => ?registers,
    fun s off n v => ⟨⟨rfl, _, rfl⟩, fun hn => ⟨if_neg hn, if_neg hn⟩⟩⟩
  case masked =>
    rw [step_present hagenda, present_of_masked (s := { s with agenda := rest }) hheld (State.recognises_eq_false hmask)]
    rfl
  case taken =>
    rw [step_present hagenda, present_of_taken (s := { s with agenda := rest }) hheld hrule hdeliver hreach hrec]
    exact ⟨_, rfl, tookException_trapEntry (Trap.agent 10#8 m.priority) { s with agenda := rest, qic := s.qic.deliver k m },
      srIpl_srEnter _ _, s.qic.deliver_held k m⟩
  case nmi =>
    rw [step, h]
    exact ⟨_, rfl, tookException_trapEntry (Trap.agent 11#8 0#6) { s with agenda := rest }, rfl⟩
  case abort =>
    rw [step, h]
    exact ⟨_, rfl, tookException_trapEntry (Trap.agent 9#8 0#6) { s with agenda := rest }, rfl⟩
  case registers =>
    refine ⟨fun m => q.base_write m v f g, rfl, rfl, rfl, fun k hk => ?afn, fun k hk => ?enable,
      fun k hk hclear j i hj _ => ?clear, fun k hk hpost => ?post⟩
    case afn =>
      rw [Qic.write_afn hk, Qic.read_afn hk]
      refine ⟨(Sparse.get_set _ _ _ _ hafn).trans (if_pos rfl), fun j hj hne => ?_⟩
      rw [Qic.read_afn hj, Qic.read_afn hj]
      exact (Sparse.get_set _ _ _ _ hafn).trans (if_neg hne)
    case enable =>
      rw [Qic.write_enable hk, Qic.read_enable hk]
      refine ⟨(Sparse.get_set _ _ _ _ henable).trans (if_pos rfl), fun j hj hne => ?_⟩
      rw [Qic.read_enable hj, Qic.read_enable hj]
      exact (Sparse.get_set _ _ _ _ henable).trans (if_neg hne)
    case clear =>
      rw [Qic.write_pending hk, Qic.read_pending hj, Qic.read_pending hj]
      exact Qic.pending_clear hpending hclear f j i
    case post =>
      rw [Qic.write_pending hk]
      exact Qic.pending_post hk hpost f

end

section
/-! PROOFS. The interval timers (spec/60_exceptions.md R960 to R965). A register of a timer is found by its offset, 32 bytes for each
timer and 8 for each register; one count changes one timer. -/

namespace Sys2Proof.Machine

variable {p : Params} {q : Qit} {n : Fin 32}

/-! ## One timer changed -/

theorem Qit.modify_timer (q : Qit) (n : Fin 32) (g : Timer → Timer) : (q.modify n g).timers[n] = g q.timers[n] := by
  rw [Qit.modify, dif_pos n.isLt]
  exact Vector.getElem_set_self _

theorem Qit.modify_other (q : Qit) {n k : Fin 32} (h : k ≠ n) (g : Timer → Timer) :
    (q.modify n g).timers[k] = q.timers[k] := by
  rw [Qit.modify, dif_pos n.isLt]
  exact Vector.getElem_set_ne n.isLt k.isLt fun e => h (Fin.ext e.symm)

theorem Qit.modify_ustat (q : Qit) (n : Nat) (g : Timer → Timer) : (q.modify n g).ustat = q.ustat := by
  rw [Qit.modify]
  split <;> rfl

/-! ## A timer's registers by offset (R960) -/

theorem Qit.write_missing {off : Nat} (hoff : off < 0x800) (h : p.hasTimer (off / 32) = false) (v : Word) :
    q.write p off v = q := by
  rw [Qit.write, if_pos hoff, h]; rfl

theorem Qit.read_missing {off : Nat} (hoff : off < 0x800) (h : p.hasTimer (off / 32) = false) (f : Word) :
    q.read p off f = 0#64 := by
  rw [Qit.read, if_pos hoff, dif_neg fun e => Bool.false_ne_true (h.symm.trans e.1)]

/-- The count is read-only. -/
theorem Qit.write_count (h : p.hasTimer n = true) (v : Word) : q.write p (32 * n) v = q := by
  rw [Qit.write, if_pos (by omega), show 32 * n.val / 32 = n.val by omega, if_pos h, show 32 * n.val / 8 % 4 = 0 by omega]
  rfl

theorem Qit.write_limit (h : p.hasTimer n = true) (v : Word) :
    q.write p (32 * n + 8) v = q.modify n fun t => { t with mcNew := p.counter v } := by
  rw [Qit.write, if_pos (by omega), show (32 * n.val + 8) / 32 = n.val by omega, if_pos h,
    show (32 * n.val + 8) / 8 % 4 = 1 by omega]
  rfl

theorem Qit.write_onTime (h : p.hasTimer n = true) (v : Word) :
    q.write p (32 * n + 16) v = q.modify n fun t => { t with otNew := p.counter v } := by
  rw [Qit.write, if_pos (by omega), show (32 * n.val + 16) / 32 = n.val by omega, if_pos h,
    show (32 * n.val + 16) / 8 % 4 = 2 by omega]
  rfl

theorem Qit.write_control (h : p.hasTimer n = true) (v : Word) :
    q.write p (32 * n + 24) v = q.modify n fun t => { t with ctrlNew := ctrlBits n (v.setWidth 5) } := by
  rw [Qit.write, if_pos (by omega), show (32 * n.val + 24) / 32 = n.val by omega, if_pos h,
    show (32 * n.val + 24) / 8 % 4 = 3 by omega]
  rfl

theorem Qit.read_count (h : p.hasTimer n = true) (f : Word) : q.read p (32 * n) f = q.timers[n].cc := by
  have hn : 32 * n.val / 32 = n.val := by omega
  rw [Qit.read, if_pos (by omega), dif_pos (by rw [hn]; exact ⟨h, n.isLt⟩), show 32 * n.val / 8 % 4 = 0 by omega]
  simp only [hn, Fin.getElem_fin]

theorem Qit.read_limit (h : p.hasTimer n = true) (f : Word) : q.read p (32 * n + 8) f = q.timers[n].mcNew := by
  have hn : (32 * n.val + 8) / 32 = n.val := by omega
  rw [Qit.read, if_pos (by omega), dif_pos (by rw [hn]; exact ⟨h, n.isLt⟩), show (32 * n.val + 8) / 8 % 4 = 1 by omega]
  simp only [hn, Fin.getElem_fin]

theorem Qit.read_onTime (h : p.hasTimer n = true) (f : Word) : q.read p (32 * n + 16) f = q.timers[n].otNew := by
  have hn : (32 * n.val + 16) / 32 = n.val := by omega
  rw [Qit.read, if_pos (by omega), dif_pos (by rw [hn]; exact ⟨h, n.isLt⟩), show (32 * n.val + 16) / 8 % 4 = 2 by omega]
  simp only [hn, Fin.getElem_fin]

theorem Qit.read_control (h : p.hasTimer n = true) (f : Word) :
    q.read p (32 * n + 24) f = q.timers[n].ctrlNew.setWidth 64 := by
  have hn : (32 * n.val + 24) / 32 = n.val := by omega
  rw [Qit.read, if_pos (by omega), dif_pos (by rw [hn]; exact ⟨h, n.isLt⟩), show (32 * n.val + 24) / 8 % 4 = 3 by omega]
  simp only [hn, Fin.getElem_fin]

/-! ## Control bits (R961) -/

/-- The bits of a control register that a timer has. -/
def ctrlKept (n : Nat) (v : Word) : Word := v &&& (if n < 4 then 0x1F#64 else 7#64)

theorem ctrlBits_eq_ctrlKept (n : Nat) (v : Word) : ctrlBits n (v.setWidth 5) = (ctrlKept n v).setWidth 5 := by
  have hall : (0x1F#64).setWidth 5 = BitVec.allOnes 5 := by decide
  rw [ctrlBits, ctrlKept, BitVec.setWidth_and]
  by_cases h : n < 4
  · rw [if_pos h, if_pos h, hall, BitVec.and_allOnes]
  · rw [if_neg h, if_neg h]; rfl

/-- A control register has no bits beyond the fifth. -/
theorem ctrlKept_setWidth (n : Nat) (v : Word) : ((ctrlKept n v).setWidth 5).setWidth 64 = ctrlKept n v := by
  have hmask : (if n < 4 then 0x1F#64 else 7#64).toNat < 2 ^ 5 := by split <;> decide
  have hlt : (ctrlKept n v).toNat < 2 ^ 5 := by
    rw [ctrlKept, BitVec.toNat_and]
    exact Nat.lt_of_le_of_lt Nat.and_le_right hmask
  apply BitVec.eq_of_toNat_eq
  rw [BitVec.toNat_setWidth, BitVec.toNat_setWidth, Nat.mod_eq_of_lt hlt, Nat.mod_eq_of_lt (by omega)]

/-! ## SYNC (R963) -/

theorem Qit.sync_timer (h : p.hasTimer n = true) (v : Word) :
    (q.sync p v).timers[n] = if v.getLsbD n then q.timers[n].sync else q.timers[n] := by
  rw [Qit.sync]
  refine (Vector.getElem_ofFn _).trans ?_
  rw [h, Bool.true_and]

/-! ## One count (R962) -/

/-- A count that is not at zero. -/
theorem Qit.tick_down {ext : Bool}
    (hrun : (p.hasTimer n && q.timers[n].ctrl.getLsbD 1 && q.gate.getLsbD n && (!q.timers[n].ctrl.getLsbD 4 || ext)) = true)
    (hcc : q.timers[n].cc ≠ 0#64) :
    q.tick p n ext = { q.modify n (fun t => { t with cc := p.counter (q.timers[n].cc - 1#64) }) with
      ostat := if p.counter (q.timers[n].cc - 1#64) == q.timers[n].ot then setBit q.ostat n true else q.ostat } := by
  rw [Qit.tick, dif_pos n.isLt]
  exact (if_pos hrun).trans (if_neg fun e => hcc (beq_iff_eq.1 e))

/-- What a timer becomes that has counted down: it takes its limit, or stops. -/
def Timer.expire (t : Timer) : Timer :=
  let stop := !t.ctrl.getLsbD 2
  { t with
    cc := if stop then t.cc else t.mc
    ctrl := if stop then t.ctrl &&& 0x1D#5 else t.ctrl
    ctrlNew := if stop then t.ctrlNew &&& 0x1D#5 else t.ctrlNew }

theorem Timer.expire_reload {t : Timer} (h : t.ctrl.getLsbD 2 = true) : t.expire.cc = t.mc ∧ t.expire.ctrl = t.ctrl := by
  rw [Timer.expire, h]
  exact ⟨rfl, rfl⟩

theorem Timer.expire_stop {t : Timer} (h : t.ctrl.getLsbD 2 = false) : t.expire.ctrl = t.ctrl &&& 0x1D#5 := by
  rw [Timer.expire, h]
  rfl

/-- A count that is at zero. -/
theorem Qit.tick_zero {ext : Bool}
    (hrun : (p.hasTimer n && q.timers[n].ctrl.getLsbD 1 && q.gate.getLsbD n && (!q.timers[n].ctrl.getLsbD 4 || ext)) = true)
    (hcc : q.timers[n].cc = 0#64) :
    q.tick p n ext = { q.modify n Timer.expire with ustat := setBit q.ustat n true, ostat := setBit q.ostat n false } := by
  rw [Qit.tick, dif_pos n.isLt]
  refine (if_pos hrun).trans ((if_pos (beq_iff_eq.2 hcc)).trans ?_)
  simp only [Qit.modify, n.isLt, dif_pos]
  rfl

theorem getLsbD_setBit_self (w : Word) (n : Fin 32) : (setBit w n true).getLsbD n = true :=
  (getLsbD_withBit w (by omega) true n).trans (if_pos rfl)

/-! ## Requests (R964) -/

theorem ne_zero_iff_getLsbD (w : Word) : w ≠ 0#64 ↔ ∃ n, n < 64 ∧ w.getLsbD n = true := by
  constructor
  · intro h
    by_contra hnone
    refine h (BitVec.eq_of_getLsbD_eq fun i hi => ?_)
    rw [BitVec.getLsbD_zero]
    exact Bool.eq_false_of_not_eq_true fun hbit => hnone ⟨i, hi, hbit⟩
  · rintro ⟨n, -, hbit⟩ rfl
    exact Bool.false_ne_true ((BitVec.getLsbD_zero).symm.trans hbit)

theorem Qit.requests_iff (p : Params) (q : Qit) : q.requests p = true ↔
    p.qitGlobalIe = true ∧ ∃ n, n < 64 ∧ q.ustat.getLsbD n = true ∧ q.ie.getLsbD n = true := by
  rw [Qit.requests, Bool.and_eq_true, bne_iff_ne, ne_zero_iff_getLsbD, and_comm]
  simp only [BitVec.getLsbD_and, Bool.and_eq_true]

end Sys2Proof.Machine

open Sys2Proof Sys2Proof.Machine

/-- Settles O20: one count; the registers of a timer, of one that does not exist, and of the component; the widths. -/
theorem timersCountDown : Obligations.TimersCountDown := by
  refine ⟨fun p q n ext htimer hon hgate hext => ?count, fun p q n v f htimer => ?registers,
    fun p q n k v f hnone => ?missing, fun p q v f => ?global,
    fun s second off n v => ⟨⟨rfl, rfl⟩, fun hn => ⟨if_neg hn, if_neg hn⟩⟩⟩
  case count =>
    have hrun : (p.hasTimer n && q.timers[n].ctrl.getLsbD 1 && q.gate.getLsbD n &&
        (!q.timers[n].ctrl.getLsbD 4 || ext)) = true := by
      rw [htimer, hon, hgate]
      rcases hext with h | h
      · rw [h]; rfl
      · rw [h, Bool.or_true]; rfl
    refine ⟨fun hcc => ?down, fun hcc => ?zero, fun k hk => ?other⟩
    case down =>
      rw [Qit.tick_down hrun hcc]
      exact ⟨congrArg Timer.cc (q.modify_timer n _), q.modify_ustat n _⟩
    case zero =>
      rw [Qit.tick_zero hrun hcc]
      have hself := q.modify_timer n Timer.expire
      refine ⟨getLsbD_setBit_self q.ustat n, fun hreload => ?_, fun hstop => ?_⟩
      · obtain ⟨hcount, hctrl⟩ := Timer.expire_reload hreload
        exact ⟨(congrArg Timer.cc hself).trans hcount,
          (congrArg (fun t => t.ctrl.getLsbD 1) hself).trans ((congrArg (BitVec.getLsbD · 1) hctrl).trans hon)⟩
      · refine (congrArg (fun t => t.ctrl.getLsbD 1) hself).trans ?_
        rw [Timer.expire_stop hstop, BitVec.getLsbD_and]
        exact Bool.and_false _
    case other =>
      by_cases hcc : q.timers[n].cc = 0#64
      · rw [Qit.tick_zero hrun hcc]; exact q.modify_other hk _
      · rw [Qit.tick_down hrun hcc]; exact q.modify_other hk _
  case registers =>
    refine ⟨Qit.write_count htimer v, Qit.read_count htimer f, ?limit, ?onTime, ?control, ?sync⟩
    case limit =>
      rw [Qit.write_limit htimer]
      have hself := q.modify_timer n fun t => { t with mcNew := p.counter v }
      exact ⟨hself, (Qit.read_limit htimer f).trans (congrArg Timer.mcNew hself)⟩
    case onTime =>
      rw [Qit.write_onTime htimer]
      have hself := q.modify_timer n fun t => { t with otNew := p.counter v }
      exact ⟨hself, (Qit.read_onTime htimer f).trans (congrArg Timer.otNew hself)⟩
    case control =>
      rw [Qit.write_control htimer, ctrlBits_eq_ctrlKept]
      have hself := q.modify_timer n fun t => { t with ctrlNew := (ctrlKept n v).setWidth 5 }
      refine ⟨hself, (Qit.read_control htimer f).trans ?_⟩
      rw [hself]
      exact ctrlKept_setWidth n v
    case sync =>
      have hsync := Qit.sync_timer (q := q) htimer v
      refine ⟨fun hbit => ?_, fun hbit => ?_⟩
      · rw [hbit, if_pos rfl] at hsync
        exact ⟨congrArg Timer.mc hsync, congrArg Timer.ot hsync, congrArg Timer.cc hsync, congrArg Timer.ctrl hsync,
          (Qit.read_control htimer f).trans (congrArg (fun t => t.ctrlNew.setWidth 64) hsync)⟩
      · rw [hbit, if_neg Bool.false_ne_true] at hsync
        exact hsync
  case missing =>
    have hoff : 32 * n.val + 8 * k.val < 0x800 := by omega
    have hno : p.hasTimer ((32 * n.val + 8 * k.val) / 32) = false := by
      rw [show (32 * n.val + 8 * k.val) / 32 = n.val by omega]
      exact hnone
    exact ⟨Qit.write_missing hoff hno v, Qit.read_missing hoff hno f⟩
  case global => exact ⟨rfl, rfl, rfl, rfl, rfl, rfl, rfl, rfl, rfl, rfl, rfl, q.requests_iff p⟩

end
